-- ==== Sys2Proof/Word.lean ====
section
/-! DEFINITION. The plain quantities of the LT816: bytes, bits of a line, instants of the part's own clock, part time and indices. -/

namespace Sys2Proof

/-- A byte of the station port (R173). -/
abbrev Byte := BitVec 8

/-- A bit of a line, in the order sent: `true` is 1, recessive (R125). -/
abbrev Bit := Bool

/-- An instant, or a span, of the part's own clock in ticks of 1/12 µs since the last restart. Every interval the
spec names is a whole number of these ticks. DESIGN CHOICE, notes/assumptions/1.md. -/
abbrev Instant := Nat

/-- A value of part time: milliseconds, below 2^32 (R1). -/
abbrev PartTime := Nat

/-- An object's number, counted from 1 (R1). -/
abbrev Index := Nat

/-- A counter's increase: every counter saturates at 65535 (R1). -/
def bump (n : Nat) : Nat := min 65535 (n + 1)

/-- A value reported in two bytes, saturated at 65535 (R1, R181). -/
def saturate (n : Nat) : Nat := min 65535 n

end Sys2Proof
end

