-- ==== Sys2Proof/Config.lean ====
section
/-! DEFINITION. The fixed numbers of the LT816, each from the rule its docstring names, and the free values: constants
with no body for what the spec leaves open. -/

namespace Sys2Proof.Config

/-- One bit time of the cross link, 1 µs (R125). -/
def bitTime : Instant := 12
/-- One millisecond of the part's own clock. -/
def ms : Instant := 12000
/-- The light sample interval, 100 µs (R4). -/
def lightInterval : Instant := 1200
/-- 32 samples a cycle of 50 Hz: 625 µs (R43). -/
def interval50 : Instant := 7500
/-- 32 samples a cycle of 60 Hz: 1/1920 s (R43). -/
def interval60 : Instant := 6250
/-- Three character times of the station port at 115200 baud (R173). -/
def threeChars : Instant := 3125
/-- A telegram is 74 bit times (R125). -/
def telegramTime : Instant := 74 * bitTime
/-- Eight recessive bit times before a start bit (R128, R132). -/
def idleBits : Instant := 8 * bitTime
/-- Spacing between this unit's completed telegrams, 500 µs (R128). -/
def spacing : Instant := 500 * bitTime
/-- Heartbeat, 5 ms (R127). -/
def heartbeat : Instant := 5 * ms
/-- A peer's silence timer, 15 ms (R135). -/
def silence : Instant := 15 * ms
/-- Suspension of sending, and the span of the duplicate's notice and alarm, 1000 ms (R133, R163). -/
def duplicateSpan : Instant := 1000 * ms
/-- Debounce of contacts and buttons, 4 ms (R56, R123, R154). -/
def debounce : Instant := 4 * ms
/-- STARTING lasts 1200 ms (R155). -/
def starting : Instant := 1200 * ms
/-- The test deadline, 15 minutes (R158). -/
def testSpan : Instant := 900000 * ms
/-- A FAILED order stalls 2000 ms after its start (R115). -/
def driveSpan : Instant := 2000 * ms
/-- STEADY after 2000 ms of part time (R11). -/
def steadyMs : Nat := 2000
/-- The drop count that ends an episode (R10). -/
def dropCount : Nat := 10
/-- Sample instants of a background interval (R14). -/
def intervalLength : Nat := 100
/-- Least evaluated samples for an update (R14). -/
def leastEvaluated : Nat := 50
/-- Sample instants of a capture (R37). -/
def captureLength : Nat := 1600
/-- The quiet count at which CP clears (R49). -/
def quietCount : Nat := 32
/-- One unit of a record's offsets, 100 µs (R1). -/
def offsetUnit : Instant := 1200
/-- The reply begins no sooner than 0.5 ms after the request (R174). -/
def replyDelay : Instant := 6000
/-- Part time wraps after 2^32 ms (R1). -/
def partTimeModulus : Nat := 2 ^ 32

/-- FREE VALUE. The position within its millisecond that part time has after a TIME_SET (R178 does not state it), in
ticks, taken modulo `ms`. notes/assumptions/8.md. -/
opaque timeSetPhase : Nat → Nat

/-- FREE VALUE. The next record number the store holds after the supply cut off a RECORD write (R148, R172 do not
state it), brought into 1 to 65535. notes/assumptions/9.md. -/
opaque cutRecordNumber : Nat → Nat

/-- FREE VALUE. Whether a TIME_SET broadcast of a wrong body length is counted as ignored (R174, R175 do not say).
notes/assumptions/10.md. -/
opaque wrongLengthBroadcastCounted : Nat → Bool

end Sys2Proof.Config
end

