-- ==== Sys2Proof/Syntax.lean ====
section
/-! DEFINITION. The commands of the LT816: one constructor for each row of spec/opcode_table.json, with the operands
its rule gives it. The table itself gives the rows no fields (notes/assumptions/26.md). A request carries its body
bytes as R182 lays them out. -/

namespace Sys2Proof

/-- The two auxiliary contacts of a position (R55). -/
inductive Contact where
  /-- the closed contact, CL -/
  | cl
  /-- the open contact, OP -/
  | op
  deriving DecidableEq, Repr, Inhabited

/-- What a store write left behind (R171). What a place holds after a write that fails its verify the spec does not
say, so the sender says it (notes/assumptions/14.md). -/
inductive WriteOutcome where
  /-- the read-back agreed -/
  | verified
  /-- the read-back differed: the place now has a bad check -/
  | corrupted
  /-- the read-back differed: the place still holds what it held -/
  | unchanged
  deriving DecidableEq, Repr, Inhabited

/-- Why a frame being read is discarded (R173). -/
inductive FramingCause where
  /-- a character with a stop-bit error -/
  | stopBit
  /-- a length field above 200 -/
  | length
  deriving DecidableEq, Repr, Inhabited

/-- A command to the block: one row of spec/opcode_table.json. -/
inductive Instr where
  -- power, reset and state control
  | powerOn
  | powerLoss
  | restartTerminalChange (closed : Bool)
  | restartTerminalPress
  | startingEnd
  | testTimeout
  -- light front end and supervision
  /-- the raw readings of channels 1 to 16 at one sample instant -/
  | lightSample (raw : List Nat)
  | backgroundUpdate
  | supervisionSlot (channel : Index)
  | burstEnd (channel : Index)
  | captureBurstStart (channel : Index)
  | captureEnd (channel : Index)
  -- current front end
  /-- the samples of M1 L1, L2, L3, M2 L1, … M4 L3 at one current sample instant -/
  | currentSample (samples : List Int)
  | ocHoldExpiry (point : Index)
  | cpClear (point : Index)
  -- position inputs
  | contactRawChange (position : Index) (contact : Contact) (on : Bool)
  | debounceExpiry (position : Index) (contact : Contact)
  | discrepancyExpiry (position : Index)
  -- order unit
  | minPulseExpiry (position : Index)
  | bfDeadline (position : Index)
  | driveTimeout (position : Index)
  | lockoutButtonChange (closed : Bool)
  | lockoutResetPress
  -- cross link
  | heartbeatDue
  | sendDecide
  | telegramStart
  | attemptVoided
  | arbitrationLost
  /-- whether the error fell on the start bit (R130) -/
  | bitError (onStartBit : Bool)
  | telegramCompleted
  /-- bits 1 to 73 of the telegram read, in the order read (R184) -/
  | telegramReceived (bits : List Bit)
  /-- a run of dominant bits outside a telegram, and its length in bit times (notes/assumptions/30.md) -/
  | lineDisturbance (bits : Nat := 1)
  | peerSilenceExpiry (unit : Index)
  | suspensionEnd
  | duplicateAlarmExpiry
  -- staged application
  | channelGroupApply (channel : Index)
  | pointGroupApply (point : Index)
  | topologyGroupApply
  | linkGroupApply
  -- store
  | storeWriteBegin
  | storeWriteEnd (outcome : WriteOutcome)
  -- station port
  /-- the characters of the frame given up, from its sync byte on -/
  | frameGapTimeout (read : List Byte := [195])
  /-- the cause, and the characters of the frame given up, from its sync byte on -/
  | framingDiscard (cause : FramingCause) (read : List Byte := [195])
  | frameCheckFailure
  | foreignFrame (address kind : Byte)
  | overrunDiscard
  | ignoredBroadcast (kind : Byte)
  | unknownKind (kind : Byte)
  | replySent
  -- requests: the body bytes of the addressed request
  | identify (body : List Byte)
  | status (body : List Byte)
  | readChannel (body : List Byte)
  | readPoint (body : List Byte)
  | readPosition (body : List Byte)
  | readZone (body : List Byte)
  | readOrders (body : List Byte)
  | readPeers (body : List Byte)
  | readRecord (body : List Byte)
  | ackRecord (body : List Byte)
  | fetchNotices (body : List Byte)
  | readSetting (body : List Byte)
  | writeSetting (body : List Byte)
  | discard (body : List Byte)
  | commit (body : List Byte)
  | setState (body : List Byte)
  | channelOut (body : List Byte)
  | channelIn (body : List Byte)
  | captureReference (body : List Byte)
  | simulateLight (body : List Byte)
  | simulateCurrent (body : List Byte)
  | testTrip (body : List Byte)
  | cancelOrder (body : List Byte)
  | resetLockout (body : List Byte)
  | timeSet (broadcast : Bool) (body : List Byte)
  | restart (body : List Byte)
  -- buttons, reply and line
  | lockoutButtonRelease
  | restartTerminalRelease
  | replyStart
  | startBitSeen
  deriving DecidableEq, Repr

end Sys2Proof
end

