-- ==== Sys2Proof/Machine/State.lean ====
section
/-! DEFINITION. Everything the spec gives the LT816 to hold, as plain data: the records of its blocks, each field under
the name its table gives it, the settings, the non-volatile store, the station port and the queue of waiting commands.
A field of a record table that is at every moment a function of other fields (threshold, light flag, pickup level,
cleared, exported light, apply progress …) is a view, computed in Machine/Flags.lean (notes/assumptions/27.md). -/

namespace Sys2Proof.Machine

/-! ## Settings (R165) -/

/-- Channel kind (R2). -/
inductive ChannelKind where
  | unused | loop | point
  deriving DecidableEq, Repr, Inhabited

/-- The items of a channel group (R165). -/
structure ChannelSettings where
  kind : ChannelKind
  /-- pickup setting θ_set -/
  pickup : Nat
  /-- background margin Δ -/
  margin : Nat
  /-- qualification count K -/
  qualify : Nat
  /-- reference T_ref -/
  reference : Nat
  deriving DecidableEq, Repr, Inhabited

/-- The items of a point group (R165). -/
structure PointSettings where
  attached : Option Index
  /-- pickup setting k, tenths of I_n -/
  pickup : Nat
  /-- breaker-failure current k_bf, tenths of I_n -/
  present : Nat
  /-- hold time, ms -/
  hold : Nat
  /-- exported link current -/
  exported : Option Index
  deriving DecidableEq, Repr, Inhabited

/-- A node item of a position (R65). -/
inductive Node where
  | none
  | zone (z : Index)
  | source (i : Index)
  deriving DecidableEq, Repr, Inhabited

/-- A position in another unit's room (R76, R102); also one request flag of the telegram. -/
structure RemoteEntry where
  unit : Index
  position : Index
  deriving DecidableEq, Repr, Inhabited

/-- The items of a position (R65, R55, R102). Sets are ascending lists. -/
structure PositionSettings where
  nodeA : Node
  nodeB : Node
  wired : Bool
  /-- discrepancy time, ms -/
  discrepancy : Nat
  /-- breaker-failure time, ms -/
  failTime : Nat
  /-- minimum pulse, ms -/
  minPulse : Nat
  backups : List Index
  accept : List Index
  remoteBackups : List (Option RemoteEntry)
  deriving DecidableEq, Repr, Inhabited

/-- Zone mode (R84). -/
inductive ZoneMode where
  | checked | lightOnly | blocked
  deriving DecidableEq, Repr, Inhabited

/-- Lost-current fallback (R84). -/
inductive Fallback where
  | hold | lightOnly
  deriving DecidableEq, Repr, Inhabited

/-- The items of a zone (R84). -/
structure ZoneSettings where
  mode : ZoneMode
  members : List Index
  importZones : List Index
  importCurrents : List Index
  exportZone : Option Index
  remoteList : List (Option RemoteEntry)
  fallback : Fallback
  deriving DecidableEq, Repr, Inhabited

/-- The topology group: eight positions, four sources, eight zones (R165). -/
structure TopologySettings where
  positions : List PositionSettings
  sources : List Bool
  zones : List ZoneSettings
  deriving DecidableEq, Repr, Inhabited

/-- The link group (R138). -/
structure LinkSettings where
  unit : Nat
  peers : List Index
  owners : List (Option Index)
  deriving DecidableEq, Repr, Inhabited

/-- Nominal frequency (R43). -/
inductive Frequency where
  | hz50 | hz60
  deriving DecidableEq, Repr, Inhabited

/-- The station group (R165). -/
structure StationSettings where
  address : Nat
  frequency : Frequency
  deriving DecidableEq, Repr, Inhabited

/-- A whole set of settings: the 23 parts (R165). -/
structure Settings where
  channels : List ChannelSettings
  points : List PointSettings
  topology : TopologySettings
  link : LinkSettings
  station : StationSettings
  deriving DecidableEq, Repr, Inhabited

/-- Factory defaults of a channel (R165). -/
def ChannelSettings.factory : ChannelSettings :=
  { kind := .unused, pickup := 1200, margin := 600, qualify := 3, reference := 2000 }
/-- Factory defaults of a point (R165). -/
def PointSettings.factory : PointSettings :=
  { attached := none, pickup := 25, present := 2, hold := 20, exported := none }
/-- Factory defaults of a position (R165). -/
def PositionSettings.factory : PositionSettings :=
  { nodeA := .none, nodeB := .none, wired := false, discrepancy := 150, failTime := 120, minPulse := 150,
    backups := [], accept := [], remoteBackups := List.replicate 4 none }
/-- Factory defaults of a zone (R84). -/
def ZoneSettings.factory : ZoneSettings :=
  { mode := .blocked, members := [], importZones := [], importCurrents := [], exportZone := none,
    remoteList := List.replicate 4 none, fallback := .hold }
/-- The factory defaults (R165). -/
def Settings.factory : Settings :=
  { channels := List.replicate 16 .factory
    points := List.replicate 4 .factory
    topology :=
      { positions := List.replicate 8 .factory, sources := List.replicate 4 false, zones := List.replicate 8 .factory }
    link := { unit := 0, peers := [], owners := List.replicate 8 none }
    station := { address := 1, frequency := .hz50 } }

/-! ## Light channels and supervision (R3, R26) -/

/-- Supervised condition of a channel (R26). -/
inductive Health where
  | good | dim | broken
  deriving DecidableEq, Repr, Inhabited

/-- Detection state (R3). -/
inductive Detection where
  | unused | out | referencing | suspended | dark | pickup | lit | steady
  deriving DecidableEq, Repr, Inhabited

/-- Kind of the current run of fails (R26). -/
inductive StrikeKind where
  | none | dim | broken
  deriving DecidableEq, Repr, Inhabited

/-- Outcome of a supervision burst (R31). -/
inductive BurstResult where
  | pass | failDim | failBroken
  deriving DecidableEq, Repr, Inhabited

/-- A running supervision burst: pulses taken and the sum of their returns (R29). -/
structure Burst where
  pulses : Nat
  sum : Nat
  deriving DecidableEq, Repr, Inhabited

/-- A running reference capture (R37): bursts begun, sample instants passed since capture burst 1 began, pulses taken
and their sum in the running capture burst, and the sum of the means so far. -/
structure Capture where
  begun : Nat
  samples : Nat
  pulses : Nat
  sum : Nat
  means : Nat
  deriving DecidableEq, Repr, Inhabited

/-- A channel record with its supervision record (R3, R26) and its share of the running background interval (R14). -/
structure Channel where
  gain : Nat
  health : Health
  background : Nat
  detection : Detection
  pickupCount : Nat
  drops : Nat
  litSince : Option PartTime
  lastValue : Nat
  simulated : Bool
  strikeKind : StrikeKind
  strikeCount : Nat
  passRun : Nat
  lastReturn : Option Nat
  lastResult : Option BurstResult
  lastBurst : Option PartTime
  slotMark : Option Nat
  burst : Option Burst
  passes : Nat
  dimFails : Nat
  brokenFails : Nat
  skipped : Nat
  captured : Option Nat
  capture : Option Capture
  /-- evaluated samples of the running interval -/
  evaluated : Nat
  /-- the sum of their L_c -/
  evaluatedSum : Nat
  /-- one of them was taken in a light episode or lay at or above θ -/
  touchedLight : Bool
  deriving DecidableEq, Repr, Inhabited

/-- The values of R24 and R26 after a restart, for a used or an unused channel. -/
def Channel.fresh (used : Bool) : Channel :=
  { gain := 256, health := .good, background := 0, detection := if used then .dark else .unused, pickupCount := 0,
    drops := 0, litSince := none, lastValue := 0, simulated := false, strikeKind := .none, strikeCount := 0,
    passRun := 0, lastReturn := none, lastResult := none, lastBurst := none, slotMark := none, burst := none,
    passes := 0, dimFails := 0, brokenFails := 0, skipped := 0, captured := none, capture := none, evaluated := 0,
    evaluatedSum := 0, touchedLight := false }

/-- The light front end: the last sample instant taken, the sample instants passed of the background interval (R14)
and the sixteen channels. -/
structure LightFront where
  lastSample : Option Instant
  interval : Nat
  channels : List Channel
  deriving DecidableEq, Repr, Inhabited

/-! ## Measurement points (R42) -/

/-- A point record (R42). -/
structure Point where
  magnitudes : List Nat
  armed : List Bool
  lastQualifying : Option Instant
  oc : Bool
  cp : Bool
  quiet : Nat
  simulated : Bool
  peak : Option Nat
  pickups : Nat
  /-- the hold time of the present OC episode, ms: the one in force when OC last set (R47, R53) -/
  episodeHold : Nat
  /-- the last current sample instant found OC's hold run, so that OC clears at it (R47) -/
  holdOver : Bool
  deriving DecidableEq, Repr, Inhabited

/-- The values of R54 after a restart. -/
def Point.fresh : Point :=
  { magnitudes := [0, 0, 0], armed := [false, false, false], lastQualifying := none, oc := false, cp := false,
    quiet := 0, simulated := false, peak := none, pickups := 0, episodeHold := 0, holdOver := false }

/-- The current front end: the next current sample instant, the last one taken and the four points (R43). -/
structure CurrentFront where
  next : Instant
  last : Option Instant
  points : List Point
  deriving DecidableEq, Repr, Inhabited

/-! ## Positions (R55) -/

/-- Derived position (R57). -/
inductive Derived where
  | closed | opened | travel | invalid | none
  deriving DecidableEq, Repr, Inhabited

/-- One contact input: its raw and taken states (on is `true`) and its debounce timer (R56). -/
structure ContactInput where
  raw : Bool
  taken : Bool
  timer : Option Instant
  deriving DecidableEq, Repr, Inhabited

/-- A position record (R55). -/
structure Position where
  cl : ContactInput
  op : ContactInput
  derived : Derived
  changedAt : PartTime
  travelStart : Option Instant
  /-- the discrepancy time has run while both contacts have been off (R57) -/
  expired : Bool
  changes : Nat
  deriving DecidableEq, Repr, Inhabited

/-! ## Zones (R85) and their topology records (R66) -/

/-- Trip attribute of zones, orders and records (R1). -/
inductive Attribute where
  | live | dry
  deriving DecidableEq, Repr, Inhabited

/-- Zone state (R85). -/
inductive ZoneState where
  | quiet | alert | tripped
  deriving DecidableEq, Repr, Inhabited

/-- Result of the trip condition (R88). -/
inductive Condition where
  | none | dry | live
  deriving DecidableEq, Repr, Inhabited

/-- Why a lit zone does not trip (R89). -/
inductive AlertReason where
  | noCurrent | currentUnavailable | zoneBlocked | heldOutOfService
  deriving DecidableEq, Repr, Inhabited

/-- A zone record with its topology record (R85, R66). -/
structure Zone where
  state : ZoneState
  attr : Option Attribute
  realLight : Bool
  dryLight : Bool
  realCurrent : Bool
  dryCurrent : Bool
  unavailable : Bool
  condition : Condition
  alertReason : Option AlertReason
  alertMark : Bool
  remoteHeld : Bool
  since : PartTime
  trips : Nat
  clearing : List Index
  confirmation : List Index
  setsChangedAt : PartTime
  setChanges : Nat
  deriving DecidableEq, Repr, Inhabited

/-- The values of R85 and R66 after a restart, with the sets computed then (R75). -/
def Zone.fresh (clearing confirmation : List Index) : Zone :=
  { state := .quiet, attr := none, realLight := false, dryLight := false, realCurrent := false,
    dryCurrent := false, unavailable := false, condition := .none, alertReason := none, alertMark := false,
    remoteHeld := false, since := 0, trips := 0, clearing, confirmation, setsChangedAt := 0, setChanges := 0 }

/-! ## Orders (R101) and trip records (R142) -/

/-- Stage of an order (R101). -/
inductive Stage where
  | driving | confirmed | failed | stalled
  deriving DecidableEq, Repr, Inhabited

/-- Origin kind of a cause (R101). -/
inductive Origin where
  | zone | remote | backup | test
  deriving DecidableEq, Repr, Inhabited

/-- A cause: origin kind and index (R101). -/
structure Cause where
  origin : Origin
  index : Nat
  deriving DecidableEq, Repr, Inhabited

/-- A trip order (R101). -/
structure Order where
  position : Index
  attr : Attribute
  stage : Stage
  causes : List Cause
  further : Nat
  testOnly : Bool
  startedAt : Instant
  deadline : Instant
  supervised : Bool
  escalated : Option Bool
  remoteHeld : Bool
  deriving DecidableEq, Repr, Inhabited

/-- Stage of a record's entry (R142). -/
inductive EntryStage where
  | driving | confirmed | failed | stalled | withdrawn
  deriving DecidableEq, Repr, Inhabited

/-- An entry of a trip record (R142). -/
structure Entry where
  position : Index
  cause : Cause
  live : Bool
  stage : EntryStage
  created : Nat
  confirmed : Option Nat
  released : Option Nat
  deriving DecidableEq, Repr, Inhabited

/-- State of a trip record (R141). -/
inductive RecordState where
  | opened | unread | read
  deriving DecidableEq, Repr, Inhabited

/-- A trip record (R142). -/
structure TripRecord where
  number : Nat
  kind : Attribute
  state : RecordState
  openedAt : PartTime
  cause : Cause
  light : List Index
  zones : List Index
  peaks : Option (List Nat)
  entries : List Entry
  lost : Nat
  olderLost : Bool
  /-- a stored copy was made (R148: a record written again replaces its own stored copy) -/
  written : Bool
  /-- the number of the LIVE record discarded at the opening, whose stored copy this record's first write overwrites
  (R143) -/
  replaces : Option Nat
  deriving DecidableEq, Repr, Inhabited

/-! ## Notices (R149) -/

/-- Kinds of notices, in the order of R149. -/
inductive NoticeKind where
  | channelHealth | steadyLight | referenceDone | referenceFailed | positionChange | zoneAlert | zoneTrip | noSource
  | orderFailed | driveTimeout | remoteRefused | peerState | duplicateUnit | recordClosed | recordsNearlyFull
  | stateChange | applyDone | storeFault | testTimeout | restarted | lost
  deriving DecidableEq, Repr, Inhabited

/-- A notice entry (R149). -/
structure Notice where
  kind : NoticeKind
  subject : Nat
  value : Nat
  time : PartTime
  deriving DecidableEq, Repr, Inhabited

/-! ## The cross link (R125 to R140) -/

/-- Transmitter state. -/
inductive Transmitter where
  | off | idle | due | armed | sending
  deriving DecidableEq, Repr, Inhabited

/-- The state field of a telegram, 0 to 3 (R125), and a peer's reported state (R134). -/
inductive Reported where
  | startingOrOther | inService | test | outOfService
  deriving DecidableEq, Repr, Inhabited

/-- The content of a telegram (R126): sets as ascending lists, request flags by unit and then position. -/
structure Content where
  unit : Nat
  state : Reported
  zones : List Index
  currents : List Index
  requests : List RemoteEntry
  deriving DecidableEq, Repr, Inhabited

/-- Peer state (R135). -/
inductive PeerState where
  | waiting | live | lost
  deriving DecidableEq, Repr, Inhabited

/-- A peer record (R134). -/
structure Peer where
  unit : Index
  state : PeerState
  reported : Option Reported
  light : List Index
  current : List Index
  requests : List Index
  lastHeard : Option Instant
  silence : Option Instant
  deriving DecidableEq, Repr, Inhabited

/-- A peer as it is set up at the restart and at an application of the link group (R134). -/
def Peer.fresh (u : Index) : Peer :=
  { unit := u, state := .waiting, reported := none, light := [], current := [], requests := [], lastHeard := none,
    silence := none }

/-- The link counters (R139). -/
structure LinkCounters where
  checkFailures : Nat
  framingErrors : Nat
  arbitrationLosses : Nat
  voidedStarts : Nat
  strangers : Nat
  duplicates : Nat
  deriving DecidableEq, Repr, Inhabited

/-- The link counters after a restart (R140). -/
def LinkCounters.zero : LinkCounters :=
  { checkFailures := 0, framingErrors := 0, arbitrationLosses := 0, voidedStarts := 0, strangers := 0,
    duplicates := 0 }

/-- The cross link controller. -/
structure Link where
  tx : Transmitter
  /-- content taken at the decision to send (R128) -/
  snapshot : Option Content
  /-- the instant of that decision, while ARMED (R128) -/
  decided : Option Instant
  /-- the 74 bits being driven (R125) -/
  driving : Option (List Bit)
  /-- start of the telegram being sent -/
  sendStart : Option Instant
  lastSent : Option Content
  /-- start of the last completed telegram (R131) -/
  lastStart : Option Instant
  /-- when the link started (R127) -/
  started : Instant
  /-- start of the telegram in progress on the line (R128) -/
  telegram : Option Instant
  /-- the instant from which the present run of recessive bit times counts (R132) -/
  recessive : Instant
  /-- end of the last run of dominant bits outside a telegram: until then the line is dominant (R132) -/
  disturbed : Option Instant
  /-- the instant of a bit error on the start bit: eight recessive bit times are awaited from it (R130) -/
  holdOff : Option Instant
  /-- end of the suspension (R133) -/
  suspended : Option Instant
  lastDuplicate : Option Instant
  /-- a duplicate was seen in the last 1000 ms (R163) -/
  duplicateAlarm : Bool
  /-- when the last DUPLICATE_UNIT notice was posted (R133) -/
  duplicateNotice : Option Instant
  counters : LinkCounters
  peers : List Peer
  deriving DecidableEq, Repr, Inhabited

/-- The controller after a restart, or when a link is set up, with this unit number and these peers (R140). -/
def Link.fresh (unit : Nat) (peers : List Index) : Link :=
  { tx := if unit = 0 then .off else .due, snapshot := none, decided := none, driving := none, sendStart := none, lastSent := none,
    lastStart := none, started := 0, telegram := none, recessive := 0, disturbed := none, holdOff := none,
    suspended := none,
    lastDuplicate := none, duplicateAlarm := false, duplicateNotice := none,
    counters := .zero,
    peers := if unit = 0 then [] else peers.map Peer.fresh }

/-! ## State control, settings unit, store (R153, R164, R170) -/

/-- Protection state (R153). -/
inductive Protection where
  | starting | inService | test | outOfService | setupFault
  deriving DecidableEq, Repr, Inhabited

/-- Reset cause (R153). -/
inductive ResetCause where
  | powerOn | restartTerminal | restartRequest
  deriving DecidableEq, Repr, Inhabited

/-- The state record (R153), with the judgement of the loaded image that the end of STARTING uses (R156). -/
structure Control where
  state : Protection
  cause : ResetCause
  since : PartTime
  testDeadline : Option Instant
  imageGood : Bool
  deriving DecidableEq, Repr, Inhabited

/-- The parts of a commit that still wait (R168). -/
structure Waiting where
  channels : List Index
  points : List Index
  topology : Bool
  link : Bool
  station : Bool
  deriving DecidableEq, Repr, Inhabited

/-- No part waits. -/
def Waiting.none : Waiting := { channels := [], points := [], topology := false, link := false, station := false }

/-- The settings unit (R164). -/
structure SettingsUnit where
  active : Settings
  pending : Settings
  image : Option Settings
  serial : Nat
  waiting : Waiting
  /-- APPLY_DONE is to be posted when the COMMIT reply has been sent (R169, notes/assumptions/16.md) -/
  doneOwed : Bool
  deriving DecidableEq, Repr, Inhabited

/-- A settings image as stored: the settings and their serial number (R170). -/
structure Image where
  settings : Settings
  serial : Nat
  deriving DecidableEq, Repr, Inhabited

/-- The content of one place of the store, judged by its check (R172). The spec gives no byte layout of stored content, so
no check is computed over it: a place holds the check's verdict (DESIGN CHOICE, notes/assumptions/42.md). -/
inductive Stored (α : Type) where
  | empty
  | good (content : α)
  | bad
  deriving DecidableEq, Repr, Inhabited

/-- A record place of the store (R148): the number its write was for and the content, none with a bad check
(notes/assumptions/42.md). -/
structure StoredRecord where
  number : Nat
  content : Option TripRecord
  deriving DecidableEq, Repr, Inhabited

/-- Kinds of store writes (R170). -/
inductive WriteKind where
  | settings | lockout | record
  deriving DecidableEq, Repr, Inhabited

/-- The content of a write, taken when it begins (R170). -/
inductive WriteContent where
  | settings (image : Image)
  | lockout (set : List Index)
  | record (content : TripRecord) (next : Nat)
  deriving DecidableEq, Repr, Inhabited

/-- A write in progress and the instant at which it ends (R170). -/
structure Write where
  content : WriteContent
  ends : Instant
  deriving DecidableEq, Repr, Inhabited

/-- The store (R148, R170 to R172). -/
structure Store where
  image : Stored Image
  lockout : Stored (List Index)
  /-- record places, oldest first -/
  records : List StoredRecord
  nextNumber : Option Nat
  busy : Option Write
  waitSettings : Bool
  waitLockout : Bool
  /-- numbers of the records whose writes wait, in the order first queued -/
  waitRecords : List Nat
  faultSettings : Bool
  faultLockout : Bool
  faultRecord : Bool
  deriving DecidableEq, Repr, Inhabited

/-- A store that never held anything. -/
def Store.blank : Store :=
  { image := .empty, lockout := .empty, records := [], nextNumber := none, busy := none, waitSettings := false,
    waitLockout := false, waitRecords := [], faultSettings := false, faultLockout := false, faultRecord := false }

/-! ## Station port and buttons (R173, R174, R123, R154) -/

/-- The receiver of the station port (R173): hunting for a sync byte, or reading a frame, with the characters read of it
from its sync byte on. -/
inductive Receiver where
  | hunting
  | reading (read : List Byte)
  deriving DecidableEq, Repr, Inhabited

/-- The six port counters (R180). -/
structure PortCounters where
  framing : Nat
  checks : Nat
  foreign : Nat
  overruns : Nat
  broadcasts : Nat
  handled : Nat
  deriving DecidableEq, Repr, Inhabited

/-- The station port (R173, R174, R179). -/
structure Port where
  receiver : Receiver
  /-- ANSWERING; otherwise READY -/
  answering : Bool
  /-- the reply is being sent, and the receiver reads nothing -/
  transmitting : Bool
  /-- the reply frame composed at handling -/
  reply : List Byte
  handledAt : Instant
  replyStart : Instant
  /-- an accepted RESTART resets after its reply -/
  restartAfter : Bool
  counters : PortCounters
  deriving DecidableEq, Repr, Inhabited

/-- The port after a reset (R174, R180). -/
def Port.fresh : Port :=
  { receiver := .hunting, answering := false, transmitting := false, reply := [], handledAt := 0, replyStart := 0,
    restartAfter := false,
    counters := { framing := 0, checks := 0, foreign := 0, overruns := 0, broadcasts := 0, handled := 0 } }

/-- A debounced button input: `true` is closed (R123, R154). -/
structure Button where
  raw : Bool
  taken : Bool
  timer : Option Instant
  deriving DecidableEq, Repr, Inhabited

/-! ## The model's own choices of order -/

/-- MODEL's own: the order in which things inside one command are taken where the spec says either may be first.
No command changes it, and no statement rests on its value. notes/assumptions/7.md. -/
structure Schedule where
  /-- preferred order of the zones a common input reaches (R90) -/
  zones : List Index
  /-- preferred order of the channels of one sample instant (R72, R90) -/
  channels : List Index
  /-- preferred order of the points of one current sample instant -/
  points : List Index
  /-- the order unit before the topology unit and the zones (R59, R137) -/
  ordersFirst : Bool
  /-- APPLY_DONE of a commit applied at its acceptance is posted after the reply (R169), notes/assumptions/16.md -/
  doneAfterReply : Bool
  /-- STATUS counts itself among the requests handled (R180), notes/assumptions/17.md -/
  statusCountsItself : Bool
  /-- a SET_STATE was handled before the trips of its own instant, which reach their zones before its change (R160),
  notes/assumptions/40.md -/
  tripsAfterRequest : Bool
  /-- the pending T_ref of a channel in capture survives the copy that a restart makes of the active set, read from R39;
  otherwise that copy is whole (R164), notes/assumptions/45.md -/
  referenceKept : Bool
  deriving DecidableEq, Repr, Inhabited

/-! ## The machine -/

/-- The LT816. -/
structure State where
  powered : Bool
  clock : Instant
  partTime : PartTime
  /-- ticks since part time last advanced -/
  msPhase : Nat
  light : LightFront
  current : CurrentFront
  positions : List Position
  zones : List Zone
  orders : List Order
  /-- positions whose trip output is energised -/
  outputs : List Index
  /-- positions whose lockout is set -/
  lockout : List Index
  lockoutContact : Bool
  button : Button
  terminal : Button
  link : Link
  records : List TripRecord
  nextRecord : Nat
  /-- the instant at which the open record opened -/
  incidentStart : Instant
  notices : List Notice
  attention : Bool
  control : Control
  health : Bool
  alarm : Bool
  settings : SettingsUnit
  store : Store
  port : Port
  sched : Schedule
  /-- MODEL's own: how many free values have been drawn -/
  freeIndex : Nat
  /-- the waiting commands, first in, first out -/
  pending : List Instr
  deriving DecidableEq, Repr

/-- Faults: the spec gives the block no condition that stops it, and no meaning raises one. -/
inductive Fault where
  /-- Raised by no meaning: the block has no fault that stops it. Safe. -/
  | stopped
  deriving DecidableEq, Repr

/-- Refusals. -/
inductive Refusal where
  /-- A row of the table that has no meaning yet. Raised by exec's refused arms alone. Safe. -/
  | notModelled (mnemonic : String)
  deriving DecidableEq, Repr

/-- The schedule at reset: ascending order. DESIGN CHOICE, notes/assumptions/7.md. -/
def Schedule.ascending : Schedule :=
  { zones := List.range' 1 8, channels := List.range' 1 16, points := List.range' 1 4, ordersFirst := false,
    doneAfterReply := false, statusCountsItself := true, tripsAfterRequest := false, referenceKept := false }

/-- A contact that is off and taken as off. -/
def ContactInput.off : ContactInput := { raw := false, taken := false, timer := none }

/-- A button that is open at the restart: taken closed until it has been open for 4 ms (R123, R154). -/
def Button.openAtRestart : Button := { raw := false, taken := true, timer := some Config.debounce }

/-- The machine right after a POWER_ON reset of a unit whose store never held anything and whose contacts and buttons
are all off: STARTING, factory defaults active (R164, R172), every lockout taken as set and LOCKOUT in the fault set
(R172), the RESTARTED notice alone in the queue (R152). DESIGN CHOICE for the blank store and the raw inputs,
notes/assumptions/5.md and 6.md. -/
def State.reset : State :=
  { powered := true, clock := 0, partTime := 0, msPhase := 0
    light := { lastSample := none, interval := 0, channels := List.replicate 16 (.fresh false) }
    current := { next := 0, last := none, points := List.replicate 4 .fresh }
    positions := List.replicate 8
      { cl := .off, op := .off, derived := .none, changedAt := 0, travelStart := none, expired := false, changes := 0 }
    zones := List.replicate 8 (.fresh [] [])
    orders := [], outputs := [], lockout := [1, 2, 3, 4, 5, 6, 7, 8], lockoutContact := true
    button := .openAtRestart, terminal := .openAtRestart
    link := .fresh 0 []
    records := [], nextRecord := 1, incidentStart := 0
    notices := [{ kind := .restarted, subject := 0, value := 0, time := 0 }], attention := true
    control := { state := .starting, cause := .powerOn, since := 0, testDeadline := none, imageGood := false }
    health := false, alarm := true
    settings :=
      { active := .factory, pending := .factory, image := none, serial := 0, waiting := .none, doneOwed := false }
    store := { Store.blank with faultLockout := true }
    port := .fresh, sched := .ascending, freeIndex := 0, pending := [] }

end Sys2Proof.Machine
end

