-- ==== Sys2Proof/Machine/Wire.lean ====
section
/-! DEFINITION. Bits, bytes and the check of both lines (R181, R184): numbers most significant part first, sets as
bitmaps, and the 16-bit check x^16 + x^12 + x^5 + 1 with initial value all ones. -/

namespace Sys2Proof.Wire

/-- The numbers 1 to n: a range of indices (R1). -/
def upTo (n : Nat) : List Index := List.range' 1 n

/-- A number's lowest `w` bits, most significant bit first (R125). -/
def bitsOf : Nat → Nat → List Bit
  | 0, _ => []
  | w + 1, n => n.testBit w :: bitsOf w n

/-- The number that bits spell, most significant bit first. -/
def natOf (bs : List Bit) : Nat := bs.foldl (fun n b => 2 * n + b.toNat) 0

/-- The members of `l` whose bit is 1. -/
def picked {α : Type} (l : List α) (bs : List Bit) : List α :=
  (l.zip bs).filterMap fun x => if x.2 then some x.1 else none

/-- One bit of the check register's run (R184): compare the top bit with the covered bit, shift, and invert the bits
of weight 2^12, 2^5 and 2^0 if they differed. -/
def checkStep (r : BitVec 16) (b : Bit) : BitVec 16 :=
  if r.msb != b then (r <<< 1) ^^^ 0x1021#16 else r <<< 1

/-- The check over the bits covered (R184). -/
def check (bs : List Bit) : BitVec 16 := bs.foldl checkStep 0xFFFF#16

/-- The bits of bytes, each taken most significant bit first (R184). -/
def bitsOfBytes (bs : List Byte) : List Bit := bs.flatMap fun b => bitsOf 8 b.toNat

/-- One byte (R181). -/
def byte (n : Nat) : Byte := BitVec.ofNat 8 n

/-- A number in two bytes, high byte first (R181). -/
def two (n : Nat) : List Byte := [byte (n / 256), byte n]

/-- A number in four bytes, high byte first (R181). -/
def four (n : Nat) : List Byte := [byte (n / 2 ^ 24), byte (n / 2 ^ 16), byte (n / 2 ^ 8), byte n]

/-- A flag (R181). -/
def flag (b : Bool) : List Byte := [if b then 1 else 0]

/-- A set as a bitmap: member n at the bit of weight 2^(n-1) (R181). -/
def bitmap (width : Nat) (set : List Index) : Nat :=
  ((upTo width).map fun i => if set.contains i then 2 ^ (i - 1) else 0).sum

/-- The set that a bitmap holds, bits beyond its range ignored (R181). -/
def membersOf (width n : Nat) : List Index := (upTo width).filter fun i => n.testBit (i - 1)

/-- An optional field of `width` bytes: a presence flag, then the field, or zeros (R181). -/
def optional {α : Type} (width : Nat) (f : α → List Byte) : Option α → List Byte
  | some x => 1 :: f x
  | none => 0 :: List.replicate width 0

/-- A list of varying length: a count byte, then the items (R181). -/
def listOf {α : Type} (f : α → List Byte) (l : List α) : List Byte := byte l.length :: l.flatMap f

/-- The byte at a place of a body, counting from 0. -/
def at0 (body : List Byte) (i : Nat) : Nat := (body.getD i 0).toNat

/-- The number in two bytes at a place of a body (R181). -/
def at2 (body : List Byte) (i : Nat) : Nat := at0 body i * 256 + at0 body (i + 1)

/-- The number in four bytes at a place of a body (R181). -/
def at4 (body : List Byte) (i : Nat) : Nat := at2 body i * 65536 + at2 body (i + 2)

/-- A station frame: sync 195, address, kind, body length, body and check (R182). -/
def frame (address kind : Nat) (body : List Byte) : List Byte :=
  let covered := byte address :: byte kind :: byte body.length :: body
  byte 195 :: covered ++ two (check (bitsOfBytes covered)).toNat

end Sys2Proof.Wire
end

