-- ==== Sys2Proof/Machine/Receiver.lean ====
section
/-! DEFINITION. The receiver of the station port, character by character (R173): hunting for the sync byte, reading a
frame, and the five ends a frame being read can come to. A command of the port stands for all the characters of its
frame (notes/assumptions/25.md). -/

namespace Sys2Proof.Machine

open Wire

/-- A character on the line (R173): its byte, whether its stop bit was read as one, and the time since the character
before it. -/
structure Character where
  byte : Byte
  stopGood : Bool
  gap : Instant
  deriving DecidableEq, Repr

/-- How far the characters from a sync byte on have come (R173). -/
inductive Progress where
  /-- the frame's last character is still to come -/
  | unfinished
  /-- the length field exceeds 200 -/
  | tooLong
  /-- the last character of the check has come, and the check agrees or not -/
  | whole (good : Bool)
  deriving DecidableEq, Repr

/-- The progress of a frame: sync, address, kind, length, body and check (R173). -/
def progress : List Byte → Progress
  | _ :: address :: kind :: length :: rest =>
    if 200 < length.toNat then .tooLong
    else if rest.length < length.toNat + 2 then .unfinished
    else
      .whole (at2 rest length.toNat ==
        (check (bitsOfBytes (address :: kind :: length :: rest.take length.toNat))).toNat)
  | _ => .unfinished

/-- The end of a frame being read, with the characters read of it (R173). -/
inductive Heard where
  /-- more than three character times passed after these -/
  | gap (read : List Byte)
  /-- the character after these had a stop-bit error -/
  | stopBit (read : List Byte)
  /-- the last of these is a length field above 200 -/
  | tooLong (read : List Byte)
  /-- a whole frame, whose check agrees or not -/
  | frame (read : List Byte) (good : Bool)
  deriving DecidableEq, Repr

/-- A character while hunting: a sync byte begins reading, every other is passed over and not counted (R173). A sync byte
with a stop-bit error is passed over too (DESIGN CHOICE, notes/assumptions/47.md). -/
def hunt (c : Character) : Receiver := if c.stopGood && c.byte == 195 then .reading [c.byte] else .hunting

/-- One character (R173): what the receiver becomes, and the end it brings of the frame being read. -/
def Receiver.hear (r : Receiver) (c : Character) : Receiver × Option Heard :=
  match r with
  | .hunting => (hunt c, none)
  | .reading read =>
    if Config.threeChars < c.gap then (hunt c, some (.gap read))
    else if !c.stopGood then (.hunting, some (.stopBit read))
    else
      match progress (read ++ [c.byte]) with
      | .unfinished => (.reading (read ++ [c.byte]), none)
      | .tooLong => (.hunting, some (.tooLong (read ++ [c.byte])))
      | .whole good => (.hunting, some (.frame (read ++ [c.byte]) good))

/-- A run of characters (R173): the receiver after them, and the ends they brought, in order. -/
def Receiver.hearAll (r : Receiver) : List Character → Receiver × List Heard
  | [] => (r, [])
  | c :: cs =>
    let x := r.hear c
    let y := x.1.hearAll cs
    (y.1, x.2.toList ++ y.2)

/-- A byte received whole and in time. -/
def Character.good (b : Byte) : Character := { byte := b, stopGood := true, gap := 0 }

/-- The receiver after bytes received whole and in time (R173). -/
def Receiver.after (r : Receiver) (bs : List Byte) : Receiver := (r.hearAll (bs.map Character.good)).1

/-- The last of these bytes is a length field above 200 of the frame being read (R173). -/
def Receiver.overLong (r : Receiver) (bs : List Byte) : Bool :=
  match r.after bs.dropLast, bs.getLast? with
  | .reading read, some b => progress (read ++ [b]) == .tooLong
  | _, _ => false

end Sys2Proof.Machine
end

