-- ==== Sys2Proof/WellFormed.lean ====
section
/-! DEFINITION. Which commands are well formed: every index in its range (R1), every list of readings as long as the
front end has inputs, every reading a value its input can take (R4, R44), a telegram's 73 bits (R184), and a frame's
kind and body as the frame can hold them (R173, R182). -/

namespace Sys2Proof

/-- An index counted from 1 (R1). -/
def indexOk (n bound : Nat) : Bool := 1 ≤ n && n ≤ bound

/-- A raw light reading, 0 to 4095 (R4). -/
def rawOk (r : Nat) : Bool := r ≤ 4095

/-- A phase sample, -32768 to 32767 (R44). -/
def sampleOk (s : Int) : Bool := -32768 ≤ s && s ≤ 32767

/-- A frame's body is at most 200 bytes (R173). -/
def bodyOk (b : List Byte) : Bool := b.length ≤ 200

/-- The characters read of a frame that is given up: from its sync byte on, and not the whole of it (R173). -/
def readOk (read : List Byte) : Bool := read.head? == some 195 && read.length ≤ 205

/-- The check of a command's operands. -/
def Instr.wellFormed : Instr → Bool
  | .lightSample raw => raw.length == 16 && raw.all rawOk
  | .currentSample ss => ss.length == 12 && ss.all sampleOk
  | .supervisionSlot n | .burstEnd n | .captureBurstStart n | .captureEnd n | .channelGroupApply n => indexOk n 16
  | .ocHoldExpiry m | .cpClear m | .pointGroupApply m => indexOk m 4
  | .contactRawChange p _ _ | .debounceExpiry p _ | .discrepancyExpiry p => indexOk p 8
  | .minPulseExpiry p | .bfDeadline p | .driveTimeout p => indexOk p 8
  | .peerSilenceExpiry u => indexOk u 4
  | .telegramReceived bits => bits.length == 73
  | .lineDisturbance bits => 1 ≤ bits
  | .frameGapTimeout read | .framingDiscard _ read => readOk read
  | .foreignFrame _ _ => true
  | .ignoredBroadcast k => k.toNat < 128
  | .unknownKind k => k.toNat < 128 && !(1 ≤ k.toNat && k.toNat ≤ 26)
  | .identify b | .status b | .readChannel b | .readPoint b | .readPosition b | .readZone b | .readOrders b
  | .readPeers b | .readRecord b | .ackRecord b | .fetchNotices b | .readSetting b | .writeSetting b | .discard b
  | .commit b | .setState b | .channelOut b | .channelIn b | .captureReference b | .simulateLight b
  | .simulateCurrent b | .testTrip b | .cancelOrder b | .resetLockout b | .timeSet _ b | .restart b => bodyOk b
  | .powerOn | .powerLoss | .restartTerminalChange _ | .restartTerminalPress | .startingEnd | .testTimeout
  | .backgroundUpdate | .lockoutButtonChange _ | .lockoutResetPress | .heartbeatDue | .sendDecide | .telegramStart
  | .attemptVoided | .arbitrationLost | .bitError _ | .telegramCompleted | .suspensionEnd
  | .duplicateAlarmExpiry | .topologyGroupApply | .linkGroupApply | .storeWriteBegin | .storeWriteEnd _
  | .frameCheckFailure | .overrunDiscard | .replySent
  | .lockoutButtonRelease | .restartTerminalRelease | .replyStart | .startBitSeen => true

end Sys2Proof
end

