-- ==== Sys2Proof/Decode.lean ====
section
/-! DEFINITION. Commands read from bits. The opcode table gives its rows no bits, so a table word spells no command
(notes/assumptions/26.md). The characters of the station port do spell some (R173, R174, R182): `readLine` reads them,
and `requestFrame` writes a request. -/

namespace Sys2Proof

/-- The table gives no row any bits: no word spells a command. -/
def decodeTableWord (_nbits _w : Nat) : Option Instr := none

/-- The kind and body of an addressed request (R182). -/
def Instr.requestParts : Instr → Option (Nat × List Byte)
  | .identify b => some (1, b)
  | .status b => some (2, b)
  | .readChannel b => some (3, b)
  | .readPoint b => some (4, b)
  | .readPosition b => some (5, b)
  | .readZone b => some (6, b)
  | .readOrders b => some (7, b)
  | .readPeers b => some (8, b)
  | .readRecord b => some (9, b)
  | .ackRecord b => some (10, b)
  | .fetchNotices b => some (11, b)
  | .readSetting b => some (12, b)
  | .writeSetting b => some (13, b)
  | .commit b => some (14, b)
  | .discard b => some (15, b)
  | .setState b => some (16, b)
  | .channelOut b => some (17, b)
  | .channelIn b => some (18, b)
  | .captureReference b => some (19, b)
  | .simulateLight b => some (20, b)
  | .simulateCurrent b => some (21, b)
  | .testTrip b => some (22, b)
  | .cancelOrder b => some (23, b)
  | .resetLockout b => some (24, b)
  | .timeSet false b => some (25, b)
  | .restart b => some (26, b)
  | .powerOn | .powerLoss | .restartTerminalChange _ | .restartTerminalPress | .startingEnd | .testTimeout
  | .lightSample _ | .backgroundUpdate | .supervisionSlot _ | .burstEnd _ | .captureBurstStart _ | .captureEnd _
  | .currentSample _ | .ocHoldExpiry _ | .cpClear _ | .contactRawChange _ _ _ | .debounceExpiry _ _
  | .discrepancyExpiry _ | .minPulseExpiry _ | .bfDeadline _ | .driveTimeout _ | .lockoutButtonChange _
  | .lockoutResetPress | .heartbeatDue | .sendDecide | .telegramStart | .attemptVoided | .arbitrationLost | .bitError _
  | .telegramCompleted | .telegramReceived _ | .lineDisturbance _ | .peerSilenceExpiry _ | .suspensionEnd
  | .duplicateAlarmExpiry | .channelGroupApply _ | .pointGroupApply _ | .topologyGroupApply | .linkGroupApply
  | .storeWriteBegin | .storeWriteEnd _ | .frameGapTimeout _ | .framingDiscard _ _ | .frameCheckFailure
  | .foreignFrame _ _ | .overrunDiscard | .ignoredBroadcast _ | .unknownKind _ | .replySent | .timeSet true _
  | .lockoutButtonRelease | .restartTerminalRelease | .replyStart | .startBitSeen => none

/-- The request of a kind, UNKNOWN_KIND for a kind that names none (R175, R182). -/
def requestOf (kind : Nat) (b : List Byte) : Instr :=
  match kind with
  | 1 => .identify b
  | 2 => .status b
  | 3 => .readChannel b
  | 4 => .readPoint b
  | 5 => .readPosition b
  | 6 => .readZone b
  | 7 => .readOrders b
  | 8 => .readPeers b
  | 9 => .readRecord b
  | 10 => .ackRecord b
  | 11 => .fetchNotices b
  | 12 => .readSetting b
  | 13 => .writeSetting b
  | 14 => .commit b
  | 15 => .discard b
  | 16 => .setState b
  | 17 => .channelOut b
  | 18 => .channelIn b
  | 19 => .captureReference b
  | 20 => .simulateLight b
  | 21 => .simulateCurrent b
  | 22 => .testTrip b
  | 23 => .cancelOrder b
  | 24 => .resetLockout b
  | 25 => .timeSet false b
  | 26 => .restart b
  | _ => .unknownKind (Wire.byte kind)

/-- The command of a frame whose check agrees, at a unit of station address `own` (R173, R174). -/
def commandOf (own address kind : Nat) (body : List Byte) : Instr :=
  if 128 ≤ kind then .foreignFrame (Wire.byte address) (Wire.byte kind)
  else if address == own then requestOf kind body
  else if address == 0 then (if kind == 25 then .timeSet true body else .ignoredBroadcast (Wire.byte kind))
  else .foreignFrame (Wire.byte address) (Wire.byte kind)

/-- The command that an end of a frame being read is, at a unit of station address `own` (R173). -/
def commandHeard (own : Nat) : Machine.Heard → Instr
  | .gap read => .frameGapTimeout read
  | .stopBit read => .framingDiscard .stopBit read
  | .tooLong read => .framingDiscard .length read
  | .frame _ false => .frameCheckFailure
  | .frame read true => commandOf own (Wire.at0 read 1) (Wire.at0 read 2) ((read.drop 4).take (Wire.at0 read 3))

/-- The commands that the characters on the line bring to a hunting receiver, in order (R173). -/
def readLine (own : Nat) (cs : List Machine.Character) : List Instr :=
  (Machine.Receiver.hunting.hearAll cs).2.map (commandHeard own)

/-- The first command that bytes received whole and in time bring to a hunting receiver (R173, R182); none while no frame
has come to an end. -/
def readFrame (own : Nat) (bs : List Byte) : Option Instr := (readLine own (bs.map Machine.Character.good)).head?

/-- The frame of an addressed request to a station address (R182); none for a command that is no addressed request. -/
def requestFrame (address : Nat) (i : Instr) : Option (List Byte) :=
  i.requestParts.map fun x => Wire.frame address x.1 x.2

end Sys2Proof
end

