-- ==== Sys2Proof/Machine/Ops.lean ====
section
/-! DEFINITION. The named operations every block uses: objects by number, sets, orders of taking, the part's own clock
and part time, the notice queue (R150), the codes of R181, the free values. -/

namespace Sys2Proof.Machine

open Wire

/-- The object numbered from 1, or `d` for a number that names none (R1). -/
def item {α : Type} (l : List α) (d : α) : Index → α
  | 0 => d
  | k + 1 => l.getD k d

/-- The list with the object of that number replaced; a number that names none changes nothing (R1). -/
def put {α : Type} (l : List α) : Index → α → List α
  | 0, _ => l
  | k + 1, v => l.set k v

/-- A set of numbers 1 to `n` with `p` in it, ascending. -/
def withMember (n : Nat) (set : List Index) (p : Index) : List Index :=
  (upTo n).filter fun q => q == p || set.contains q

/-- A set of numbers 1 to `n` without `p`, ascending. -/
def withoutMember (n : Nat) (set : List Index) (p : Index) : List Index :=
  (upTo n).filter fun q => q != p && set.contains q

/-- The members of a list, each at its first place only. -/
def firsts : List Index → List Index
  | [] => []
  | x :: l => x :: (firsts l).filter fun y => y != x

/-- The numbers 1 to `n`, each once: first those of `pref` in its order, then the others ascending. -/
def inOrder (pref : List Index) (n : Nat) : List Index :=
  (firsts pref).filter (fun i => 1 ≤ i && i ≤ n) ++ (upTo n).filter fun i => !pref.contains i

/-- `n` rounded up to a multiple of `k`. -/
def ceilTo (k n : Nat) : Nat := (n + k - 1) / k * k

/-- The channel of that number. -/
def State.channel (s : State) (n : Index) : Channel := item s.light.channels (.fresh false) n
/-- The state with that channel's record replaced. -/
def State.setChannel (s : State) (n : Index) (c : Channel) : State :=
  { s with light := { s.light with channels := put s.light.channels n c } }
/-- The point of that number. -/
def State.point (s : State) (m : Index) : Point := item s.current.points .fresh m
/-- The state with that point's record replaced. -/
def State.setPoint (s : State) (m : Index) (c : Point) : State :=
  { s with current := { s.current with points := put s.current.points m c } }
/-- A position record with nothing on. -/
def Position.blank : Position :=
  { cl := .off, op := .off, derived := .none, changedAt := 0, travelStart := none, expired := false, changes := 0 }
/-- The position of that number. -/
def State.position (s : State) (p : Index) : Position := item s.positions .blank p
/-- The state with that position's record replaced. -/
def State.setPosition (s : State) (p : Index) (c : Position) : State := { s with positions := put s.positions p c }
/-- The zone of that number. -/
def State.zone (s : State) (z : Index) : Zone := item s.zones (.fresh [] []) z
/-- The state with that zone's record replaced. -/
def State.setZone (s : State) (z : Index) (c : Zone) : State := { s with zones := put s.zones z c }
/-- The peer record of that unit. -/
def State.peer (s : State) (u : Index) : Option Peer := s.link.peers.find? fun p => p.unit == u
/-- The state with the peer record of that unit changed. -/
def State.mapPeer (s : State) (u : Index) (f : Peer → Peer) : State :=
  { s with link := { s.link with peers := s.link.peers.map fun p => if p.unit == u then f p else p } }
/-- The order that stands for a position (R100). -/
def State.orderAt (s : State) (p : Index) : Option Order := s.orders.find? fun o => o.position == p
/-- The state with the order of a position changed, in its place (R100). -/
def State.mapOrder (s : State) (p : Index) (f : Order → Order) : State :=
  { s with orders := s.orders.map fun o => if o.position == p then f o else o }

/-- The state when the part's own clock has come to `t`; a `t` that has passed changes nothing. Part time counts on in
whole milliseconds (R1). -/
def State.advanceTo (s : State) (t : Instant) : State :=
  if t ≤ s.clock then s
  else
    { s with
      clock := t
      partTime := (s.partTime + (s.msPhase + (t - s.clock)) / Config.ms) % Config.partTimeModulus
      msPhase := (s.msPhase + (t - s.clock)) % Config.ms }

/-- Whole milliseconds since an instant, saturated (R101, R181). -/
def State.elapsed (s : State) (t : Instant) : Nat := saturate ((s.clock - t) / Config.ms)

/-- Whole milliseconds until an instant, saturated (R101, R181). -/
def State.remaining (s : State) (t : Instant) : Nat := saturate ((t - s.clock) / Config.ms)

/-- The effect of a posting on the notice queue (R150). -/
def enqueue (q : List Notice) (n : Notice) : List Notice :=
  if q.any fun m => m.kind == .lost then
    q.map fun m => if m.kind == .lost then { m with value := bump m.value } else m
  else if q.length < 31 then q ++ [n]
  else q ++ [{ kind := .lost, subject := 0, value := 1, time := n.time }]

/-- A notice is posted, with the present part time (R149). -/
def State.post (s : State) (kind : NoticeKind) (subject value : Nat) : State :=
  { s with notices := enqueue s.notices { kind, subject, value, time := s.partTime } }

/-! ## Codes of enumerations: the member's place in its list of values, from 0 (R181) -/

def ChannelKind.code : ChannelKind → Nat
  | .unused => 0 | .loop => 1 | .point => 2
def Health.code : Health → Nat
  | .good => 0 | .dim => 1 | .broken => 2
def Detection.code : Detection → Nat
  | .unused => 0 | .out => 1 | .referencing => 2 | .suspended => 3 | .dark => 4 | .pickup => 5 | .lit => 6 | .steady => 7
def StrikeKind.code : StrikeKind → Nat
  | .none => 0 | .dim => 1 | .broken => 2
def BurstResult.code : BurstResult → Nat
  | .pass => 0 | .failDim => 1 | .failBroken => 2
def Derived.code : Derived → Nat
  | .closed => 0 | .opened => 1 | .travel => 2 | .invalid => 3 | .none => 4
def Node.code : Node → Nat
  | .none => 0 | .zone z => z | .source i => 8 + i
def ZoneMode.code : ZoneMode → Nat
  | .checked => 0 | .lightOnly => 1 | .blocked => 2
def Fallback.code : Fallback → Nat
  | .hold => 0 | .lightOnly => 1
def ZoneState.code : ZoneState → Nat
  | .quiet => 0 | .alert => 1 | .tripped => 2
def Attribute.code : Attribute → Nat
  | .live => 0 | .dry => 1
def Condition.code : Condition → Nat
  | .none => 0 | .dry => 1 | .live => 2
def AlertReason.code : AlertReason → Nat
  | .noCurrent => 0 | .currentUnavailable => 1 | .zoneBlocked => 2 | .heldOutOfService => 3
def Stage.code : Stage → Nat
  | .driving => 0 | .confirmed => 1 | .failed => 2 | .stalled => 3
def Origin.code : Origin → Nat
  | .zone => 0 | .remote => 1 | .backup => 2 | .test => 3
def EntryStage.code : EntryStage → Nat
  | .driving => 0 | .confirmed => 1 | .failed => 2 | .stalled => 3 | .withdrawn => 4
def RecordState.code : RecordState → Nat
  | .opened => 0 | .unread => 1 | .read => 2
def NoticeKind.code : NoticeKind → Nat
  | .channelHealth => 0 | .steadyLight => 1 | .referenceDone => 2 | .referenceFailed => 3 | .positionChange => 4
  | .zoneAlert => 5 | .zoneTrip => 6 | .noSource => 7 | .orderFailed => 8 | .driveTimeout => 9 | .remoteRefused => 10
  | .peerState => 11 | .duplicateUnit => 12 | .recordClosed => 13 | .recordsNearlyFull => 14 | .stateChange => 15
  | .applyDone => 16 | .storeFault => 17 | .testTimeout => 18 | .restarted => 19 | .lost => 20
def Transmitter.code : Transmitter → Nat
  | .off => 0 | .idle => 1 | .due => 2 | .armed => 3 | .sending => 4
def Reported.code : Reported → Nat
  | .startingOrOther => 0 | .inService => 1 | .test => 2 | .outOfService => 3
def PeerState.code : PeerState → Nat
  | .waiting => 0 | .live => 1 | .lost => 2
def Protection.code : Protection → Nat
  | .starting => 0 | .inService => 1 | .test => 2 | .outOfService => 3 | .setupFault => 4
def ResetCause.code : ResetCause → Nat
  | .powerOn => 0 | .restartTerminal => 1 | .restartRequest => 2
def WriteKind.code : WriteKind → Nat
  | .settings => 0 | .lockout => 1 | .record => 2
def Frequency.code : Frequency → Nat
  | .hz50 => 0 | .hz60 => 1

/-- An object of a range that may be none: 0, or its number (R185). -/
def optCode : Option Index → Nat
  | none => 0
  | some n => n

end Sys2Proof.Machine
end

