-- ==== Sys2Proof/Machine/Flags.lean ====
section
/-! DEFINITION. The views: every value the spec derives from other state at each moment. Thresholds and levels (R6, R45,
R49), light flags (R12), use (R1), cleared and unsupervised (R62), peers' usability and presented link values (R134,
R136), the exported light (R96), the outgoing content (R126), the alarm condition and the summary (R163, R177), and
`settle`, which judges the contacts anew and makes a send due at the end of every command. -/

namespace Sys2Proof.Machine

open Wire

/-! ## Active settings of one object -/

def State.channelSet (s : State) (n : Index) : ChannelSettings := item s.settings.active.channels .factory n
def State.pointSet (s : State) (m : Index) : PointSettings := item s.settings.active.points .factory m
def State.positionSet (s : State) (p : Index) : PositionSettings := item s.settings.active.topology.positions .factory p
def State.zoneSet (s : State) (z : Index) : ZoneSettings := item s.settings.active.topology.zones .factory z

/-! ## Use (R1) -/

/-- A channel is used when its kind is not UNUSED. -/
def State.usedChannel (s : State) (n : Index) : Bool := (s.channelSet n).kind != .unused
/-- A position is used when its node A is not none. -/
def TopologySettings.usedPosition (t : TopologySettings) (p : Index) : Bool :=
  (item t.positions .factory p).nodeA != .none
/-- A zone is used when it is a node of some used position. -/
def TopologySettings.usedZone (t : TopologySettings) (z : Index) : Bool :=
  (upTo 8).any fun p => t.usedPosition p &&
    ((item t.positions .factory p).nodeA == .zone z || (item t.positions .factory p).nodeB == .zone z)
def State.usedPosition (s : State) (p : Index) : Bool := s.settings.active.topology.usedPosition p
def State.usedZone (s : State) (z : Index) : Bool := s.settings.active.topology.usedZone z

/-! ## Light (R2, R5, R6, R12) -/

/-- The gain ceiling of a kind (R2); an UNUSED channel has none, and LOOP's stands in for it. -/
def ChannelKind.ceiling : ChannelKind → Nat
  | .point => 512
  | .loop | .unused => 1024

/-- θ = min(4000, max(θ_set, B + Δ)) (R6). -/
def ChannelSettings.threshold (c : ChannelSettings) (background : Nat) : Nat :=
  min 4000 (max c.pickup (background + c.margin))

/-- θ_drop = θ − floor(θ / 8) (R6). -/
def dropLevel (threshold : Nat) : Nat := threshold - threshold / 8

/-- L_c = min(4095, floor(L_raw × G / 256)) (R5). -/
def compensate (raw gain : Nat) : Nat := min 4095 (raw * gain / 256)

/-- The light flag is set in LIT and STEADY (R12). -/
def Detection.lightFlag : Detection → Bool
  | .lit | .steady => true
  | .unused | .out | .referencing | .suspended | .dark | .pickup => false

/-- The states whose samples are evaluated (R4), and in which simulated light counts (R12). -/
def Detection.evaluated : Detection → Bool
  | .dark | .pickup | .lit | .steady => true
  | .unused | .out | .referencing | .suspended => false

/-- The states of a light episode: PICKUP, LIT and STEADY. -/
def Detection.episode : Detection → Bool
  | .pickup | .lit | .steady => true
  | .unused | .out | .referencing | .suspended | .dark => false

def State.lightFlag (s : State) (n : Index) : Bool := (s.channel n).detection.lightFlag
/-- The channel contributes simulated light to DRY zone light (R12). -/
def State.simulatedLight (s : State) (n : Index) : Bool :=
  (s.channel n).simulated && (s.channel n).detection.evaluated
def State.threshold (s : State) (n : Index) : Nat := (s.channelSet n).threshold (s.channel n).background

/-! ## Current (R44, R45, R49) -/

/-- m = |s|, and 32767 for −32768 (R44). -/
def magnitude (sample : Int) : Nat := min 32767 sample.natAbs
/-- P = floor(k × 4096 / 10) (R45). -/
def PointSettings.pickupLevel (c : PointSettings) : Nat := c.pickup * 4096 / 10
/-- B_c = floor(k_bf × 4096 / 10) (R49). -/
def PointSettings.presentLevel (c : PointSettings) : Nat := c.present * 4096 / 10
/-- The interval between current sample instants (R43). -/
def Frequency.interval : Frequency → Instant
  | .hz50 => Config.interval50
  | .hz60 => Config.interval60

/-! ## Positions (R61, R62) -/

/-- For topology, every derived position but OPEN conducts (R61). -/
def Derived.conducts : Derived → Bool
  | .opened => false
  | .closed | .travel | .invalid | .none => true

/-- The points attached to a position. In the active settings of a finished application there is at most one (R52);
while one is going on there may be two for a moment (notes/assumptions/19.md). -/
def State.attachedPoints (s : State) (p : Index) : List Index := (upTo 4).filter fun m => (s.pointSet m).attached == some p

/-- R62: OPEN or NONE, and no attached point's CP is set. -/
def State.cleared (s : State) (p : Index) : Bool :=
  s.usedPosition p && ((s.position p).derived == .opened || (s.position p).derived == .none) &&
    (s.attachedPoints p).all fun m => !(s.point m).cp

/-- R62: NONE, and no attached point. -/
def State.unsupervised (s : State) (p : Index) : Bool :=
  s.usedPosition p && (s.position p).derived == .none && (s.attachedPoints p).isEmpty

/-! ## Peers and presented link values (R134, R136) -/

def Reported.usable : Reported → Bool
  | .inService | .test => true
  | .startingOrOther | .outOfService => false

/-- A peer is usable while it is LIVE and reports IN_SERVICE or TEST (R134). -/
def Peer.usable (p : Peer) : Bool := p.state == .live && (p.reported.elim false Reported.usable)

/-- The presented link zone (R136). -/
def State.presentedZone (s : State) (i : Index) : Bool := s.link.peers.any fun p => p.usable && p.light.contains i

/-- The owner of a link current is a usable peer (R136). -/
def State.ownerUsable (s : State) (i : Index) : Bool :=
  match item s.settings.active.link.owners none i with
  | none => false
  | some u => s.link.peers.any fun p => p.unit == u && p.usable

/-- The presented link current: its owner is usable and its telegram held it (R136). -/
def State.presentedCurrent (s : State) (i : Index) : Bool :=
  match item s.settings.active.link.owners none i with
  | none => false
  | some u => s.link.peers.any fun p => p.unit == u && p.usable && p.current.contains i

/-! ## Zone readings (R86, R87, R96) -/

def State.realLight (s : State) (z : Index) : Bool :=
  (s.zoneSet z).members.any s.lightFlag || (s.zoneSet z).importZones.any s.presentedZone

def State.inTest (s : State) : Bool := s.control.state == .test

def State.dryLight (s : State) (z : Index) : Bool :=
  s.realLight z || (s.inTest && (s.zoneSet z).members.any s.simulatedLight)

def State.realCurrent (s : State) (z : Index) : Bool :=
  (s.zone z).confirmation.any (fun m => (s.point m).oc) || (s.zoneSet z).importCurrents.any s.presentedCurrent

def State.dryCurrent (s : State) (z : Index) : Bool :=
  s.realCurrent z || (s.inTest && (s.zone z).confirmation.any fun m => (s.point m).simulated)

/-- No confirmation is possible (R87). -/
def State.unavailable (s : State) (z : Index) : Bool :=
  (s.zone z).confirmation.isEmpty && !(s.zoneSet z).importCurrents.any s.ownerUsable

/-- The exported light of a zone: some member's light flag (R96). -/
def State.exportedLight (s : State) (z : Index) : Bool := (s.zoneSet z).members.any s.lightFlag

/-! ## The outgoing content (R126) -/

/-- The state field of the unit's telegram (R125). -/
def Protection.reported : Protection → Reported
  | .starting | .setupFault => .startingOrOther
  | .inService => .inService
  | .test => .test
  | .outOfService => .outOfService

/-- The present entries of a list of four. -/
def presentEntries (l : List (Option RemoteEntry)) : List RemoteEntry := l.filterMap id

/-- A request flag is held while a zone (R77) or an order (R112) holds it. -/
def State.requestHeld (s : State) (e : RemoteEntry) : Bool :=
  (upTo 8).any (fun z => (s.zone z).remoteHeld && (presentEntries (s.zoneSet z).remoteList).contains e) ||
    s.orders.any fun o => o.remoteHeld && (presentEntries (s.positionSet o.position).remoteBackups).contains e

/-- The thirty-two request flags in the telegram's order: by unit, then position (R184). -/
def requestFlags : List RemoteEntry := (upTo 4).flatMap fun u => (upTo 8).map fun p => ⟨u, p⟩

/-- The present outgoing content (R126). A link current is set with the real OC of any point that exports it, as R126's
table and R48 have it, even where the groups of a commit, applied one by one, leave its owner for a while another unit
(DESIGN CHOICE, notes/assumptions/46.md). -/
def State.content (s : State) : Content :=
  let st := s.control.state.reported
  { unit := s.settings.active.link.unit
    state := st
    zones := (upTo 8).filter fun i => st.usable &&
      (upTo 8).any fun z => (s.zoneSet z).exportZone == some i && s.exportedLight z
    currents := (upTo 8).filter fun i => st.usable &&
      (upTo 4).any fun m => (s.pointSet m).exported == some i && (s.point m).oc
    requests := requestFlags.filter fun e => st.usable && s.requestHeld e }

/-! ## Counts, conditions and contacts (R162, R163, R164, R177) -/

/-- LIVE records in UNREAD (R141). -/
def unreadLive (rs : List TripRecord) : Nat := (rs.filter fun r => r.kind == .live && r.state == .unread).length

/-- Apply progress: the parts that wait (R164). -/
def Waiting.count (w : Waiting) : Nat :=
  w.channels.length + w.points.length + w.topology.toNat + w.link.toNat + w.station.toNat

/-- An application is in progress (R167). -/
def State.applying (s : State) : Bool := 0 < s.settings.waiting.count

/-- A reference capture is in progress on some channel (R167). -/
def State.capturing (s : State) : Bool := (upTo 16).any fun n => (s.channel n).detection == .referencing

def Store.inFault (st : Store) : Bool := st.faultSettings || st.faultLockout || st.faultRecord

/-- A used channel has health DIM or BROKEN (R34, R177). -/
def State.channelFault (s : State) : Bool := (upTo 16).any fun n => s.usedChannel n && (s.channel n).health != .good

/-- A configured peer is WAITING or LOST, and STARTING has ended (R139, R163). -/
def State.peerMissing (s : State) : Bool := s.control.state != .starting && s.link.peers.any fun p => p.state != .live

/-- A position is INVALID (R59). -/
def State.positionInvalid (s : State) : Bool := (upTo 8).any fun p => (s.position p).derived == .invalid

/-- The alarm condition (R163). -/
def State.alarmCondition (s : State) : Bool :=
  s.channelFault ||
  ((upTo 16).any fun n => s.usedChannel n && ((s.channel n).detection == .out || (s.channel n).detection == .steady)) ||
  s.peerMissing || s.positionInvalid || s.store.inFault || s.link.duplicateAlarm ||
  (s.control.state == .test || s.control.state == .outOfService || s.control.state == .setupFault)

/-- The health contact's condition (R162). -/
def State.healthCondition (s : State) : Bool := s.control.state == .inService || s.control.state == .test

/-- The summary condition's code: its place in the table of R177. -/
def State.summary (s : State) : Nat :=
  if s.control.state == .setupFault then 0
  else if !s.orders.isEmpty then 1
  else if 0 < unreadLive s.records then 2
  else if s.channelFault then 3
  else if s.peerMissing then 4
  else if s.positionInvalid then 5
  else if s.store.inFault then 6
  else if !s.notices.isEmpty then 7
  else 8

/-- The contacts and the attention line, judged anew (R121, R152, R162, R163). Without supply all are released (R154). -/
def State.judgeContacts (s : State) : State :=
  { s with
    lockoutContact := s.powered && !s.lockout.isEmpty
    attention := s.powered && !s.notices.isEmpty
    health := s.powered && s.healthCondition
    alarm := s.powered && s.alarmCondition }

/-- A change of the present outgoing content makes a send due (R127): an IDLE transmitter enters DUE. -/
def State.noteContent (before after : State) : State :=
  if after.link.tx == .idle && before.content != after.content then
    { after with link := { after.link with tx := .due } }
  else after

/-- The end of every command: contacts judged anew, and a send made due by a changed content. -/
def settle (before after : State) : State := (before.noteContent after).judgeContacts

/-- A command's effect: nothing without supply (R154), otherwise the effect, settled. -/
def conclude (s : State) (effect : State → State) : Host.Outcome State Fault Refusal :=
  if s.powered then .next (settle s (effect s)) else .next s

end Sys2Proof.Machine
end

