-- ==== Sys2Proof/Machine/Topology.lean ====
section
/-! DEFINITION. The switchgear graph and its sets (R65 to R69), and the commit checks on a set of settings (R78 to
R83). -/

namespace Sys2Proof.Machine

open Wire

/-! ## The graph and the clearing set -/

/-- A node that is a source marked present (R65). -/
def TopologySettings.presentSource (t : TopologySettings) : Node → Bool
  | .source i => item t.sources false i
  | .none | .zone _ => false

/-- The used positions that conduct (R61, R65). -/
def State.conductors (s : State) : List Index :=
  (upTo 8).filter fun p => s.usedPosition p && (s.position p).derived.conducts

/-- One round of passing along positions from node to node without entering `z`: the nodes of `seen`, and the other
node of every position of `edges` that has a node in `seen` and does not have `z` as a node (R67). -/
def TopologySettings.spread (t : TopologySettings) (edges : List Index) (z : Node) (seen : List Node) : List Node :=
  edges.foldl (fun acc p =>
    let a := (item t.positions .factory p).nodeA
    let b := (item t.positions .factory p).nodeB
    if a == z || b == z then acc
    else if acc.contains a then (if acc.contains b then acc else b :: acc)
    else if acc.contains b then a :: acc
    else acc) seen

/-- The nodes reached from `seen` by at most `rounds` rounds. Eight rounds reach everything: each round that adds a
node uses a position no earlier round has used up, and there are eight positions. -/
def TopologySettings.reach (t : TopologySettings) (edges : List Index) (z : Node) : Nat → List Node → List Node
  | 0, seen => seen
  | k + 1, seen => t.reach edges z k (t.spread edges z seen)

/-- The other node of a position incident to `z`; none if the position is not incident, or joins `z` to itself. -/
def TopologySettings.farNode (t : TopologySettings) (z : Node) (p : Index) : Option Node :=
  let a := (item t.positions .factory p).nodeA
  let b := (item t.positions .factory p).nodeB
  if a == z && b != z then some b else if b == z && a != z then some a else none

/-- Condition 3 of R67 from a far node: it is, or reaches, a present source without entering `z`. -/
def TopologySettings.reachesSource (t : TopologySettings) (edges : List Index) (z f : Node) : Bool :=
  (t.reach edges z 8 [f]).any t.presentSource

/-- The clearing set of a zone (R67). -/
def State.clearingSet (s : State) (z : Index) : List Index :=
  s.conductors.filter fun p =>
    match s.settings.active.topology.farNode (.zone z) p with
    | none => false
    | some f => s.settings.active.topology.reachesSource s.conductors (.zone z) f

/-- The confirmation set of a clearing set (R69). -/
def State.confirmationSet (s : State) (clearing : List Index) : List Index :=
  (upTo 4).filter fun m => (s.pointSet m).attached.elim false clearing.contains

/-! ## The checks of a commit (R78) -/

/-- EDGE fails at a position (R79). -/
def Settings.edgeFails (c : Settings) (p : Index) : Bool :=
  let q := item c.topology.positions .factory p
  let absent : Node → Bool := fun n =>
    match n with
    | .source i => !item c.topology.sources false i
    | .none | .zone _ => false
  q.nodeA != .none && (q.nodeB == .none || q.nodeA == q.nodeB || absent q.nodeA || absent q.nodeB)

/-- CHANNEL_TWICE fails at a channel (R80). -/
def Settings.channelTwice (c : Settings) (n : Index) : Bool :=
  2 ≤ ((upTo 8).filter fun z => (item c.topology.zones .factory z).members.contains n).length

/-- POINT_ATTACH fails at a point (R81). -/
def Settings.pointAttachFails (c : Settings) (m : Index) : Bool :=
  match (item c.points .factory m).attached with
  | none => false
  | some p =>
    !c.topology.usedPosition p || (upTo (m - 1)).any fun k => (item c.points .factory k).attached == some p

/-- The local backup set of a position. -/
def Settings.backups (c : Settings) (p : Index) : List Index := (item c.topology.positions .factory p).backups

/-- BACKUP_SELF fails at a position (R82). -/
def Settings.backupSelf (c : Settings) (p : Index) : Bool := (c.backups p).contains p

/-- The positions that chains of at most `k` further backups reach from `from`. -/
def Settings.backupReach (c : Settings) : Nat → List Index → List Index
  | 0, reached => reached
  | k + 1, reached =>
    c.backupReach k ((upTo 8).filter fun q => reached.contains q || reached.any fun p => (c.backups p).contains q)

/-- A position lies on a cycle of the local backup relation (R82). -/
def Settings.onBackupCycle (c : Settings) (p : Index) : Bool := (c.backupReach 8 (c.backups p)).contains p

/-- ZONE_BLIND fails at a zone (R80). -/
def Settings.zoneBlind (c : Settings) (z : Index) : Bool :=
  let q := item c.topology.zones .factory z
  q.mode != .blocked && q.importZones.isEmpty &&
    q.members.all fun n => (item c.channels .factory n).kind == .unused

/-- LINK_OWNER fails at a point (R83). -/
def Settings.exportFails (c : Settings) (m : Index) : Bool :=
  match (item c.points .factory m).exported with
  | none => false
  | some i => c.link.unit == 0 || item c.link.owners none i != some c.link.unit

/-- LINK_OWNER fails for the peer list (R83). -/
def Settings.ownPeer (c : Settings) : Bool := c.link.peers.contains c.link.unit

/-- The first check that fails, as its code 1 to 7 and the first offending index (R78). -/
def Settings.firstFailure (c : Settings) : Option (Nat × Nat) :=
  let judged : List (Nat × List Index) :=
    [(1, (upTo 8).filter c.edgeFails), (2, (upTo 16).filter c.channelTwice), (3, (upTo 4).filter c.pointAttachFails),
     (4, (upTo 8).filter c.backupSelf), (5, (upTo 8).filter c.onBackupCycle), (6, (upTo 8).filter c.zoneBlind),
     (7, (upTo 4).filter c.exportFails ++ if c.ownPeer then [0] else [])]
  (judged.filterMap fun x => x.2.head?.map fun i => (x.1, i)).head?

end Sys2Proof.Machine
end

