-- ==== Sys2Proof/Machine/Records.lean ====
section
/-! DEFINITION. The record unit's operations (R143 to R145): opening a trip record, its entries, the changes the order
unit hands over, closing, and the store writes they queue (R170). -/

namespace Sys2Proof.Machine

open Wire

/-- A RECORD write is queued; one already waiting for that record keeps its place (R170). -/
def State.queueRecord (s : State) (number : Nat) : State :=
  { s with store := { s.store with
      waitRecords := if s.store.waitRecords.contains number then s.store.waitRecords
        else s.store.waitRecords ++ [number] } }

/-- A LOCKOUT write is queued (R170). -/
def State.queueLockout (s : State) : State := { s with store := { s.store with waitLockout := true } }

/-- The offset of this moment in the open record: units of 100 µs, saturated (R1, R142). -/
def State.offset (s : State) : Nat := saturate ((s.clock - s.incidentStart) / Config.offsetUnit)

/-- The next record number: after 65535 it wraps to 1 (R143). -/
def nextNumber (n : Nat) : Nat := if 65535 ≤ n then 1 else n + 1

/-- The OPEN record changed. -/
def State.mapOpen (s : State) (f : TripRecord → TripRecord) : State :=
  { s with records := s.records.map fun r => if r.state == .opened then f r else r }

/-- The entry an order has at its creation (R144). -/
def newEntry (o : Order) (c : Cause) (created : Nat) : Entry :=
  { position := o.position, cause := c, live := o.attr == .live, stage := .driving, created, confirmed := none,
    released := none }

/-- A creation while a record is OPEN: an entry, or a lost one, and the kind (R144). -/
def TripRecord.addEntry (r : TripRecord) (e : Entry) : TripRecord :=
  { r with
    kind := if e.live then .live else r.kind
    entries := if r.entries.length < 12 then r.entries ++ [e] else r.entries
    lost := if r.entries.length < 12 then r.lost else bump r.lost }

/-- The largest of a point's three magnitudes. -/
def Point.largest (p : Point) : Nat := p.magnitudes.foldl max 0

/-- Step 1 of R143: with sixteen records held the oldest is discarded, and its waiting write is dropped (R170). -/
def State.makeRoom (s : State) : State :=
  if s.records.length < 16 then s
  else
    { s with
      records := s.records.drop 1
      store := { s.store with
        waitRecords := s.store.waitRecords.filter fun n => !(s.records.take 1).any fun r => r.number == n } }

/-- The record that the creation of `o` opens, in the state before (R143). -/
def State.openedRecord (s : State) (o : Order) (c : Cause) : TripRecord :=
  { number := s.nextRecord
    kind := o.attr
    state := .opened
    openedAt := s.partTime
    cause := c
    light := (upTo 16).filter s.lightFlag
    zones := (upTo 8).filter fun z => (s.zone z).state == .tripped
    peaks := none
    entries := [newEntry o c 0]
    lost := 0
    olderLost := !(s.records.length < 16) && (s.records.take 1).any fun r => r.state == .unread
    written := false
    replaces := if s.records.length < 16 then none
      else (s.records.head?.filter fun r => r.kind == .live).map fun r => r.number }

/-- A record opens (R143). -/
def State.openRecord (s : State) (o : Order) (c : Cause) : State :=
  let r := s.openedRecord o c
  let s := s.makeRoom
  { s with
    records := s.records ++ [r]
    nextRecord := nextNumber s.nextRecord
    incidentStart := s.clock
    current := { s.current with points := s.current.points.map fun p => { p with peak := some p.largest } } }

/-- The order unit hands over a creation (R103, R143, R144). -/
def State.recordCreation (s : State) (listWasEmpty : Bool) (o : Order) (c : Cause) : State :=
  if listWasEmpty then s.openRecord o c else s.mapOpen fun r => r.addEntry (newEntry o c s.offset)

/-- A change of the standing order of a position, applied to its entry (R144). -/
def State.mapEntry (s : State) (p : Index) (f : Entry → Entry) : State :=
  s.mapOpen fun r =>
    { r with entries := r.entries.map fun e => if e.position == p && e.released == none then f e else e }

/-- Upgrade (R144). -/
def State.recordUpgrade (s : State) (p : Index) : State :=
  (s.mapEntry p fun e => { e with live := true, stage := .driving, confirmed := none }).mapOpen
    fun r => { r with kind := .live }

/-- Confirmation (R144): an entry in DRIVING becomes CONFIRMED, one in FAILED or STALLED keeps its stage. -/
def State.recordConfirmation (s : State) (p : Index) : State :=
  s.mapEntry p fun e =>
    { e with confirmed := some s.offset, stage := if e.stage == .driving then .confirmed else e.stage }

/-- Failure and stall (R144). -/
def State.recordStage (s : State) (p : Index) (g : EntryStage) : State := s.mapEntry p fun e => { e with stage := g }

/-- Release and cancellation (R144). -/
def State.recordRelease (s : State) (p : Index) : State := s.mapEntry p fun e => { e with released := some s.offset }

/-- Withdrawal (R144). -/
def State.recordWithdrawal (s : State) (p : Index) : State :=
  s.mapEntry p fun e => { e with stage := .withdrawn, released := some s.offset }

/-- The peaks of the four points, as handed to a closing record (R50, R145). -/
def State.peaks (s : State) : List Nat := (upTo 4).map fun m => ((s.point m).peak).getD 0

/-- The OPEN record closes (R145). -/
def State.closeRecord (s : State) : State :=
  match s.records.find? (fun r => r.state == .opened) with
  | none => s
  | some r =>
    let pk := s.peaks
    let s := { s with current := { s.current with points := s.current.points.map fun (p : Point) => { p with peak := none } } }
    let s := s.mapOpen fun q => { q with peaks := some pk, state := .unread }
    let s := s.post .recordClosed r.kind.code r.number
    if r.kind == .live then
      let s := s.queueRecord r.number
      if unreadLive s.records == 14 then s.post .recordsNearlyFull 0 14 else s
    else s

end Sys2Proof.Machine
end

