-- ==== Sys2Proof/Machine/Orders.lean ====
section
/-! DEFINITION. The order unit's operations (R103 to R124): requests, creation, merging, upgrade, confirmation,
release, failure, stall, withdrawal, and the trip outputs and lockout set they drive. -/

namespace Sys2Proof.Machine

open Wire

/-- The trip output of a position is energised (R120). -/
def State.energise (s : State) (p : Index) : State := { s with outputs := withMember 8 s.outputs p }
/-- The trip output of a position is de-energised (R120). -/
def State.deenergise (s : State) (p : Index) : State := { s with outputs := withoutMember 8 s.outputs p }

/-- The lockout of a position is set; a change queues a LOCKOUT write (R121). -/
def State.setLockout (s : State) (p : Index) : State :=
  if s.lockout.contains p then s else { s with lockout := withMember 8 s.lockout p }.queueLockout

/-- The lockouts of the positions of a set are cleared; a change queues a LOCKOUT write (R121, R122, R123). -/
def State.clearLockouts (s : State) (ps : List Index) : State :=
  if s.lockout.any ps.contains then { s with lockout := s.lockout.filter fun p => !ps.contains p }.queueLockout else s

/-- The instant at which a position's minimum pulse has run since `start` (R108). -/
def State.pulseEnd (s : State) (p : Index) (start : Instant) : Instant := start + (s.positionSet p).minPulse * Config.ms

/-- The minimum pulse of an order has run (R108). -/
def State.pulseRun (s : State) (o : Order) : Bool := s.pulseEnd o.position o.startedAt ≤ s.clock

/-- The deadline of an order started now (R103, R105). -/
def State.failDeadline (s : State) (p : Index) : Instant := s.clock + (s.positionSet p).failTime * Config.ms

/-- An order leaves the list: its output is de-energised, `record` tells the record unit, and the open record closes
with the last order (R108, R116, R119). Its remote flags fall with it (R112), which the link notes (R127). -/
def State.depart (s : State) (p : Index) (record : State → State) : State :=
  let t := record (({ s with orders := s.orders.filter fun o => o.position != p }).deenergise p)
  s.noteContent (if t.orders.isEmpty then t.closeRecord else t)

/-- Release (R108). -/
def State.release (s : State) (p : Index) : State := s.depart p fun t => t.recordRelease p

/-- Confirmation (R107); an order whose minimum pulse has run is released with it (R108). -/
def State.confirm (s : State) (o : Order) : State :=
  let s := (s.mapOrder o.position fun q => { q with stage := .confirmed }).recordConfirmation o.position
  if s.pulseRun o then s.release o.position else s

/-- The order of a position judged by the evidence as it stands: its supervised field follows the position (R109); a
supervised order not yet confirmed is confirmed when the position is cleared (R107); an unsupervised one is confirmed
and released when its minimum pulse has run (R108). -/
def State.judgeOrder (s : State) (p : Index) : State :=
  match s.orderAt p with
  | none => s
  | some o =>
    let unsup := s.unsupervised p
    let s := s.mapOrder p fun q => { q with supervised := !unsup }
    if o.stage == .confirmed then s
    else if unsup then (if s.pulseRun o then s.confirm o else s)
    else if s.cleared p then s.confirm o
    else s

/-- A new order (R103). -/
def State.newOrder (s : State) (p : Index) (c : Cause) (a : Attribute) : Order :=
  { position := p, attr := a, stage := .driving, causes := [c], further := 0, testOnly := c.origin == .test,
    startedAt := s.clock, deadline := s.failDeadline p, supervised := !s.unsupervised p, escalated := none,
    remoteHeld := false }

/-- Creation of an order (R103): placed at the end; a LIVE one energises its output and sets its lockout; the record
unit takes it; a supervised one whose position is cleared is confirmed at once. -/
def State.createOrder (s : State) (p : Index) (c : Cause) (a : Attribute) : State :=
  let o := s.newOrder p c a
  let wasEmpty := s.orders.isEmpty
  let s := { s with orders := s.orders ++ [o] }
  let s := if a == .live then (s.energise p).setLockout p else s
  (s.recordCreation wasEmpty o c).judgeOrder p

/-- A cause joins an order (R104). -/
def Order.addCause (o : Order) (c : Cause) : Order :=
  { o with
    causes := if o.causes.length < 4 then o.causes ++ [c] else o.causes
    further := if o.causes.length < 4 then o.further else bump o.further
    testOnly := o.testOnly && c.origin == .test }

/-- A DRY order becomes LIVE, whatever its stage (R105). -/
def State.upgradeOrder (s : State) (p : Index) : State :=
  let s := s.mapOrder p fun o =>
    { o with attr := .live, stage := .driving, startedAt := s.clock, deadline := s.failDeadline p, escalated := none }
  ((((s.energise p).setLockout p).recordUpgrade p).judgeOrder p)

/-- An order request (R103 to R105). -/
def State.requestOrder (s : State) (p : Index) (c : Cause) (a : Attribute) : State :=
  match s.orderAt p with
  | none => s.createOrder p c a
  | some o =>
    let s := s.mapOrder p fun q => q.addCause c
    if o.attr == .dry && a == .live then s.upgradeOrder p else s

/-- One request for each position of a list, in its order (R93, R94, R110). -/
def State.requestAll (s : State) (ps : List Index) (c : Cause) (a : Attribute) : State :=
  ps.foldl (fun t p => t.requestOrder p c a) s

/-- Failure at the deadline (R110), with its escalation. -/
def State.escalate (s : State) (o : Order) : State :=
  let p := o.position
  let s := (s.mapOrder p fun q => { q with stage := .failed, escalated := some (!o.testOnly) }).recordStage p .failed
  let s := s.post .orderFailed p o.attr.code
  if o.testOnly then s
  else
    let local_ := (s.positionSet p).backups.filter s.usedPosition
    let s := s.requestAll local_ ⟨.backup, p⟩ o.attr
    if o.attr == .live && !(presentEntries (s.positionSet p).remoteBackups).isEmpty then
      s.mapOrder p fun q => { q with remoteHeld := true }
    else s

/-- Failure at the deadline (R110). Flags it raises are a change of content even where the order is released at the same
instant (R113, R127). -/
def State.failOrder (s : State) (o : Order) : State := s.noteContent (s.escalate o)

/-- The stall (R115). -/
def State.stallOrder (s : State) (o : Order) : State :=
  let p := o.position
  let s := ((s.mapOrder p fun q => { q with stage := .stalled }).deenergise p).recordStage p .stalled
  s.post .driveTimeout p o.attr.code

/-- Every DRY order is withdrawn (R119). -/
def State.withdrawDry (s : State) : State :=
  ((s.orders.filter fun o => o.attr == .dry).map fun o => o.position).foldl
    (fun t p => t.depart p fun u => u.recordWithdrawal p) s

end Sys2Proof.Machine
end

