-- ==== Sys2Proof/Machine/Zones.lean ====
section
/-! DEFINITION. The zone logic (R86 to R99) and the topology unit's recomputation (R70, R71): readings, condition,
target, the transitions with their effects, and the hand-over of changed sets. -/

namespace Sys2Proof.Machine

open Wire

/-- Zones are evaluated in IN_SERVICE, TEST and OUT_OF_SERVICE (R97). -/
def Protection.evaluates : Protection → Bool
  | .inService | .test | .outOfService => true
  | .starting | .setupFault => false

/-- The trip condition from a mode, a fallback, the availability and the two readings (R88). -/
def conditionOf (mode : ZoneMode) (fallback : Fallback) (unavailable realLight dryLight realCurrent dryCurrent : Bool) :
    Condition :=
  let graded : Bool → Bool → Condition := fun real dry => if real then .live else if dry then .dry else .none
  match mode with
  | .blocked => .none
  | .lightOnly => graded realLight dryLight
  | .checked =>
    if unavailable then
      match fallback with
      | .hold => .none
      | .lightOnly => graded realLight dryLight
    else graded (realLight && realCurrent) (dryLight && dryCurrent)

/-- The state a zone takes at an evaluation (R89). -/
inductive Target where
  | quiet
  | alert (reason : AlertReason)
  | tripped (attr : Attribute)
  deriving DecidableEq, Repr

/-- The alert reason of a zone whose target is ALERT (R89). -/
def alertReasonOf (c : Condition) (mode : ZoneMode) (unavailable : Bool) (fallback : Fallback) : AlertReason :=
  if c != .none then .heldOutOfService
  else if mode == .blocked then .zoneBlocked
  else if unavailable && fallback == .hold then .currentUnavailable
  else .noCurrent

/-- The target of an evaluation (R89). -/
def targetOf (outOfService : Bool) (c : Condition) (dryLight : Bool) (reason : AlertReason) : Target :=
  match c with
  | .live => if outOfService then .alert reason else .tripped .live
  | .dry => if outOfService then .alert reason else .tripped .dry
  | .none => if dryLight then .alert reason else .quiet

/-- The zone with the readings, availability and condition of an evaluation now (R90). -/
def State.readings (s : State) (z : Index) : Zone :=
  let q := s.zone z
  let c := s.zoneSet z
  { q with
    realLight := s.realLight z
    dryLight := s.dryLight z
    realCurrent := s.realCurrent z
    dryCurrent := s.dryCurrent z
    unavailable := s.unavailable z
    condition := conditionOf c.mode c.fallback (s.unavailable z) (s.realLight z) (s.dryLight z) (s.realCurrent z)
      (s.dryCurrent z) }

/-- The target of zone `z` from the readings of `q` (R89). -/
def State.target (s : State) (z : Index) (q : Zone) : Target :=
  targetOf (s.control.state == .outOfService) q.condition q.dryLight
    (alertReasonOf q.condition (s.zoneSet z).mode q.unavailable (s.zoneSet z).fallback)

/-- Some remote clearing entry is present (R93). -/
def State.hasRemoteList (s : State) (z : Index) : Bool := !(presentEntries (s.zoneSet z).remoteList).isEmpty

/-- Leaving TRIPPED (R95): the trip attribute becomes absent and the remote requests are released. -/
def Zone.leaveTripped (q : Zone) : Zone := { q with attr := none, remoteHeld := false }

/-- Entry into ALERT (R92); ZONE_ALERT once an episode. -/
def State.enterAlert (s : State) (z : Index) (q : Zone) (reason : AlertReason) : State :=
  let t := s.setZone z
    { q.leaveTripped with state := .alert, alertReason := some reason, alertMark := true, since := s.partTime }
  if q.alertMark then t else t.post .zoneAlert z reason.code

/-- Entry into QUIET (R95). -/
def State.enterQuiet (s : State) (z : Index) (q : Zone) : State :=
  s.setZone z { q.leaveTripped with state := .quiet, alertReason := none, alertMark := false, since := s.partTime }

/-- The orders of a zone's clearing set, or NO_SOURCE (R93, items 3 and 5; R94). -/
def State.requestClearing (s : State) (z : Index) (a : Attribute) : State :=
  let cs := (s.zone z).clearing
  if cs.isEmpty && !s.hasRemoteList z then s.post .noSource z a.code else s.requestAll cs ⟨.zone, z⟩ a

/-- Entry into TRIPPED (R93). -/
def State.enterTripped (s : State) (z : Index) (q : Zone) (a : Attribute) : State :=
  let s := s.setZone z
    { q with state := .tripped, attr := some a, alertReason := none, trips := bump q.trips,
             remoteHeld := a == .live, since := s.partTime }
  (s.post .zoneTrip z a.code).requestClearing z a

/-- DRY to LIVE (R94). -/
def State.upgradeZone (s : State) (z : Index) (q : Zone) : State :=
  let s := s.setZone z { q with attr := some .live, remoteHeld := true, since := s.partTime }
  (s.post .zoneTrip z Attribute.live.code).requestClearing z .live

/-- LIVE to DRY (R94). -/
def State.downgradeZone (s : State) (z : Index) (q : Zone) : State :=
  s.setZone z { q with attr := some .dry, remoteHeld := false, since := s.partTime }

/-- Growth of the clearing set: one request for each position that entered, if the zone is TRIPPED after the
evaluation, with the attribute then in force (R94). -/
def State.growZone (s : State) (z : Index) (entered : List Index) : State :=
  match (s.zone z).attr with
  | some a => if (s.zone z).state == .tripped then s.requestAll entered ⟨.zone, z⟩ a else s
  | none => s

/-- One evaluation of a zone (R90, R91), with the positions that have just entered its clearing set (R71). -/
def State.evaluate (s : State) (z : Index) (entered : List Index) : State :=
  if !s.control.state.evaluates || !s.usedZone z then s
  else
    let q := s.readings z
    match s.target z q, q.state with
    | .quiet, .quiet => s.setZone z q
    | .quiet, .alert | .quiet, .tripped => s.enterQuiet z q
    | .alert r, .alert => s.setZone z { q with alertReason := some r }
    | .alert r, .quiet | .alert r, .tripped => s.enterAlert z q r
    | .tripped a, .quiet | .tripped a, .alert => s.enterTripped z q a
    | .tripped a, .tripped =>
      (if q.attr == some a then s.setZone z q
        else match a with
          | .live => s.upgradeZone z q
          | .dry => s.downgradeZone z q).growZone z entered

/-- One evaluation among several of a command, with the change of content it brings noted by the link (R127). -/
def State.evaluateNoted (s : State) (z : Index) (entered : List Index) : State := s.noteContent (s.evaluate z entered)

/-- The zones of a condition evaluated, in the schedule's order (R90). -/
def State.evaluateWhere (s : State) (which : Index → Bool) : State :=
  ((inOrder s.sched.zones 8).filter which).foldl (fun t z => t.evaluateNoted z []) s

/-- Every used zone evaluated (R97). -/
def State.evaluateAll (s : State) : State := s.evaluateWhere fun _ => true

/-- The zones that have a channel as a member evaluated (R12). -/
def State.evaluateMember (s : State) (n : Index) : State :=
  s.evaluateWhere fun z => (s.zoneSet z).members.contains n

/-- The zones whose confirmation set holds a point evaluated (R48). -/
def State.evaluatePoint (s : State) (m : Index) : State :=
  s.evaluateWhere fun z => (s.zone z).confirmation.contains m

/-- A zone's record with the sets as they are computed now: if they differ from before, sets changed at takes the part
time and the counter is increased (R66, R71). -/
def State.resetZone (s : State) (z : Index) : Zone :=
  let q := s.zone z
  let cs := s.clearingSet z
  let ms := s.confirmationSet cs
  if q.clearing == cs && q.confirmation == ms then q
  else { q with clearing := cs, confirmation := ms, setsChangedAt := s.partTime, setChanges := bump q.setChanges }

/-- The sets of all eight zones replaced together (R70). -/
def State.replaceSets (s : State) : State := { s with zones := (upTo 8).map s.resetZone }

/-- A zone whose sets differ between two states (R71). -/
def State.setsDiffer (before after : State) (z : Index) : Bool :=
  (before.zone z).clearing != (after.zone z).clearing || (before.zone z).confirmation != (after.zone z).confirmation

/-- The positions that entered a zone's clearing set (R71). -/
def State.enteredSince (before after : State) (z : Index) : List Index :=
  (after.zone z).clearing.filter fun p => !(before.zone z).clearing.contains p

/-- The hand-over to the zone logic: each zone whose sets changed evaluates anew, with the positions that entered
(R71). -/
def State.handOver (before after : State) : State :=
  ((inOrder after.sched.zones 8).filter fun z => before.setsDiffer after z).foldl
    (fun t z => t.evaluateNoted z (before.enteredSince after z)) after

/-- Recomputation of all sets and the hand-over of the changed ones (R70, R71). -/
def State.recompute (s : State) : State := s.handOver s.replaceSets

/-- The change of presented link values between two states reaches a zone: an imported link zone or link current, or
an owner's usability, changed (R136). -/
def State.linkInputsDiffer (before after : State) (z : Index) : Bool :=
  (after.zoneSet z).importZones.any (fun i => before.presentedZone i != after.presentedZone i) ||
    (after.zoneSet z).importCurrents.any fun i =>
      before.presentedCurrent i != after.presentedCurrent i || before.ownerUsable i != after.ownerUsable i

/-- Every zone whose presented link values changed since `before` evaluates anew (R136). -/
def State.handLinkInputs (before after : State) : State := after.evaluateWhere fun z => before.linkInputsDiffer after z

end Sys2Proof.Machine
end

