-- ==== Sys2Proof/Machine/Positions.lean ====
section
/-! DEFINITION. The position inputs' operations (R56 to R59, R63, R64): debounce, derivation, the effects of a change of
derived position, and the 4 ms debounce of the two buttons (R123, R154). -/

namespace Sys2Proof.Machine

open Wire

/-- The derived position from use, wiring, the two taken contacts and whether the discrepancy time has run (R57). -/
def derivedOf (used wired cl op expired : Bool) : Derived :=
  if !used || !wired then .none
  else
    match cl, op with
    | true, false => .closed
    | false, true => .opened
    | true, true => .invalid
    | false, false => if expired then .invalid else .travel

/-- The position's record after a derivation now, without the effects of a change (R57, R58): TRAVEL entered starts at
this instant, TRAVEL left has no start, and a both-off spell that has ended is no longer expired. -/
def State.derivedRecord (s : State) (p : Index) : Position :=
  let q := s.position p
  let used := s.usedPosition p
  let wired := (s.positionSet p).wired
  let expired := q.expired && used && wired && !q.cl.taken && !q.op.taken
  let d := derivedOf used wired q.cl.taken q.op.taken expired
  { q with
    expired
    derived := d
    travelStart := if d == .travel then (if q.derived == .travel then q.travelStart else some s.clock) else none }

/-- Derivation with items 1 and 2 of R59: a new value is stamped, counted and posted; the value already held changes
nothing. -/
def State.derive (s : State) (p : Index) : State :=
  let q := s.position p
  let r := s.derivedRecord p
  if r.derived == q.derived then s.setPosition p r
  else
    (s.setPosition p { r with changedAt := s.partTime, changes := bump r.changes }).post .positionChange p r.derived.code

/-- Derivation with all effects of R59: the topology unit recomputes and the order unit judges the position's order.
Neither waits for the other. -/
def State.derivePosition (s : State) (p : Index) : State :=
  let t := s.derive p
  if (t.position p).derived == (s.position p).derived then t
  else if s.sched.ordersFirst then (t.judgeOrder p).recompute
  else t.recompute.judgeOrder p

/-- A raw change of an input (R56): its timer starts afresh for 4 ms, or stops if the raw state equals the taken state.
A raw state already held is no change. -/
def ContactInput.change (c : ContactInput) (now : Instant) (on : Bool) : ContactInput :=
  if on == c.raw then c
  else { c with raw := on, timer := if on == c.taken then none else some (now + Config.debounce) }

/-- The taken state takes the raw state at the timer's expiry (R56). -/
def ContactInput.take (c : ContactInput) : ContactInput := { c with taken := c.raw, timer := none }

/-- An input at a restart (R64): taken off; a raw state that is on starts its timer. -/
def ContactInput.restart (c : ContactInput) : ContactInput :=
  { raw := c.raw, taken := false, timer := if c.raw then some Config.debounce else none }

/-- One contact of a position. -/
def Position.contact (q : Position) : Contact → ContactInput
  | .cl => q.cl
  | .op => q.op

/-- The position with one contact replaced. -/
def Position.setContact (q : Position) (c : Contact) (i : ContactInput) : Position :=
  match c with
  | .cl => { q with cl := i }
  | .op => { q with op := i }

/-- A change of a button input (R123, R154): its 4 ms debounce starts, or stops if it is as taken. -/
def Button.change (b : Button) (now : Instant) (closed : Bool) : Button :=
  if closed == b.raw then b
  else { b with raw := closed, timer := if closed == b.taken then none else some (now + Config.debounce) }

/-- The button is taken as it stands. -/
def Button.take (b : Button) : Button := { b with taken := b.raw, timer := none }

/-- A button at a restart (R123, R154): it must be taken as open before a press is taken. -/
def Button.restart (b : Button) : Button :=
  { raw := b.raw, taken := true, timer := if b.raw then none else some Config.debounce }

/-- The position record at a restart (R64): both contacts taken off, derived once, which is not a change. -/
def Position.restart (q : Position) (used wired : Bool) : Position :=
  { cl := q.cl.restart
    op := q.op.restart
    derived := derivedOf used wired false false false
    changedAt := 0
    travelStart := if used && wired then some 0 else none
    expired := false
    changes := 0 }

end Sys2Proof.Machine
end

