-- ==== Sys2Proof/Machine/Telegram.lean ====
section
/-! DEFINITION. The cross-link telegram (R184): its 74 bits written from a content, and a content read from them. -/

namespace Sys2Proof.Machine

open Wire

/-- The state field read (R125, R184). -/
def Reported.ofCode : Nat → Reported
  | 1 => .inService
  | 2 => .test
  | 3 => .outOfService
  | _ => .startingOrOther

/-- Bits 1 to 53, which the check covers (R184). -/
def Content.bits (c : Content) : List Bit :=
  bitsOf 3 c.unit ++ bitsOf 2 c.state.code ++ (upTo 8).map c.zones.contains ++ (upTo 8).map c.currents.contains ++
    requestFlags.map c.requests.contains

/-- Bits 1 to 73: the covered bits, the check and the four end bits (R184). -/
def Content.afterStart (c : Content) : List Bit :=
  c.bits ++ bitsOf 16 (check c.bits).toNat ++ [true, true, true, true]

/-- The whole telegram, from its dominant start bit (R184). -/
def Content.telegram (c : Content) : List Bit := false :: c.afterStart

/-- The content of the 53 covered bits (R184). -/
def Content.ofBits (bs : List Bit) : Content :=
  { unit := natOf (bs.take 3)
    state := .ofCode (natOf ((bs.drop 3).take 2))
    zones := picked (upTo 8) (bs.drop 5)
    currents := picked (upTo 8) (bs.drop 13)
    requests := picked requestFlags (bs.drop 21) }

/-- The four end bits of bits 1 to 73 are recessive (R132). -/
def endBitsGood (bits : List Bit) : Bool := (bits.drop 69).take 4 == [true, true, true, true]

/-- The check read agrees with the check computed (R132). -/
def telegramCheckGood (bits : List Bit) : Bool :=
  natOf ((bits.drop 53).take 16) == (check (bits.take 53)).toNat

end Sys2Proof.Machine
end

