-- ==== Sys2Proof/Machine/LinkOps.lean ====
section
/-! DEFINITION. The cross link controller's operations (R127 to R138): the line's progress, the judgement of a telegram
read, duplicates, and what is taken from a peer. -/

namespace Sys2Proof.Machine

open Wire

/-- The link is active: the link unit number is not 0 (R125). -/
def State.linkActive (s : State) : Bool := s.settings.active.link.unit != 0

/-- The link controller changed. -/
def State.mapLink (s : State) (f : Link → Link) : State := { s with link := f s.link }

/-- A link counter changed (R139). -/
def State.countLink (s : State) (f : LinkCounters → LinkCounters) : State :=
  s.mapLink fun l => { l with counters := f l.counters }

/-- A send in progress or prepared is given up and stays due (R127, R129, R130, R133). -/
def Link.backToDue (l : Link) : Link :=
  { l with tx := .due, snapshot := none, decided := none, driving := none, sendStart := none }

/-- The line is idle from this instant: no telegram is in progress and recessive bit times are counted afresh (R132). -/
def Link.idleFrom (l : Link) (now : Instant) : Link := { l with telegram := none, recessive := now }

/-- The beginning of the first bit time from `now` on that follows eight recessive ones (R128). On an idle line bit times
are counted on from the end of what was last on it (DESIGN CHOICE, notes/assumptions/49.md). -/
def Link.startFrom (l : Link) (now : Instant) : Instant :=
  l.recessive + max 8 ((now - l.recessive + (Config.bitTime - 1)) / Config.bitTime) * Config.bitTime

/-- The start bit is driven at `start`, and the unit is SENDING (R128). -/
def Link.startSending (l : Link) (c : Content) (start : Instant) : Link :=
  { l with
    tx := .sending, decided := none, driving := some c.telegram, sendStart := some start, telegram := some start }

/-- An ARMED unit's own start bit, when it falls in the present bit time: its instant and its content (R128). -/
def State.ownStart (s : State) : Option (Instant × Content) :=
  match s.link.tx, s.link.decided, s.link.snapshot with
  | .armed, some d, some c =>
    let start := s.link.startFrom d
    if start ≤ s.clock && s.clock < start + Config.bitTime then some (start, c) else none
  | _, _, _ => none

/-- The instant from which a start bit can be seen (R132). -/
def State.toStartBit (s : State) : State := s.advanceTo (s.link.recessive + Config.idleBits)

/-- A start bit of another unit is seen (R132): a telegram is in progress from now, at whose end the unit may
decide again (R128), whatever it awaited before (R130). An ARMED unit whose own start bit falls in the same bit time starts
together with the other, to arbitrate; otherwise its attempt is voided (R129). -/
def State.startBit (s : State) : State :=
  let s := s.toStartBit
  match s.ownStart with
  | some (start, c) => s.mapLink fun l => l.startSending c start
  | none =>
    let t := s.mapLink fun l => { l with telegram := some s.clock, holdOff := none }
    if s.link.tx == .armed then
      (t.mapLink Link.backToDue).countLink fun c => { c with voidedStarts := bump c.voidedStarts }
    else t

/-- A request edge from a peer (R117). -/
def State.requestEdge (s : State) (u p : Index) : State :=
  if (s.control.state == .inService || s.control.state == .test) && s.usedPosition p &&
      (s.positionSet p).accept.contains u then
    s.requestOrder p ⟨.remote, u⟩ .live
  else s.post .remoteRefused p u

/-- The request flags of a content addressed to a unit, as positions ascending (R136). -/
def Content.requestsTo (c : Content) (unit : Nat) : List Index :=
  (upTo 8).filter fun p => c.requests.contains ⟨unit, p⟩

/-- What is taken of a peer's telegram: as read from a peer in IN_SERVICE or TEST, otherwise nothing (R136, item 3). -/
def Content.taken (c : Content) : Content := if c.state.usable then c else { c with zones := [], currents := [], requests := [] }

/-- A peer's record after its telegram at `now` (R135, R136). -/
def Peer.take (p : Peer) (c : Content) (own : Nat) (now : Instant) : Peer :=
  { p with
    state := .live
    reported := some c.state
    light := c.taken.zones
    current := c.taken.currents
    requests := c.taken.requestsTo own
    lastHeard := some now
    silence := some (now + Config.silence) }

/-- A valid telegram from a configured peer is taken (R135 to R137). The rising edges go to the order unit in ascending
order of position and the changed link values to the zones; neither waits for the other (R137). -/
def State.takePeer (s : State) (p : Peer) (c : Content) : State :=
  let own := s.settings.active.link.unit
  let edges := (c.taken.requestsTo own).filter fun q => !p.requests.contains q
  let t := if p.state == .live then s else s.post .peerState p.unit PeerState.live.code
  let t := t.mapPeer p.unit fun q => q.take c own s.clock
  let handEdges : State → State := fun u => edges.foldl (fun v q => v.requestEdge p.unit q) u
  if s.sched.ordersFirst then s.handLinkInputs (handEdges t) else handEdges (s.handLinkInputs t)

/-- A valid telegram with this unit's own number that it did not complete (R133). -/
def State.takeDuplicate (s : State) : State :=
  let s := s.countLink fun c => { c with duplicates := bump c.duplicates }
  let recent := match s.link.duplicateNotice with
    | none => false
    | some t => s.clock < t + Config.duplicateSpan
  let s := if recent then s
    else
      (s.post .duplicateUnit s.settings.active.link.unit s.link.counters.duplicates).mapLink
        fun l => { l with duplicateNotice := some s.clock }
  s.mapLink fun l =>
    { (if l.tx == .armed then l.backToDue else l) with
      suspended := some (s.clock + Config.duplicateSpan)
      lastDuplicate := some s.clock
      duplicateAlarm := true }

/-- A telegram read to its end is judged (R132). `bits` are bits 1 to 73. -/
def State.judgeTelegram (s : State) (bits : List Bit) : State :=
  if !endBitsGood bits then s.countLink fun c => { c with framingErrors := bump c.framingErrors }
  else if !telegramCheckGood bits then s.countLink fun c => { c with checkFailures := bump c.checkFailures }
  else
    let c := Content.ofBits (bits.take 53)
    if c.unit == s.settings.active.link.unit then s.takeDuplicate
    else
      match s.peer c.unit with
      | some p => s.takePeer p c
      | none => s.countLink fun k => { k with strangers := bump k.strangers }

/-- A peer leaves LIVE for LOST (R135): its flags are cleared and its timer stops; reported state and last heard are
kept. -/
def Peer.lose (p : Peer) : Peer := { p with state := .lost, light := [], current := [], requests := [], silence := none }

/-- The instant from which the heartbeat is measured (R127): the last completed telegram's start, or the link's start if
none has been completed since. -/
def Link.heartbeatBase (l : Link) : Instant := max l.started (l.lastStart.getD 0)

end Sys2Proof.Machine
end

