-- ==== Sys2Proof/Machine/Items.lean ====
section
/-! DEFINITION. Setting items (R165, R166, R185): the form of each identifier, its value read from and written into a
set of settings, the value a WRITE_SETTING stores, and whether every item of an image lies within its values (R172). -/

namespace Sys2Proof.Machine

open Wire

/-- The form of an item (R166). -/
inductive ItemForm where
  /-- clamped to its range -/
  | number (low high : Nat)
  /-- a code 0 to `last`, or BAD_VALUE -/
  | enumeration (last : Nat)
  /-- a remote entry -/
  | remote
  /-- a set of 1 to `width` -/
  | set (width : Nat)
  /-- the configured peers: a set of units, at most three -/
  | peers
  deriving DecidableEq, Repr

/-- The form of an identifier's item; none for one that names nothing (R185). -/
def itemForm (group index item : Nat) : Option ItemForm :=
  let within : Nat → Option ItemForm → Option ItemForm := fun n f => if 1 ≤ index && index ≤ n then f else none
  match group with
  | 1 => within 16 <|
    match item with
    | 1 => some (.enumeration 2)
    | 2 => some (.number 200 4000)
    | 3 => some (.number 0 2000)
    | 4 => some (.number 1 8)
    | 5 => some (.number 256 4000)
    | _ => none
  | 2 => within 4 <|
    match item with
    | 1 => some (.enumeration 8)
    | 2 => some (.number 5 75)
    | 3 => some (.number 1 20)
    | 4 => some (.number 10 100)
    | 5 => some (.enumeration 8)
    | _ => none
  | 3 => within 8 <|
    match item with
    | 1 | 2 => some (.enumeration 12)
    | 3 => some (.enumeration 1)
    | 4 => some (.number 50 500)
    | 5 => some (.number 80 300)
    | 6 => some (.number 100 500)
    | 7 => some (.set 8)
    | 8 => some (.set 4)
    | 9 | 10 | 11 | 12 => some .remote
    | _ => none
  | 4 => within 4 <| match item with
    | 1 => some (.enumeration 1)
    | _ => none
  | 5 => within 8 <|
    match item with
    | 1 => some (.enumeration 2)
    | 2 => some (.set 16)
    | 3 | 4 => some (.set 8)
    | 5 => some (.enumeration 8)
    | 6 | 7 | 8 | 9 => some .remote
    | 10 => some (.enumeration 1)
    | _ => none
  | 6 =>
    if index == 0 then
      match item with
      | 1 => some (.number 0 4)
      | 2 => some .peers
      | _ => none
    else within 8 <| match item with
      | 1 => some (.enumeration 4)
      | _ => none
  | 7 =>
    if index == 0 then
      match item with
      | 1 => some (.number 1 30)
      | 2 => some (.enumeration 1)
      | _ => none
    else none
  | _ => none

/-! ## Codes read back -/

def ChannelKind.ofCode : Nat → ChannelKind
  | 1 => .loop | 2 => .point | _ => .unused
def Node.ofCode (n : Nat) : Node := if n == 0 then .none else if n ≤ 8 then .zone n else .source (n - 8)
def ZoneMode.ofCode : Nat → ZoneMode
  | 0 => .checked | 1 => .lightOnly | _ => .blocked
def Fallback.ofCode : Nat → Fallback
  | 0 => .hold | _ => .lightOnly
def Frequency.ofCode : Nat → Frequency
  | 0 => .hz50 | _ => .hz60
def optOfCode (n : Nat) : Option Index := if n == 0 then none else some n
/-- A remote entry's value: the high byte the unit, the low byte the position, 0 when absent (R185). -/
def remoteCode : Option RemoteEntry → Nat
  | none => 0
  | some e => e.unit * 256 + e.position
def remoteOfCode (n : Nat) : Option RemoteEntry := if n / 256 == 0 then none else some ⟨n / 256, n % 256⟩

/-- The value of an item in a set of settings, in the form in which it travels (R185); 0 for an identifier that names
nothing. -/
def Settings.get (c : Settings) (group index k : Nat) : Nat :=
  match group with
  | 1 =>
    let q := item c.channels .factory index
    match k with
    | 1 => q.kind.code
    | 2 => q.pickup
    | 3 => q.margin
    | 4 => q.qualify
    | 5 => q.reference
    | _ => 0
  | 2 =>
    let q := item c.points .factory index
    match k with
    | 1 => optCode q.attached
    | 2 => q.pickup
    | 3 => q.present
    | 4 => q.hold
    | 5 => optCode q.exported
    | _ => 0
  | 3 =>
    let q := item c.topology.positions .factory index
    match k with
    | 1 => q.nodeA.code
    | 2 => q.nodeB.code
    | 3 => q.wired.toNat
    | 4 => q.discrepancy
    | 5 => q.failTime
    | 6 => q.minPulse
    | 7 => bitmap 8 q.backups
    | 8 => bitmap 4 q.accept
    | 9 | 10 | 11 | 12 => remoteCode (item q.remoteBackups none (k - 8))
    | _ => 0
  | 4 => (item c.topology.sources false index).toNat
  | 5 =>
    let q := item c.topology.zones .factory index
    match k with
    | 1 => q.mode.code
    | 2 => bitmap 16 q.members
    | 3 => bitmap 8 q.importZones
    | 4 => bitmap 8 q.importCurrents
    | 5 => optCode q.exportZone
    | 6 | 7 | 8 | 9 => remoteCode (item q.remoteList none (k - 5))
    | 10 => q.fallback.code
    | _ => 0
  | 6 =>
    if index == 0 then (if k == 1 then c.link.unit else bitmap 4 c.link.peers)
    else optCode (item c.link.owners none index)
  | 7 => if k == 1 then c.station.address else c.station.frequency.code
  | _ => 0

/-- A set of settings with an item's stored value replaced (R166, R185). -/
def Settings.set (c : Settings) (group index k v : Nat) : Settings :=
  match group with
  | 1 =>
    let q := item c.channels .factory index
    let r : ChannelSettings :=
      match k with
      | 1 => { q with kind := .ofCode v }
      | 2 => { q with pickup := v }
      | 3 => { q with margin := v }
      | 4 => { q with qualify := v }
      | 5 => { q with reference := v }
      | _ => q
    { c with channels := put c.channels index r }
  | 2 =>
    let q := item c.points .factory index
    let r : PointSettings :=
      match k with
      | 1 => { q with attached := optOfCode v }
      | 2 => { q with pickup := v }
      | 3 => { q with present := v }
      | 4 => { q with hold := v }
      | 5 => { q with exported := optOfCode v }
      | _ => q
    { c with points := put c.points index r }
  | 3 =>
    let q := item c.topology.positions .factory index
    let r : PositionSettings :=
      match k with
      | 1 => { q with nodeA := .ofCode v }
      | 2 => { q with nodeB := .ofCode v }
      | 3 => { q with wired := v != 0 }
      | 4 => { q with discrepancy := v }
      | 5 => { q with failTime := v }
      | 6 => { q with minPulse := v }
      | 7 => { q with backups := membersOf 8 v }
      | 8 => { q with accept := membersOf 4 v }
      | 9 | 10 | 11 | 12 => { q with remoteBackups := put q.remoteBackups (k - 8) (remoteOfCode v) }
      | _ => q
    { c with topology := { c.topology with positions := put c.topology.positions index r } }
  | 4 => { c with topology := { c.topology with sources := put c.topology.sources index (v != 0) } }
  | 5 =>
    let q := item c.topology.zones .factory index
    let r : ZoneSettings :=
      match k with
      | 1 => { q with mode := .ofCode v }
      | 2 => { q with members := membersOf 16 v }
      | 3 => { q with importZones := membersOf 8 v }
      | 4 => { q with importCurrents := membersOf 8 v }
      | 5 => { q with exportZone := optOfCode v }
      | 6 | 7 | 8 | 9 => { q with remoteList := put q.remoteList (k - 5) (remoteOfCode v) }
      | 10 => { q with fallback := .ofCode v }
      | _ => q
    { c with topology := { c.topology with zones := put c.topology.zones index r } }
  | 6 =>
    if index == 0 then
      if k == 1 then { c with link := { c.link with unit := v } }
      else { c with link := { c.link with peers := membersOf 4 v } }
    else { c with link := { c.link with owners := put c.link.owners index (optOfCode v) } }
  | 7 =>
    if k == 1 then { c with station := { c.station with address := v } }
    else { c with station := { c.station with frequency := .ofCode v } }
  | _ => c

/-- The value a WRITE_SETTING stores for an item of a form; none is BAD_VALUE (R166, R185). -/
def ItemForm.stored (f : ItemForm) (v : Nat) : Option Nat :=
  match f with
  | .number low high => some (max low (min high v))
  | .enumeration last => if v ≤ last then some v else none
  | .remote =>
    if v / 256 == 0 then some 0
    else if 4 < v / 256 || v % 256 == 0 || 8 < v % 256 then none
    else some v
  | .set width => some (bitmap width (membersOf width v))
  | .peers => if (membersOf 4 v).length == 4 then none else some (bitmap 4 (membersOf 4 v))

/-- The CLAMPED flag: a number's value was replaced by a limit (R166). -/
def ItemForm.clamped (f : ItemForm) (v : Nat) : Bool :=
  match f with
  | .number low high => v < low || high < v
  | .enumeration _ | .remote | .set _ | .peers => false

/-! ## An image's items within their values (R172) -/

/-- A set of 1 to `width`, as an ascending list. -/
def setOk (width : Nat) (set : List Index) : Bool := set == (upTo width).filter set.contains

def optOk (last : Nat) (o : Option Index) : Bool := o.elim true fun n => 1 ≤ n && n ≤ last

def within (low high n : Nat) : Bool := low ≤ n && n ≤ high

def entriesOk (l : List (Option RemoteEntry)) : Bool :=
  l.length == 4 && l.all fun o => o.elim true fun e => within 1 4 e.unit && within 1 8 e.position

def Node.ok : Node → Bool
  | .none => true
  | .zone z => within 1 8 z
  | .source i => within 1 4 i

def ChannelSettings.ok (c : ChannelSettings) : Bool :=
  within 200 4000 c.pickup && within 0 2000 c.margin && within 1 8 c.qualify && within 256 4000 c.reference

def PointSettings.ok (c : PointSettings) : Bool :=
  optOk 8 c.attached && within 5 75 c.pickup && within 1 20 c.present && within 10 100 c.hold && optOk 8 c.exported

def PositionSettings.ok (c : PositionSettings) : Bool :=
  c.nodeA.ok && c.nodeB.ok && within 50 500 c.discrepancy && within 80 300 c.failTime && within 100 500 c.minPulse &&
    setOk 8 c.backups && setOk 4 c.accept && entriesOk c.remoteBackups

def ZoneSettings.ok (c : ZoneSettings) : Bool :=
  setOk 16 c.members && setOk 8 c.importZones && setOk 8 c.importCurrents && optOk 8 c.exportZone &&
    entriesOk c.remoteList

def LinkSettings.ok (c : LinkSettings) : Bool :=
  within 0 4 c.unit && setOk 4 c.peers && c.peers.length ≤ 3 && c.owners.length == 8 && c.owners.all (optOk 4)

/-- Every item lies within its values (R172). -/
def Settings.ok (c : Settings) : Bool :=
  c.channels.length == 16 && c.channels.all ChannelSettings.ok && c.points.length == 4 && c.points.all PointSettings.ok &&
    c.topology.positions.length == 8 && c.topology.positions.all PositionSettings.ok &&
    c.topology.sources.length == 4 && c.topology.zones.length == 8 && c.topology.zones.all ZoneSettings.ok &&
    c.link.ok && within 1 30 c.station.address

end Sys2Proof.Machine
end

