-- ==== Sys2Proof/Machine/Apply.lean ====
section
/-! DEFINITION. State control's change of protection state (R153) and the settings unit's staged application: the
effects of each part (R22, R23, R40, R52, R53, R63, R73, R98, R138, R43), its safe point (R168), and the end of an
application (R169). -/

namespace Sys2Proof.Machine

open Wire

/-! ## Changes of protection state -/

/-- Every simulation is cleared (R21, R51). -/
def State.clearSimulations (s : State) : State :=
  { s with
    light := { s.light with channels := s.light.channels.map fun (c : Channel) => { c with simulated := false } }
    current := { s.current with points := s.current.points.map fun (p : Point) => { p with simulated := false } } }

/-- A change of protection state (R153): STATE_CHANGE, state since, the test deadline of TEST alone (R158); leaving
TEST clears simulations and withdraws DRY orders (R159); every used zone is evaluated (R97). -/
def State.changeState (s : State) (new : Protection) : State :=
  let old := s.control.state
  let s := { s with control :=
    { s.control with
      state := new
      since := s.partTime
      testDeadline := if new = Protection.test then some (s.clock + Config.testSpan) else none } }
  let s := s.post .stateChange old.code new.code
  let s := if old = Protection.test then s.clearSimulations.withdrawDry else s
  s.evaluateAll

/-! ## The settings unit's records -/

/-- The active set changed. -/
def State.mapActive (s : State) (f : Settings → Settings) : State :=
  { s with settings := { s.settings with active := f s.settings.active } }

/-- The pending set changed. -/
def State.mapPending (s : State) (f : Settings → Settings) : State :=
  { s with settings := { s.settings with pending := f s.settings.pending } }

/-- The waiting parts changed. -/
def State.mapWaiting (s : State) (f : Waiting → Waiting) : State :=
  { s with settings := { s.settings with waiting := f s.settings.waiting } }

/-- The commit image; the pending set stands in where there is none. -/
def State.image (s : State) : Settings := s.settings.image.getD s.settings.pending

/-! ## The parts' effects -/

/-- A channel record at the application of its group (R22, R40): the captured reference becomes absent (R38). -/
def Channel.applied (c : Channel) (before after : ChannelKind) : Channel :=
  let c := { c with captured := none }
  match before, after with
  | .unused, .unused => c
  | .unused, .loop | .unused, .point =>
    { c with
      detection := .dark, background := 0, gain := 256, health := .good, pickupCount := 0, drops := 0,
      litSince := none, strikeKind := .none, strikeCount := 0, passRun := 0, passes := 0, dimFails := 0,
      brokenFails := 0, skipped := 0, lastReturn := none, lastResult := none, lastBurst := none }
  | .loop, .unused | .point, .unused =>
    { c with
      detection := .unused, pickupCount := 0, drops := 0, litSince := none, simulated := false, burst := none,
      capture := none }
  | .loop, .point => { c with gain := min 512 c.gain }
  | .point, .loop | .loop, .loop | .point, .point => c

/-- The zones of a channel evaluated if its contribution to light changed since `before` (R12, R21); a change of an
exported light is noted by the link (R127). -/
def State.handChannel (before after : State) (n : Index) : State :=
  if before.lightFlag n != after.lightFlag n || before.simulatedLight n != after.simulatedLight n then
    (before.noteContent after).evaluateMember n
  else after

/-- Application of a channel group (R22, R23, R40). -/
def State.applyChannel (s : State) (n : Index) (new : ChannelSettings) : State :=
  let old := s.channelSet n
  let t := s.mapActive fun c => { c with channels := put c.channels n new }
  s.handChannel (t.setChannel n ((t.channel n).applied old.kind new.kind)) n

/-- A point record at the application of its group (R53). R53 gives the quiet count no rule where a changed k_bf applies
in SETUP_FAULT with CP set: the count reached under the old B_c stands and goes on at the new one (DESIGN CHOICE,
notes/assumptions/48.md). -/
def Point.applied (p : Point) (before after : PointSettings) : Point :=
  if before.pickup == after.pickup then p else { p with armed := [false, false, false], lastQualifying := none }

/-- A zone's record with the confirmation set as its clearing set then gives it (R52, R66). -/
def State.reconfirmZone (s : State) (z : Index) : Zone :=
  let q := s.zone z
  let ms := s.confirmationSet q.clearing
  if q.confirmation == ms then q
  else { q with confirmation := ms, setsChangedAt := s.partTime, setChanges := bump q.setChanges }

/-- The confirmation sets derived anew from the clearing sets as they stand, and handed over (R52). -/
def State.reconfirm (s : State) : State := s.handOver { s with zones := (upTo 8).map s.reconfirmZone }

/-- The order of an optional position judged (R52). -/
def State.judgeAttached (s : State) : Option Index → State
  | none => s
  | some p => s.judgeOrder p

/-- Application of a point group (R52, R53). -/
def State.applyPoint (s : State) (m : Index) (new : PointSettings) : State :=
  let old := s.pointSet m
  let t := s.mapActive fun c => { c with points := put c.points m new }
  let t := t.setPoint m ((t.point m).applied old new)
  if old.attached == new.attached then t
  else if t.sched.ordersFirst then ((t.judgeAttached old.attached).judgeAttached new.attached).reconfirm
  else (t.reconfirm.judgeAttached old.attached).judgeAttached new.attached

/-- A position at the application of the topology group (R63): in TRAVEL with a changed discrepancy time that has
already passed it is expired; then it is derived anew. -/
def State.rederive (old : TopologySettings) (s : State) (p : Index) : State :=
  let q := s.position p
  let time := (s.positionSet p).discrepancy
  let passed := q.derived == .travel && time != (item old.positions .factory p).discrepancy &&
    q.travelStart.elim false fun t => t + time * Config.ms < s.clock
  (s.setPosition p { q with expired := q.expired || passed }).derive p

/-- Application of the topology group (R63, R73, R98): positions derived anew, the sets of all zones recomputed once,
every used zone evaluated anew. The positions are taken in ascending order (DESIGN CHOICE, notes/assumptions/24.md). -/
def State.applyTopology (s : State) (new : TopologySettings) : State :=
  let old := s.settings.active.topology
  let t := s.mapActive fun c => { c with topology := new }
  ((upTo 8).foldl (State.rederive old) t).replaceSets.evaluateAll

/-- The controller at the application of a link group (R138). -/
def Link.applied (l : Link) (before after : LinkSettings) (now : Instant) : Link :=
  let on := after.unit != 0
  let started := on && before.unit == 0
  { l with
    tx := if !on then .off else if started then .due else l.tx
    snapshot := if on then l.snapshot else none
    decided := if on then l.decided else none
    driving := if on then l.driving else none
    sendStart := if on then l.sendStart else none
    telegram := none
    started := if started then now else l.started
    recessive := if started then now else l.recessive
    disturbed := if on && !started then l.disturbed else none
    holdOff := if on && !started then l.holdOff else none
    suspended := none
    peers := if on then after.peers.map Peer.fresh else [] }

/-- The units of a new table that were LIVE or LOST in an old one (R138, item 2). -/
def returnedPeers (old new : List Peer) : List Index :=
  (new.filter fun p => old.any fun q => q.unit == p.unit && q.state != .waiting).map fun p => p.unit

/-- Application of the link group (R138). -/
def State.applyLink (s : State) (new : LinkSettings) : State :=
  let old := s.settings.active.link
  let t := s.mapActive fun c => { c with link := new }
  let t := t.mapLink fun l => l.applied old new s.clock
  let t := (returnedPeers s.link.peers t.link.peers).foldl (fun u n => u.post .peerState n PeerState.waiting.code) t
  s.handLinkInputs t

/-- Application of the station group (R168, R43). -/
def State.applyStation (s : State) (new : StationSettings) : State := s.mapActive fun c => { c with station := new }

/-! ## Safe points (R168, R169) -/

/-- In SETUP_FAULT every safe point is taken to hold at once (R169). -/
def State.unguarded (s : State) : Bool := s.control.state == .setupFault

/-- A channel's safe point (R168). No application reaches a channel in capture (R22, R39): a group that still waits when
a capture begins waits for its end (DESIGN CHOICE, notes/assumptions/38.md). -/
def State.channelSafe (s : State) (n : Index) : Bool :=
  (s.channel n).detection != .referencing && (s.unguarded || !(s.channel n).detection.episode)

/-- The flags of a point's safe point. -/
def State.pointQuiet (s : State) (m : Index) : Bool := s.unguarded || (!(s.point m).oc && !(s.point m).cp)

/-- Now is a current sample instant (R168). -/
def State.atCurrentInstant (s : State) : Bool := s.current.last == some s.clock || s.current.next == s.clock

def State.topologySafe (s : State) : Bool :=
  s.unguarded || ((upTo 8).all fun z => (s.zone z).state == .quiet) && s.orders.isEmpty

def State.linkSafe (s : State) : Bool :=
  s.unguarded || !s.linkActive || (s.link.telegram.isNone && s.link.tx != .armed && s.link.tx != .sending)

/-! ## Applying a waiting part -/

/-- A waiting channel group is applied at its safe point. -/
def State.tryChannel (s : State) (n : Index) : State :=
  if s.settings.waiting.channels.contains n && s.channelSafe n then
    (s.mapWaiting fun w => { w with channels := w.channels.filter fun k => k != n }).applyChannel n
      (item s.image.channels .factory n)
  else s

/-- A waiting point group is applied. -/
def State.takePoint (s : State) (m : Index) : State :=
  (s.mapWaiting fun w => { w with points := w.points.filter fun k => k != m }).applyPoint m
    (item s.image.points .factory m)

/-- A waiting point group is applied at a current sample instant with both flags clear. -/
def State.tryPoint (s : State) (m : Index) : State :=
  if s.settings.waiting.points.contains m && s.pointQuiet m && (s.unguarded || s.atCurrentInstant) then s.takePoint m
  else s

/-- The waiting topology group is applied at its safe point. -/
def State.tryTopology (s : State) : State :=
  if s.settings.waiting.topology && s.topologySafe then
    (s.mapWaiting fun w => { w with topology := false }).applyTopology s.image.topology
  else s

/-- The waiting link group is applied at its safe point. -/
def State.tryLink (s : State) : State :=
  if s.settings.waiting.link && s.linkSafe then
    (s.mapWaiting fun w => { w with link := false }).applyLink s.image.link
  else s

/-- The waiting station group is applied (after the COMMIT reply). -/
def State.tryStation (s : State) : State :=
  if s.settings.waiting.station then
    (s.mapWaiting fun w => { w with station := false }).applyStation s.image.station
  else s

/-- The commit image is dropped once nothing waits and its SETTINGS write has begun (R169). -/
def State.dropImage (s : State) : State :=
  if s.applying || s.store.waitSettings then s
  else { s with settings := { s.settings with image := none } }

/-- The last waiting part has been applied (R169, R161): APPLY_DONE; SETUP_FAULT is left for IN_SERVICE. -/
def State.applyDone (s : State) : State :=
  let s := { s with settings := { s.settings with doneOwed := false } }
  let s := (s.post .applyDone 0 s.settings.serial).dropImage
  if s.control.state == .setupFault then s.changeState .inService else s

/-- After a part of an application going on in `before`: APPLY_DONE if nothing waits any more. -/
def State.finishApply (before after : State) : State :=
  if before.applying && !after.applying then after.applyDone else after

/-- The parts whose content in the commit image differs from the active set (R168). -/
def Settings.differing (active image : Settings) : Waiting :=
  { channels := (upTo 16).filter fun n => item active.channels .factory n != item image.channels .factory n
    points := (upTo 4).filter fun m => item active.points .factory m != item image.points .factory m
    topology := active.topology != image.topology
    link := active.link != image.link
    station := active.station != image.station }

/-- Every captured reference that `which` names becomes absent (R38). -/
def State.forgetCaptured (s : State) (which : Index → Bool) : State :=
  ((upTo 16).filter which).foldl (fun t n => t.setChannel n { t.channel n with captured := none }) s

/-- The effects of an accepted COMMIT (R167, R168, R169). -/
def State.acceptCommit (s : State) : State :=
  let w := s.settings.active.differing s.settings.pending
  let s := { s with
    settings := { s.settings with
      image := some s.settings.pending, serial := (s.settings.serial + 1) % 65536, waiting := w }
    store := { s.store with waitSettings := true } }
  let s := s.forgetCaptured fun n => !w.channels.contains n
  let s := (upTo 16).foldl State.tryChannel s
  let s := (upTo 4).foldl State.tryPoint s
  let s := s.tryTopology.tryLink
  if s.applying then s
  else if s.sched.doneAfterReply then { s with settings := { s.settings with doneOwed := true } }
  else s.applyDone

end Sys2Proof.Machine
end

