-- ==== Sys2Proof/Machine/StoreOps.lean ====
section
/-! DEFINITION. The store's operations (R148, R170 to R172): the choice of the next write, its content and duration,
what a finished write leaves, and a write cut off by loss of supply. -/

namespace Sys2Proof.Machine

/-- The duration of a write (R170). -/
def WriteContent.duration : WriteContent → Instant
  | .settings _ => 40 * Config.ms
  | .lockout _ => 5 * Config.ms
  | .record _ _ => 10 * Config.ms

/-- The kind of a write (R170). -/
def WriteContent.kind : WriteContent → WriteKind
  | .settings _ => .settings
  | .lockout _ => .lockout
  | .record _ _ => .record

/-- The record number of a RECORD write, 0 otherwise (R171). -/
def WriteContent.number : WriteContent → Nat
  | .record r _ => r.number
  | .settings _ | .lockout _ => 0

/-- A write begins (R170): it holds the store for its duration. -/
def State.beginWrite (s : State) (c : WriteContent) : State :=
  { s with store := { s.store with busy := some { content := c, ends := s.clock + c.duration } } }

/-- The first waiting RECORD write whose closed record is still held, with that record (R148, R170). -/
def State.recordToWrite (s : State) : Option TripRecord :=
  (s.store.waitRecords.filterMap fun n => s.records.find? fun r => r.number == n && r.state != .opened).head?

/-- The free store begins a waiting write: LOCKOUT first, then the records as first queued, then SETTINGS (R170). -/
def State.chooseWrite (s : State) : State :=
  if s.store.waitLockout then
    { s with store := { s.store with waitLockout := false } }.beginWrite (.lockout s.lockout)
  else
    match s.recordToWrite with
    | some r =>
      { s with store := { s.store with waitRecords := s.store.waitRecords.filter fun n => n != r.number } }.beginWrite
        (.record r s.nextRecord)
    | none =>
      if s.store.waitSettings then
        ({ s with store := { s.store with waitSettings := false } }.beginWrite
          (.settings ⟨s.image, s.settings.serial⟩)).dropImage
      else s

/-- A place among the others in order of opening: before the first place of a record in `later`, otherwise after the
newest (R148). -/
def insertPlace (later : List Nat) (e : StoredRecord) (places : List StoredRecord) : List StoredRecord :=
  (places.takeWhile fun p => !later.contains p.number) ++ e :: places.dropWhile fun p => !later.contains p.number

/-- The write of `r` replaces its own stored copy (R148). -/
def rewrites (places : List StoredRecord) (r : TripRecord) : Bool :=
  r.written && places.any fun p => p.number == r.number

/-- The places that stand when `r` is written for the first time (R143, R148): the stored copy of the record discarded at
its opening is overwritten, and where sixteen are held still, the oldest. A discarded copy goes before an older place
(DESIGN CHOICE, notes/assumptions/41.md). -/
def placesLeft (places : List StoredRecord) (r : TripRecord) : List StoredRecord :=
  let left := places.eraseP fun p => r.replaces == some p.number
  if left.length < 16 then left else left.drop 1

/-- The record places after a write of `r` that left `content` in its place (R148): a record written again keeps its
place; one written for the first time follows the newest stored, over the discarded record's copy (R143) or the oldest of
sixteen. The places stay in order of opening: a record whose first write had left its place unchanged goes before those
in `later`, which opened after it. A place with a bad check counts as held until a reset. DESIGN CHOICE,
notes/assumptions/41.md. -/
def placeRecord (later : List Nat) (places : List StoredRecord) (r : TripRecord) (content : Option TripRecord) :
    List StoredRecord :=
  let e : StoredRecord := { number := r.number, content }
  if rewrites places r then places.map fun p => if p.number == r.number then e else p
  else insertPlace later e (placesLeft places r)

/-- The numbers of the records that follow one of that number in a list (R141). -/
def numbersAfter (number : Nat) (records : List TripRecord) : List Nat :=
  ((records.dropWhile fun r => r.number != number).drop 1).map fun r => r.number

/-- The record places of the store after a write of `r` (R148). A late first write that ends when its record has left the
list finds none of those that opened after it, and goes after the newest (DESIGN CHOICE, notes/assumptions/41.md). -/
def State.placesAfter (s : State) (r : TripRecord) (content : Option TripRecord) : List StoredRecord :=
  placeRecord (numbersAfter r.number s.records) s.store.records r content

/-- The record of a number is marked as having a stored copy. -/
def State.markWritten (s : State) (number : Nat) : State :=
  { s with records := s.records.map fun r => if r.number == number then { r with written := true } else r }

/-- A verified write's content stands in the store (R170). -/
def State.storeGood (s : State) : WriteContent → State
  | .settings i => { s with store := { s.store with image := .good i } }
  | .lockout set => { s with store := { s.store with lockout := .good set } }
  | .record r next =>
    { s with store := { s.store with
        records := s.placesAfter r (some { r with written := true }), nextNumber := some next } }.markWritten
      r.number

/-- The next record number in the store when the write that carried it left a bad check: a free value
(notes/assumptions/9.md). -/
def State.cutNumber (s : State) : State :=
  { s with
    store := { s.store with nextNumber := some (Config.cutRecordNumber s.freeIndex % 65535 + 1) }
    freeIndex := s.freeIndex + 1 }

/-- A write's content is left with a bad check (R171, R172). -/
def State.storeBad (s : State) : WriteContent → State
  | .settings _ => { s with store := { s.store with image := .bad } }
  | .lockout _ => { s with store := { s.store with lockout := .bad } }
  | .record r _ =>
    ({ s with store := { s.store with records := s.placesAfter r none } }.cutNumber).markWritten r.number

/-- A kind in or out of the store's fault set (R171). -/
def Store.setFault (st : Store) (k : WriteKind) (b : Bool) : Store :=
  match k with
  | .settings => { st with faultSettings := b }
  | .lockout => { st with faultLockout := b }
  | .record => { st with faultRecord := b }

/-- The store is free again. -/
def State.freeStore (s : State) : State := { s with store := { s.store with busy := none } }

/-- A write that failed its verify (R171). -/
def State.verifyFailed (s : State) (c : WriteContent) : State :=
  let s := s.post .storeFault c.kind.code c.number
  { s with store := s.store.setFault c.kind true }

/-- The end of a write with its outcome (R171). -/
def State.endWrite (s : State) (c : WriteContent) : WriteOutcome → State
  | .verified => let t := s.freeStore.storeGood c; { t with store := t.store.setFault c.kind false }
  | .corrupted => (s.freeStore.storeBad c).verifyFailed c
  | .unchanged => s.freeStore.verifyFailed c

/-- A write in progress completes, verified (R172). -/
def State.completeBusy (s : State) : State :=
  match s.store.busy with
  | none => s
  | some w => s.freeStore.storeGood w.content

/-- Before a RESTART_TERMINAL or RESTART_REQUEST restart the store completes the write in progress and then a waiting
LOCKOUT write (R172). Taken as verified, notes/assumptions/15.md. -/
def State.completeWrites (s : State) : State :=
  let s := s.completeBusy
  if s.store.waitLockout then s.storeGood (.lockout s.lockout) else s

/-- A write of `r` has a place that holds no stored copy it would overwrite (R143, R148). -/
def freePlace (places : List StoredRecord) (r : TripRecord) : Bool :=
  places.length < 16 && !rewrites places r && !places.any fun p => r.replaces == some p.number

/-- A write cut off by loss of supply (R172): its content is left with a bad check. The stored copy that a record's write
was to overwrite stands (R148): a record whose acknowledgement's write is cut off returns UNREAD, and so does a discarded
one whose replacement was not written (DEDUCED, notes/assumptions/41.md). -/
def State.cutOff (s : State) (c : WriteContent) : State :=
  match c with
  | .record r _ => if freePlace s.store.records r then s.storeBad c else s.cutNumber
  | .settings _ | .lockout _ => s.storeBad c

/-- Loss of supply: the write in progress is cut off, waiting writes are lost (R172). -/
def State.cutWrites (s : State) : State :=
  let s :=
    match s.store.busy with
    | none => s
    | some w => s.freeStore.cutOff w.content
  { s with store := { s.store with waitSettings := false, waitLockout := false, waitRecords := [] } }

end Sys2Proof.Machine
end

