-- ==== Sys2Proof/Machine/Restart.lean ====
section
/-! DEFINITION. The restart that every reset cause brings (R154, R155): the load from the store (R148, R172) and the
values every block takes (R24, R26, R54, R64, R75, R85, R124, R140, R152, R153, R164, R174). -/

namespace Sys2Proof.Machine

open Wire

/-- The stored image is good: present, its check agrees and every item lies within its values (R172). -/
def Store.goodImage (st : Store) : Option Image :=
  match st.image with
  | .good i => if i.settings.ok then some i else none
  | .empty | .bad => none

/-- The stored lockout set, where its check is good (R172). -/
def Store.goodLockout (st : Store) : Option (List Index) :=
  match st.lockout with
  | .good set => some set
  | .empty | .bad => none

/-- The record list rebuilt from the store (R148): stored order, a failed check left out. -/
def Store.reloaded (st : Store) : List TripRecord := st.records.filterMap fun p => p.content

/-- The store after a reset: nothing in progress or waiting, the fault set empty but for a lockout set that did not
load (R171, R172). The record places whose check failed are free, and the others close up (R148). -/
def Store.afterReset (st : Store) : Store :=
  { st with
    records := st.records.filter fun p => p.content.isSome
    busy := none, waitSettings := false, waitLockout := false, waitRecords := [], faultSettings := false,
    faultLockout := st.goodLockout.isNone, faultRecord := false }

/-- The notice queue after a reset (R148, R152). -/
def resetNotices (cause : ResetCause) (unread : Nat) : List Notice :=
  { kind := .restarted, subject := 0, value := cause.code, time := 0 } ::
    if 14 ≤ unread then [{ kind := .recordsNearlyFull, subject := 0, value := unread, time := 0 }] else []

/-- The zones' records with the sets computed at the restart (R75). -/
def State.restartZones (s : State) : State :=
  { s with zones := (upTo 8).map fun z => .fresh (s.clearingSet z) (s.confirmationSet (s.clearingSet z)) }

/-- The active set of a reset: the good image's settings, or the factory defaults (R164). -/
def Store.loadedSettings (st : Store) : Settings := st.goodImage.elim .factory fun i => i.settings

/-- The pending set after a restart: a copy of the active one (R164). An abandoned capture writes nothing to it: the pending
T_ref holds what it held (R39) until that copy is made. Where the schedule has R39's words hold beyond the copy too, the
T_ref of a channel that was in capture survives it (DESIGN CHOICE, notes/assumptions/45.md; not so at State.reset). -/
def State.restartPending (s : State) (active : Settings) : Settings :=
  if s.sched.referenceKept then
    { active with
      channels := (upTo 16).map fun n =>
        let c := item active.channels .factory n
        if (s.channel n).detection == .referencing then
          { c with reference := (item s.settings.pending.channels .factory n).reference }
        else c }
  else active

/-- Every block abandons what it has in progress and takes its values of after a restart (R154). The wiring's raw
states, the store's contents, the waiting commands and the model's own fields are kept. -/
def State.restart (s : State) (cause : ResetCause) : State :=
  let active := s.store.loadedSettings
  let records := s.store.reloaded
  let notices := resetNotices cause (unreadLive records)
  State.judgeContacts <| State.restartZones
    { s with
      clock := 0, partTime := 0, msPhase := 0
      light :=
        { lastSample := none, interval := 0
          channels := (upTo 16).map fun n => .fresh ((item active.channels .factory n).kind != .unused) }
      current := { next := 0, last := none, points := List.replicate 4 .fresh }
      positions := (upTo 8).map fun p =>
        (s.position p).restart (active.topology.usedPosition p) (item active.topology.positions .factory p).wired
      zones := List.replicate 8 (.fresh [] [])
      orders := [], outputs := [], lockout := s.store.goodLockout.getD (upTo 8)
      button := s.button.restart, terminal := s.terminal.restart
      link := .fresh active.link.unit active.link.peers
      records, nextRecord := s.store.nextNumber.getD 1, incidentStart := 0
      notices
      control :=
        { state := .starting, cause, since := 0, testDeadline := none, imageGood := s.store.goodImage.isSome }
      settings :=
        { active, pending := s.restartPending active, image := none, serial := s.store.goodImage.elim 0 fun i => i.serial,
          waiting := .none, doneOwed := false }
      store := s.store.afterReset
      port := .fresh }

/-- A RESTART_TERMINAL or RESTART_REQUEST reset (R154, R172). -/
def State.resetPart (s : State) (cause : ResetCause) : State := s.completeWrites.restart cause

/-- Without supply (R154, R172): every output and contact de-energised, nothing driven, orders, their open record and
the port's work abandoned (notes/assumptions/23.md), the store's write cut off. -/
def State.losePower (s : State) : State :=
  State.judgeContacts
    { s.cutWrites with
      powered := false, orders := [], outputs := []
      records := s.cutWrites.records.filter fun r => r.state != .opened
      current := { s.current with points := s.current.points.map fun (p : Point) => { p with peak := none } }
      link := .fresh 0 []
      port := .fresh }

end Sys2Proof.Machine
end

