-- ==== Sys2Proof/Machine/Operands.lean ====
section
/-! DEFINITION. The bodies of requests: the fields each kind's body holds (R182), the one length they make, the checks
of step 4 of R175 (R181), and the results of R175 with their codes. -/

namespace Sys2Proof.Machine

open Wire

/-- The results (R175). -/
inductive Result where
  | accepted | unknownKind | badLength | badIndex | badValue | wrongState | busy | ordersStanding | recordUnread
  | checkFailed | notExactlyOne | orderPresent | notStalled
  deriving DecidableEq, Repr, Inhabited

/-- A result's byte: its place in the table of R175 (R182). -/
def Result.code : Result → Nat
  | .accepted => 0 | .unknownKind => 1 | .badLength => 2 | .badIndex => 3 | .badValue => 4 | .wrongState => 5
  | .busy => 6 | .ordersStanding => 7 | .recordUnread => 8 | .checkFailed => 9 | .notExactlyOne => 10
  | .orderPresent => 11 | .notStalled => 12

/-- The form of one field of a request body (R181, R182). -/
inductive Field where
  /-- an index byte, 1 to `last` -/
  | index (last : Nat)
  /-- an enumeration or flag byte, 0 to `last` -/
  | choice (last : Nat)
  /-- `bytes` bytes that any value may fill: a number, a part time, a set, an identifier -/
  | plain (bytes : Nat)
  deriving DecidableEq, Repr

/-- The bytes a field takes. -/
def Field.width : Field → Nat
  | .index _ | .choice _ => 1
  | .plain n => n

/-- The one body length that fields make (R182). -/
def bodyLength (fs : List Field) : Nat := (fs.map Field.width).sum

/-- The refusal a field's bytes earn at step 4 (R181). -/
def Field.refusal (f : Field) (byte : Nat) : Option Result :=
  match f with
  | .index last => if 1 ≤ byte && byte ≤ last then none else some .badIndex
  | .choice last => if byte ≤ last then none else some .badValue
  | .plain _ => none

/-- The first refusal of step 4, the fields taken in the order of the body from place `i` (R175, R181). -/
def bodyRefusal (body : List Byte) : Nat → List Field → Option Result
  | _, [] => none
  | i, f :: fs =>
    match f.refusal (at0 body i) with
    | some r => some r
    | none => bodyRefusal body (i + f.width) fs

/-- The fields of each request's body (R182); none for a kind that names no request. -/
def kindFields : Nat → Option (List Field)
  | 1 | 2 | 7 | 8 | 11 | 14 | 15 | 26 => some []
  | 3 | 17 | 18 | 19 => some [.index 16]
  | 4 => some [.index 4]
  | 5 | 6 | 23 => some [.index 8]
  | 9 => some [.choice 1, .plain 2]
  | 10 => some [.plain 2]
  | 12 => some [.plain 3, .choice 1]
  | 13 => some [.plain 3, .plain 2]
  | 16 => some [.choice 4]
  | 20 => some [.index 16, .choice 1]
  | 21 => some [.index 4, .choice 1]
  | 22 | 24 => some [.plain 1]
  | 25 => some [.plain 4]
  | _ => none

/-- What steps 2 to 4 of R175 give for a kind's request in a protection state: the first refusal, none if the owning
block is to judge it. -/
def judgeBody (st : Protection) (kind : Nat) (body : List Byte) : Option Result :=
  match kindFields kind with
  | none => some .unknownKind
  | some fs =>
    if body.length != bodyLength fs then some .badLength
    else if st == .starting && kind != 1 && kind != 2 then some .wrongState
    else bodyRefusal body 0 fs

end Sys2Proof.Machine
end

