-- ==== Sys2Proof/Machine/Replies.lean ====
section
/-! DEFINITION. The bodies of replies (R181, R183): each record's fields in the order of its rule's table. The form of
fields that R181 leaves to reading is in notes/assumptions/18.md. -/

namespace Sys2Proof.Machine

open Wire

/-- One byte: an enumeration, an index, a count, an address (R181, R183). -/
def one (n : Nat) : List Byte := [byte n]

/-- The state of a contact, on before off in its list of values (R55, R181). -/
def onOff (b : Bool) : List Byte := [if b then 0 else 1]

/-- A cause (R181). -/
def Cause.bytes (c : Cause) : List Byte := one c.origin.code ++ one c.index

/-- A set of up to eight members (R181). -/
def set8 (l : List Index) : List Byte := one (bitmap 8 l)

/-- The channel record (R3) and the supervision record (R26) of READ_CHANNEL. The burst position is that of a supervision
burst: during a capture it is absent (DESIGN CHOICE, notes/assumptions/50.md). -/
def State.channelBody (s : State) (n : Index) : List Byte :=
  let c := s.channel n
  let k := s.channelSet n
  let θ := s.threshold n
  one k.kind.code ++ two k.pickup ++ two k.margin ++ two k.qualify ++ two k.reference ++ two c.gain ++
    one c.health.code ++ two c.background ++ two θ ++ two (dropLevel θ) ++ one c.detection.code ++
    two c.pickupCount ++ two c.drops ++ optional 4 four c.litSince ++ two c.lastValue ++
    flag c.detection.lightFlag ++ flag c.simulated ++
  (two c.gain ++ one c.health.code ++ one c.strikeKind.code ++ two c.strikeCount ++ two c.passRun ++
    optional 2 two c.lastReturn ++ optional 1 (fun r => one r.code) c.lastResult ++ optional 4 four c.lastBurst ++
    optional 4 four c.slotMark ++ optional 2 two (c.burst.map fun b => max 1 b.pulses) ++ two c.passes ++
    two c.dimFails ++ two c.brokenFails ++ two c.skipped ++ optional 2 two c.captured)

/-- The point record (R42) of READ_POINT. -/
def State.pointBody (s : State) (m : Index) : List Byte :=
  let p := s.point m
  let k := s.pointSet m
  one (optCode k.attached) ++ two k.pickup ++ two k.pickupLevel ++ two k.present ++ two k.presentLevel ++ two k.hold ++
    one (optCode k.exported) ++ p.magnitudes.flatMap two ++ p.armed.flatMap flag ++
    optional 2 two (p.lastQualifying.map s.elapsed) ++ flag p.oc ++ flag p.cp ++ two p.quiet ++ flag p.simulated ++
    optional 2 two p.peak ++ two p.pickups

/-- The position record (R55) and the lockout (R121) of READ_POSITION. Of two points attached while a commit is being
applied, the one of the lowest number is reported (DESIGN CHOICE, notes/assumptions/19.md). -/
def State.positionBody (s : State) (p : Index) : List Byte :=
  let q := s.position p
  let k := s.positionSet p
  flag k.wired ++ two k.discrepancy ++ onOff q.cl.raw ++ onOff q.op.raw ++ onOff q.cl.taken ++ onOff q.op.taken ++
    one q.derived.code ++ four q.changedAt ++ optional 2 two (q.travelStart.map s.elapsed) ++
    one (optCode (s.attachedPoints p).head?) ++ flag (s.cleared p) ++ flag (s.unsupervised p) ++ two q.changes ++
    flag (s.lockout.contains p)

/-- The zone record (R85), the topology record (R66) and the remote clearing list of READ_ZONE. -/
def State.zoneBody (s : State) (z : Index) : List Byte :=
  let q := s.zone z
  one q.state.code ++ optional 1 (fun a => one a.code) q.attr ++ flag q.realLight ++ flag q.dryLight ++
    flag q.realCurrent ++ flag q.dryCurrent ++ flag q.unavailable ++ one q.condition.code ++
    optional 1 (fun r => one r.code) q.alertReason ++ flag q.alertMark ++ flag q.remoteHeld ++
    flag (s.exportedLight z) ++ four q.since ++ two q.trips ++
  (set8 q.clearing ++ one (bitmap 4 q.confirmation) ++ four q.setsChangedAt ++ two q.setChanges) ++
  (s.zoneSet z).remoteList.flatMap fun e => two (remoteCode e)

/-- An order (R101) of READ_ORDERS. -/
def State.orderBody (s : State) (o : Order) : List Byte :=
  one o.position ++ one o.attr.code ++ one o.stage.code ++ listOf Cause.bytes o.causes ++ two o.further ++
    flag o.testOnly ++ two (s.elapsed o.startedAt) ++
    optional 2 two (if o.stage == .driving then some (s.remaining o.deadline) else none) ++ flag o.supervised ++
    optional 1 flag o.escalated ++ flag o.remoteHeld

/-- The order list of READ_ORDERS (R100, R181). -/
def State.ordersBody (s : State) : List Byte := listOf s.orderBody s.orders

/-- The last sent content of READ_PEERS (R181). -/
def Content.bytes (c : Content) : List Byte :=
  one c.unit ++ one c.state.code ++ set8 c.zones ++ set8 c.currents ++
    (upTo 4).flatMap fun u => set8 (c.requestsTo u)

/-- Eight flags, in ascending order (R134, R181). -/
def eightFlags (l : List Index) : List Byte := (upTo 8).flatMap fun i => flag (l.contains i)

/-- A peer record (R134) of READ_PEERS. -/
def State.peerBody (s : State) (p : Peer) : List Byte :=
  one p.unit ++ one p.state.code ++ optional 1 (fun r => one r.code) p.reported ++ eightFlags p.light ++
    eightFlags p.current ++ eightFlags p.requests ++ optional 2 two (p.lastHeard.map s.elapsed) ++
    optional 2 two (p.silence.map s.remaining)

/-- The items of R139 for READ_PEERS. -/
def State.peersBody (s : State) : List Byte :=
  let l := s.link
  one s.settings.active.link.unit ++ one l.tx.code ++ two (l.suspended.elim 0 s.remaining) ++
    optional 2 two (l.lastStart.map s.elapsed) ++ optional 8 Content.bytes l.lastSent ++
    two l.counters.checkFailures ++ two l.counters.framingErrors ++ two l.counters.arbitrationLosses ++
    two l.counters.voidedStarts ++ two l.counters.strangers ++ two l.counters.duplicates ++ listOf s.peerBody l.peers

/-- An entry of a trip record (R183). -/
def Entry.bytes (e : Entry) : List Byte :=
  one e.position ++ e.cause.bytes ++ flag e.live ++ one e.stage.code ++ two e.created ++ optional 2 two e.confirmed ++
    optional 2 two e.released

/-- A trip record (R183). -/
def TripRecord.bytes (r : TripRecord) : List Byte :=
  two r.number ++ one r.kind.code ++ one r.state.code ++ four r.openedAt ++ r.cause.bytes ++ two (bitmap 16 r.light) ++
    set8 r.zones ++ optional 8 (fun l => l.flatMap two) r.peaks ++ flag r.olderLost ++ two r.lost ++
    listOf Entry.bytes r.entries

/-- A notice entry (R183). -/
def Notice.bytes (n : Notice) : List Byte := one n.kind.code ++ two n.subject ++ two n.value ++ four n.time

/-- IDENTIFY (R177, R183): the characters LT816 and what follows. -/
def State.identifyBody (s : State) : List Byte :=
  [76, 84, 56, 49, 54] ++ one s.settings.active.station.address ++ one s.settings.active.link.unit ++
    one s.control.state.code ++ one s.control.cause.code ++ two s.settings.serial

/-- STATUS (R177, R180, R183). -/
def State.statusBody (s : State) : List Byte :=
  let c := s.port.counters
  one s.control.state.code ++ one s.control.cause.code ++ two s.settings.serial ++ one s.settings.waiting.count ++
    one s.notices.length ++ one (unreadLive s.records) ++ one s.orders.length ++ set8 s.lockout ++ two c.framing ++
    two c.checks ++ two c.foreign ++ two c.overruns ++ two c.broadcasts ++ two c.handled ++ one s.summary

end Sys2Proof.Machine
end

