-- ==== Sys2Proof/Machine/Port.lean ====
section
/-! DEFINITION. The station port's operations (R173 to R175, R178, R180): a complete frame taken, an addressed request
handled and answered, a broadcast, and the reply on the line. -/

namespace Sys2Proof.Machine

open Wire

/-- The port changed. -/
def State.mapPort (s : State) (f : Port → Port) : State := { s with port := f s.port }

/-- A port counter changed (R180). -/
def State.countPort (s : State) (f : PortCounters → PortCounters) : State :=
  s.mapPort fun p => { p with counters := f p.counters }

/-- A complete frame taken in ANSWERING is discarded and counted (R174). -/
def State.overrun (s : State) : State := s.countPort fun c => { c with overruns := bump c.overruns }

/-- A frame for another address, or another unit's reply (R173). -/
def State.foreign (s : State) : State := s.countPort fun c => { c with foreign := bump c.foreign }

/-- A broadcast that is ignored (R174). -/
def State.ignoreBroadcast (s : State) : State := s.countPort fun c => { c with broadcasts := bump c.broadcasts }

/-- A frame discarded while being read (R173). -/
def State.discardFrame (s : State) : State :=
  (s.countPort fun c => { c with framing := bump c.framing }).mapPort fun p => { p with receiver := .hunting }

/-- A request counts as handled (R180). -/
def State.countHandled (s : State) : State := s.countPort fun c => { c with handled := bump c.handled }

/-- What the owning block makes of a request: the state after it, the result, and the reply's body after the result. -/
structure Handled where
  state : State
  result : Result
  body : List Byte

/-- A refusal that changes nothing (R175). -/
def refuse (s : State) (r : Result) : Handled := { state := s, result := r, body := [] }

/-- A request carried out, with the reply's body after the result. -/
def accept (s : State) (body : List Byte) : Handled := { state := s, result := .accepted, body }

/-- The test deadline after a handled request (R158). -/
def State.moveDeadline (s : State) : State :=
  { s with control :=
    { s.control with testDeadline := s.control.testDeadline.map fun _ => s.clock + Config.testSpan } }

/-- Handling begins (R174, R158, R180): ANSWERING, counted, the test deadline moved. -/
def State.beginHandling (s : State) : State :=
  (s.countHandled.moveDeadline).mapPort fun p =>
    { p with answering := true, transmitting := false, handledAt := s.clock }

/-- The reply is composed at handling (R174): own address, the request kind with the reply flag, result first. -/
def Handled.compose (h : Handled) (kind : Nat) : State :=
  h.state.mapPort fun p =>
    { p with reply := frame h.state.settings.active.station.address (kind + 128) (byte h.result.code :: h.body) }

/-- What the port makes of an addressed request of a kind handled in `s`: the refusals of R175, then the owning
block's own judgement. -/
def State.judgeRequest (s : State) (kind : Nat) (body : List Byte) (act : State → Handled) : Handled :=
  match judgeBody s.control.state kind body with
  | some r => refuse s r
  | none => act s

/-- The port reads nothing while it transmits, and a frame on the line then is lost without count (R173); R179's overrun
discards are those between handling and the reply's first byte (DESIGN CHOICE, notes/assumptions/44.md). ANSWERING
discards the frame (R174); READY handles it. -/
def State.takeFrame (s : State) (handle : State → State) : State :=
  if s.port.transmitting then s else if s.port.answering then s.overrun else handle s

/-- An addressed request (R174, R175). -/
def State.request (s : State) (kind : Nat) (body : List Byte) (act : State → Handled) : State :=
  s.takeFrame fun t => (t.beginHandling.judgeRequest kind body act).compose kind

/-- Part time takes a value and counts on from it (R178); its place within the millisecond is a free value
(notes/assumptions/8.md). -/
def State.setPartTime (s : State) (v : Nat) : State :=
  { s with
    partTime := v % Config.partTimeModulus
    msPhase := Config.timeSetPhase s.freeIndex % Config.ms
    freeIndex := s.freeIndex + 1 }

/-- A TIME_SET broadcast taken in READY (R174, R178). -/
def State.broadcastTime (s : State) (body : List Byte) : State :=
  if s.control.state == .starting then s.ignoreBroadcast
  else if body.length != 4 then
    let t := { s with freeIndex := s.freeIndex + 1 }
    if Config.wrongLengthBroadcastCounted s.freeIndex then t.ignoreBroadcast else t
  else s.setPartTime (at4 body 0)

/-- The reply begins, no sooner than 0.5 ms after the request (R174). -/
def State.beginReply (s : State) : State :=
  let t := s.advanceTo (s.port.handledAt + Config.replyDelay)
  t.mapPort fun p => { p with transmitting := true, replyStart := t.clock }

/-- The time `n` characters take on the line: ten bit times each at 115200 baud (R173), rounded up to whole ticks. -/
def lineTime (n : Nat) : Instant := (n * Config.threeChars + 2) / 3

/-- The last byte of the reply has gone (R174): READY. -/
def State.endReply (s : State) : State :=
  let s := if s.port.transmitting then s else s.beginReply
  (s.advanceTo (s.port.replyStart + lineTime s.port.reply.length)).mapPort fun p =>
    { p with answering := false, transmitting := false, reply := [] }

end Sys2Proof.Machine
end

