-- ==== Sys2Proof/Machine/Power.lean ====
section
/-! DEFINITION. Power, reset and state control: POWER_ON, POWER_LOSS, the restart terminal, STARTING_END, TEST_TIMEOUT
(R154 to R159, R172). -/

namespace Sys2Proof.Machine

open Wire

/-- POWER_ON (R154): the supply returns and the part resets. With the supply present nothing returns
(notes/assumptions/22.md). -/
def execPowerOn (s : State) : Host.Outcome State Fault Refusal :=
  if s.powered then conclude s id else .next ({ s with powered := true }.restart .powerOn)

/-- POWER_LOSS (R154, R172). -/
def execPowerLoss (s : State) : Host.Outcome State Fault Refusal :=
  if s.powered then .next s.losePower else .next s

/-- RESTART_TERMINAL_CHANGE (R154): a change starts or stops the debounce; without supply only the wiring changes. -/
def execRestartTerminalChange (closed : Bool) (s : State) : Host.Outcome State Fault Refusal :=
  if s.powered then conclude s fun s => { s with terminal := s.terminal.change s.clock closed }
  else .next { s with terminal := { s.terminal with raw := closed } }

/-- A button's debounce is due to take it as closed (`closed`) or as open (R123, R154): the instant, where it is. -/
def Button.due (b : Button) (closed : Bool) : Option Instant :=
  if b.raw == closed && b.taken != closed then b.timer else none

/-- RESTART_TERMINAL_PRESS (R154): closed for 4 ms and last taken as open, in every protection state. -/
def execRestartTerminalPress (s : State) : Host.Outcome State Fault Refusal :=
  conclude s fun s =>
    match s.terminal.due true with
    | none => s
    | some t => (s.advanceTo t).resetPart .restartTerminal

/-- RESTART_TERMINAL_RELEASE (R154): open for 4 ms, so that a further press can be taken. -/
def execRestartTerminalRelease (s : State) : Host.Outcome State Fault Refusal :=
  conclude s fun s =>
    match s.terminal.due false with
    | none => s
    | some t => { s.advanceTo t with terminal := s.terminal.take }

/-- STARTING_END (R155, R156): the sets are recomputed, and the loaded image decides the state. -/
def execStartingEnd (s : State) : Host.Outcome State Fault Refusal :=
  conclude s fun s =>
    if s.control.state != .starting then s
    else
      ((s.advanceTo Config.starting).recompute).changeState
        (if s.control.imageGood then .inService else .setupFault)

/-- TEST_TIMEOUT (R158, R159): TEST_TIMEOUT first, then the change of state. -/
def execTestTimeout (s : State) : Host.Outcome State Fault Refusal :=
  conclude s fun s =>
    match s.control.state, s.control.testDeadline with
    | .test, some d => ((s.advanceTo d).post .testTimeout 0 0).changeState .inService
    | _, _ => s

end Sys2Proof.Machine
end

