-- ==== Sys2Proof/Machine/Light.lean ====
section
/-! DEFINITION. The light front end: LIGHT_SAMPLE and BACKGROUND_UPDATE (R4 to R15). -/

namespace Sys2Proof.Machine

open Wire

/-- A burst's or a capture's step is owed at the last sample instant: a burst's result, the next capture burst's start,
or the capture's end (R29, R37). -/
def Channel.owes (c : Channel) : Bool :=
  (c.burst.elim false fun b => b.pulses == 4) ||
    c.capture.elim false fun k =>
      k.samples == Config.captureLength || (1 ≤ k.begun && k.begun < 16 && k.samples == 100 * k.begun)

/-- A step of the light front end is owed before the next sample instant (notes/assumptions/12.md). -/
def State.lightOwes (s : State) : Bool :=
  s.light.interval == Config.intervalLength || (upTo 16).any fun n => s.usedChannel n && (s.channel n).owes

/-- The next light sample instant (R4): every 100 µs from the restart. -/
def State.nextLight (s : State) : Instant :=
  max (s.light.lastSample.elim 0 fun t => t + Config.lightInterval) (ceilTo Config.lightInterval s.clock)

/-- A running capture with a sample (R37): the first four instants of each capture burst give its pulses; the mean is
taken at the fourth. Capture burst 1 begins at the first sample taken after the request, be it of the instant of the
request itself (DESIGN CHOICE, notes/assumptions/43.md). -/
def Capture.take (k : Capture) (raw : Nat) : Capture :=
  let k := { k with begun := max 1 k.begun, samples := k.samples + 1 }
  if k.pulses < 4 then
    { k with
      pulses := k.pulses + 1
      sum := k.sum + raw
      means := if k.pulses == 3 then k.means + (k.sum + raw) / 4 else k.means }
  else k

/-- The interval's tally with an evaluated sample (R14): its number, its L_c, and whether it touched light. -/
def Channel.tally (c : Channel) (threshold l : Nat) : Channel :=
  { c with
    evaluated := c.evaluated + 1
    evaluatedSum := c.evaluatedSum + l
    touchedLight := c.touchedLight || c.detection.episode || threshold ≤ l }

/-- Entry into LIT (R9). -/
def Channel.enterLit (c : Channel) (now : PartTime) : Channel :=
  { c with detection := .lit, pickupCount := 0, drops := 0, litSince := some now }

/-- At least 2000 ms of part time past lit since, modulo 2^32 (R11). -/
def Channel.longLit (c : Channel) (now : PartTime) : Bool :=
  c.litSince.elim false fun t => Config.steadyMs ≤ (now + Config.partTimeModulus - t) % Config.partTimeModulus

/-- Qualification of an evaluated sample (R8 to R11) against a threshold and a qualification count. -/
def Channel.qualify (c : Channel) (threshold count l : Nat) (now : PartTime) : Channel :=
  match c.detection with
  | .dark =>
    if threshold ≤ l then
      if count ≤ 1 then c.enterLit now else { c with detection := .pickup, pickupCount := 1 }
    else { c with pickupCount := 0 }
  | .pickup =>
    if threshold ≤ l then
      if count ≤ c.pickupCount + 1 then c.enterLit now else { c with pickupCount := c.pickupCount + 1 }
    else { c with detection := .dark, pickupCount := 0 }
  | .lit | .steady =>
    let drops := if l < dropLevel threshold then c.drops + 1 else 0
    if Config.dropCount ≤ drops then { c with detection := .dark, pickupCount := 0, drops := 0, litSince := none }
    else if c.detection == .lit && c.longLit now then { c with detection := .steady, drops }
    else { c with drops }
  | .unused | .out | .referencing | .suspended => c

/-- STEADY_LIGHT at the entry into STEADY (R11). -/
def State.noteSteady (before after : State) (n l : Nat) : State :=
  if (before.channel n).detection != .steady && (after.channel n).detection == .steady then
    after.post .steadyLight n l
  else after

/-- A sample of a used channel outside bursts and captures (R4, R5, R8 to R12, R14). -/
def State.sampleOpen (s : State) (n : Index) (raw : Nat) : State :=
  let c := s.channel n
  let l := compensate raw c.gain
  let c := { c with lastValue := l }
  if !c.detection.evaluated then s.setChannel n c
  else
    let θ := s.threshold n
    let t := s.setChannel n ((c.tally θ l).qualify θ (s.channelSet n).qualify l s.partTime)
    s.handChannel (s.noteSteady t n l) n

/-- One channel's sample (R4, R29, R37): to its capture, to its running burst, or to detection. -/
def State.sampleChannel (s : State) (n : Index) (raw : Nat) : State :=
  if !s.usedChannel n then s
  else
    let c := s.channel n
    match c.capture, c.burst with
    | some k, _ => s.setChannel n { c with capture := some (k.take raw) }
    | none, some b => s.setChannel n { c with burst := some { pulses := b.pulses + 1, sum := b.sum + raw } }
    | none, none => s.sampleOpen n raw

/-- One sample instant of the sixteen channels (R4). -/
def State.sampleAll (s : State) (raw : List Nat) : State :=
  (inOrder s.sched.channels 16).foldl (fun t n => t.sampleChannel n (min 4095 (item raw 0 n))) s

/-- LIGHT_SAMPLE (R4): the next sample instant comes with its sixteen raw readings. -/
def execLightSample (raw : List Nat) (s : State) : Host.Outcome State Fault Refusal :=
  conclude s fun s =>
    if s.lightOwes then s
    else
      let t := s.nextLight
      let s := s.advanceTo t
      { s with light := { s.light with lastSample := some t, interval := s.light.interval + 1 } }.sampleAll raw

/-- The step of B towards M (R15). -/
def backgroundStep (b m : Nat) : Nat :=
  if b < m then b + max 1 ((m - b) / 16) else if m < b then b - max 1 ((b - m) / 16) else b

/-- The conditions of R14 for an update. -/
def Channel.updates (c : Channel) : Bool :=
  c.detection == .dark && !c.touchedLight && Config.leastEvaluated ≤ c.evaluated

/-- A channel at the end of an interval (R14, R15). -/
def Channel.endInterval (c : Channel) (used : Bool) : Channel :=
  { c with
    background := if used && c.updates then backgroundStep c.background (c.evaluatedSum / c.evaluated) else c.background
    evaluated := 0, evaluatedSum := 0, touchedLight := false }

/-- BACKGROUND_UPDATE (R14, R15): the interval of 100 sample instants has ended. -/
def execBackgroundUpdate (s : State) : Host.Outcome State Fault Refusal :=
  conclude s fun s =>
    if s.light.interval != Config.intervalLength then s
    else
      { s with light :=
        { s.light with
          interval := 0
          channels := (upTo 16).map fun n => (s.channel n).endInterval (s.usedChannel n) } }

end Sys2Proof.Machine
end

