-- ==== Sys2Proof/Machine/Supervision.lean ====
section
/-! DEFINITION. The supervision scheduler: SUPERVISION_SLOT, BURST_END, CAPTURE_BURST_START and CAPTURE_END (R26 to
R38). -/

namespace Sys2Proof.Machine

open Wire

/-- A channel's slot offset as the first whole millisecond reached (R27): (n − 1) × 62.5 ms rounded up. -/
def slotOffset (n : Index) : Nat := ((n - 1) * 125 + 1) / 2

/-- The slot of a channel comes at this instant (R27). -/
def State.slotComes (s : State) (n : Index) : Bool :=
  s.usedChannel n && slotOffset n ≤ s.partTime % 1000 && (s.channel n).slotMark != some (s.partTime / 1000)

/-- The milliseconds of part time's present second: the last one before the wrap is short. -/
def secondLength (second : Nat) : Nat := min 1000 (Config.partTimeModulus - second * 1000)

/-- Milliseconds of part time until a channel's slot can come (R27). -/
def State.slotWait (s : State) (n : Index) : Nat :=
  let second := s.partTime / 1000
  let here := s.partTime % 1000
  if (s.channel n).slotMark != some second && slotOffset n < secondLength second then slotOffset n - here
  else secondLength second - here + slotOffset n

/-- The state at the first sample instant at which the channel's slot can come (R4, R27). -/
def State.toSlot (s : State) (n : Index) : State :=
  let s := s.advanceTo s.nextLight
  if s.slotComes n then s
  else s.advanceTo (ceilTo Config.lightInterval (s.clock + (s.slotWait n * Config.ms - s.msPhase)))

/-- The scheduler's action at a slot (R28): a running burst or a capture lets it pass. -/
def Channel.takeSlot (c : Channel) (second : Nat) : Channel :=
  let c := { c with slotMark := some second }
  match c.detection with
  | .dark | .out | .suspended => if c.burst.isNone then { c with burst := some { pulses := 0, sum := 0 } } else c
  | .pickup | .lit | .steady => { c with skipped := bump c.skipped }
  | .referencing | .unused => c

/-- SUPERVISION_SLOT (R27, R28). -/
def execSupervisionSlot (n : Index) (s : State) : Host.Outcome State Fault Refusal :=
  conclude s fun s =>
    if s.lightOwes then s
    else
      let t := s.toSlot n
      if t.slotComes n then t.setChannel n ((t.channel n).takeSlot (t.partTime / 1000)) else s

/-- The class of a return (R31). -/
def classify (kind : ChannelKind) (reference ret : Nat) : BurstResult :=
  let factor := match kind with
    | .point => 2
    | .loop | .unused => 4
  if ret < 16 then .failBroken else if factor * ret < reference then .failDim else .pass

/-- The gain a return sets (R32). -/
def gainOf (kind : ChannelKind) (reference ret : Nat) : Nat := max 256 (min kind.ceiling (256 * reference / ret))

/-- Strike kind, strike count and pass run after a classified burst (R33). -/
def Channel.strike (c : Channel) : BurstResult → Channel
  | .pass => { c with strikeKind := .none, strikeCount := 0, passRun := min 3 (c.passRun + 1) }
  | .failDim =>
    { c with
      strikeKind := .dim, strikeCount := if c.strikeKind == .dim then min 3 (c.strikeCount + 1) else 1, passRun := 0 }
  | .failBroken =>
    { c with
      strikeKind := .broken, strikeCount := if c.strikeKind == .broken then min 3 (c.strikeCount + 1) else 1,
      passRun := 0 }

/-- The health judged from a burst's fields (R34). -/
def Channel.judgedHealth (c : Channel) : Health :=
  if c.strikeCount == 3 && c.strikeKind == .dim then .dim
  else if c.strikeCount == 3 && c.strikeKind == .broken then .broken
  else if c.passRun == 3 then .good
  else c.health

/-- The counter of a class increased (R31). -/
def Channel.countResult (c : Channel) : BurstResult → Channel
  | .pass => { c with passes := bump c.passes }
  | .failDim => { c with dimFails := bump c.dimFails }
  | .failBroken => { c with brokenFails := bump c.brokenFails }

/-- A burst's end before the judgement of health (R31 to R33). -/
def Channel.endBurst (c : Channel) (k : ChannelSettings) (sum : Nat) (now : PartTime) : Channel :=
  let ret := sum / 4
  let r := classify k.kind k.reference ret
  let c := (c.countResult r).strike r
  { c with
    burst := none, lastReturn := some ret, lastResult := some r, lastBurst := some now
    gain := if r == .failBroken then c.gain else gainOf k.kind k.reference ret }

/-- A channel whose health takes a value (R16, R34). -/
def Channel.takeHealth (c : Channel) (h : Health) : Channel :=
  { c with
    health := h
    detection :=
      if h == .broken && c.detection == .dark then .suspended
      else if h != .broken && c.detection == .suspended then .dark
      else c.detection
    pickupCount := if h == .broken && c.detection == .dark then 0 else c.pickupCount
    drops := if h == .broken && c.detection == .dark then 0 else c.drops }

/-- The health judged, with the effects of a change (R34, R16, R12). -/
def State.judgeHealth (s : State) (n : Index) : State :=
  let c := s.channel n
  let h := c.judgedHealth
  if h == c.health then s
  else s.handChannel ((s.setChannel n (c.takeHealth h)).post .channelHealth n h.code) n

/-- BURST_END (R31 to R35): the fourth return has been taken. -/
def execBurstEnd (n : Index) (s : State) : Host.Outcome State Fault Refusal :=
  conclude s fun s =>
    match (s.channel n).burst with
    | none => s
    | some b =>
      if b.pulses != 4 then s
      else (s.setChannel n ((s.channel n).endBurst (s.channelSet n) b.sum s.partTime)).judgeHealth n

/-- CAPTURE_BURST_START (R37): capture burst k begins 100 sample instants after capture burst k − 1; the first begins
with the first sample of the capture. -/
def execCaptureBurstStart (n : Index) (s : State) : Host.Outcome State Fault Refusal :=
  conclude s fun s =>
    match (s.channel n).capture with
    | none => s
    | some k =>
      if 1 ≤ k.begun && k.begun < 16 && k.samples == 100 * k.begun then
        (s.advanceTo s.nextLight).setChannel n
          { s.channel n with capture := some { k with begun := k.begun + 1, pulses := 0, sum := 0 } }
      else s

/-- The candidate judged (R38). -/
def State.judgeCandidate (s : State) (n candidate : Nat) : State :=
  if 256 ≤ candidate && candidate ≤ 4000 then
    ((s.mapPending fun c => c.set 1 n 5 candidate).setChannel n
      { s.channel n with captured := some candidate }).post .referenceDone n candidate
  else s.post .referenceFailed n candidate

/-- CAPTURE_END (R37, R38, R19): 1600 sample instants after capture burst 1 began; the channel returns to OUT. -/
def execCaptureEnd (n : Index) (s : State) : Host.Outcome State Fault Refusal :=
  conclude s fun s =>
    match (s.channel n).capture with
    | none => s
    | some k =>
      if k.samples != Config.captureLength then s
      else
        let t := (s.advanceTo s.nextLight).judgeCandidate n (saturate (k.means / 16))
        t.setChannel n { t.channel n with capture := none, detection := .out }

end Sys2Proof.Machine
end

