-- ==== Sys2Proof/Machine/Current.lean ====
section
/-! DEFINITION. The current front end: CURRENT_SAMPLE, OC_HOLD_EXPIRY and CP_CLEAR (R43 to R50). -/

namespace Sys2Proof.Machine

open Wire

/-- The interval between current sample instants in force (R43). -/
def State.currentInterval (s : State) : Instant := s.settings.active.station.frequency.interval

/-- The next current sample instant (R43): as set, or, when that has passed, the next of its series. -/
def State.nextCurrent (s : State) : Instant :=
  if s.clock ≤ s.current.next then s.current.next
  else s.current.next + ceilTo s.currentInterval (s.clock - s.current.next)

/-- A phase picks up (R46). -/
def picksUp (level : Nat) (armed : Bool) (m : Nat) : Bool := armed && level ≤ m

/-- The hold of a set OC has run at `now` (R47): the episode's hold time has elapsed since the last qualifying instant.
With no such instant, after a changed k applied in SETUP_FAULT with OC set (R53), the hold is taken as run (DESIGN
CHOICE, notes/assumptions/39.md). -/
def Point.holdElapsed (p : Point) (now : Instant) : Bool :=
  p.lastQualifying.elim true fun t => t + p.episodeHold * Config.ms ≤ now

/-- A point's record after its three samples at `now` (R44, R46, R47, R49, R50). The hold time in force when OC sets
governs the episode (R53), and the hold is judged at this sample, at the P in force. -/
def Point.sample (p : Point) (k : PointSettings) (ms : List Nat) (now : Instant) : Point :=
  let level := k.pickupLevel
  let pickup := (p.armed.zip ms).any fun x => picksUp level x.1 x.2
  let present := ms.any fun m => k.presentLevel ≤ m
  { p with
    magnitudes := ms
    armed := ms.map fun m => level ≤ m
    lastQualifying := if ms.any fun m => level ≤ m then some now else p.lastQualifying
    oc := p.oc || pickup
    pickups := if pickup && !p.oc then bump p.pickups else p.pickups
    cp := p.cp || present
    quiet := if present then 0 else if p.cp then min Config.quietCount (p.quiet + 1) else p.quiet
    peak := p.peak.map fun k => ms.foldl max k
    episodeHold := if pickup && !p.oc then k.hold else p.episodeHold
    holdOver := p.oc && (ms.all fun m => m < level) && p.holdElapsed now }

/-- The last current sample instant found a set OC with its hold run (R47). -/
def State.holdRun (s : State) (m : Index) : Bool := (s.point m).oc && (s.point m).holdOver

/-- The quiet count has reached 32 (R49). -/
def State.quietRun (s : State) (m : Index) : Bool := (s.point m).cp && (s.point m).quiet == Config.quietCount

/-- A clearing is owed at the last current sample instant (notes/assumptions/12.md). -/
def State.currentOwes (s : State) : Bool := (upTo 4).any fun m => s.holdRun m || s.quietRun m

/-- A change of OC reaches the zones and a change of CP the order unit (R48, R49, R62). -/
def State.handPoint (before after : State) (m : Index) : State :=
  let t := if (before.point m).cp != (after.point m).cp then after.judgeAttached (before.pointSet m).attached else after
  if (before.point m).oc != (after.point m).oc then t.evaluatePoint m else t

/-- The three samples of a point. -/
def phases (samples : List Int) (m : Index) : List Nat :=
  (upTo 3).map fun ph => magnitude (item samples 0 (3 * (m - 1) + ph))

/-- CURRENT_SAMPLE (R43, R44): the three phases of all four points together. -/
def execCurrentSample (samples : List Int) (s : State) : Host.Outcome State Fault Refusal :=
  conclude s fun s =>
    if s.currentOwes then s
    else
      let now := s.nextCurrent
      let before := s.advanceTo now
      let t := { before with current :=
        { next := now + s.currentInterval, last := some now
          points := (upTo 4).map fun m => (s.point m).sample (s.pointSet m) (phases samples m) now } }
      (inOrder s.sched.points 4).foldl before.handPoint t

/-- OC_HOLD_EXPIRY (R47, R48). -/
def execOcHoldExpiry (m : Index) (s : State) : Host.Outcome State Fault Refusal :=
  conclude s fun s =>
    if s.holdRun m then s.handPoint (s.setPoint m { s.point m with oc := false, holdOver := false }) m else s

/-- CP_CLEAR (R49, R62, R107). -/
def execCpClear (m : Index) (s : State) : Host.Outcome State Fault Refusal :=
  conclude s fun s =>
    if s.quietRun m then s.handPoint (s.setPoint m { s.point m with cp := false, quiet := 0 }) m else s

end Sys2Proof.Machine
end

