-- ==== Sys2Proof/Machine/Contacts.lean ====
section
/-! DEFINITION. Position inputs: CONTACT_RAW_CHANGE, DEBOUNCE_EXPIRY, DISCREPANCY_EXPIRY (R56 to R60). -/

namespace Sys2Proof.Machine

/-- CONTACT_RAW_CHANGE (R56); without supply only the wiring changes. -/
def execContactRawChange (p : Index) (c : Contact) (on : Bool) (s : State) : Host.Outcome State Fault Refusal :=
  if s.powered then
    conclude s fun s => s.setPosition p ((s.position p).setContact c (((s.position p).contact c).change s.clock on))
  else .next (s.setPosition p ((s.position p).setContact c { (s.position p).contact c with raw := on }))

/-- DEBOUNCE_EXPIRY (R56, R57): the taken state takes the raw state, and the position is derived anew. -/
def execDebounceExpiry (p : Index) (c : Contact) (s : State) : Host.Outcome State Fault Refusal :=
  conclude s fun s =>
    match ((s.position p).contact c).timer with
    | none => s
    | some t =>
      ((s.advanceTo t).setPosition p ((s.position p).setContact c ((s.position p).contact c).take)).derivePosition p

/-- The instant at which a position's discrepancy timer expires (R58, R63). -/
def State.discrepancyDue (s : State) (p : Index) : Option Instant :=
  if (s.position p).derived == .travel then
    (s.position p).travelStart.map fun t => t + (s.positionSet p).discrepancy * Config.ms
  else none

/-- DISCREPANCY_EXPIRY (R58, R59): the position becomes INVALID. -/
def execDiscrepancyExpiry (p : Index) (s : State) : Host.Outcome State Fault Refusal :=
  conclude s fun s =>
    match s.discrepancyDue p with
    | none => s
    | some t => ((s.advanceTo t).setPosition p { s.position p with expired := true }).derivePosition p

end Sys2Proof.Machine
end

