-- ==== Sys2Proof/Machine/OrderTimers.lean ====
section
/-! DEFINITION. The order unit's timers and the lockout-reset pushbutton: MIN_PULSE_EXPIRY, BF_DEADLINE,
DRIVE_TIMEOUT, LOCKOUT_BUTTON_CHANGE, LOCKOUT_RESET_PRESS, LOCKOUT_BUTTON_RELEASE (R108, R110, R113, R115, R123). -/

namespace Sys2Proof.Machine

open Wire

/-- MIN_PULSE_EXPIRY (R108): a CONFIRMED order is released; an unsupervised one in DRIVING or FAILED is confirmed and
released. A supervised order not yet confirmed goes on. -/
def execMinPulseExpiry (p : Index) (s : State) : Host.Outcome State Fault Refusal :=
  conclude s fun s =>
    match s.orderAt p with
    | none => s
    | some o =>
      let due := s.pulseEnd p o.startedAt
      if o.stage == .confirmed then (s.advanceTo due).release p
      else if !o.supervised && (o.stage == .driving || o.stage == .failed) then (s.advanceTo due).confirm o
      else s

/-- The deadline is void for an unsupervised order whose minimum pulse ends before it (R113). -/
def State.deadlineVoid (s : State) (o : Order) : Bool :=
  !o.supervised && s.pulseEnd o.position o.startedAt < o.deadline

/-- BF_DEADLINE (R110 to R114): a DRIVING order fails and escalates. -/
def execBfDeadline (p : Index) (s : State) : Host.Outcome State Fault Refusal :=
  conclude s fun s =>
    match s.orderAt p with
    | none => s
    | some o =>
      if o.stage == .driving && !s.deadlineVoid o then ((s.advanceTo o.deadline).failOrder o).judgeOrder p else s

/-- DRIVE_TIMEOUT (R115): a FAILED order stalls 2000 ms after its start. -/
def execDriveTimeout (p : Index) (s : State) : Host.Outcome State Fault Refusal :=
  conclude s fun s =>
    match s.orderAt p with
    | none => s
    | some o => if o.stage == .failed then (s.advanceTo (o.startedAt + Config.driveSpan)).stallOrder o else s

/-- LOCKOUT_BUTTON_CHANGE (R123); without supply only the wiring changes. -/
def execLockoutButtonChange (closed : Bool) (s : State) : Host.Outcome State Fault Refusal :=
  if s.powered then conclude s fun s => { s with button := s.button.change s.clock closed }
  else .next { s with button := { s.button with raw := closed } }

/-- The positions that hold no order. -/
def State.freePositions (s : State) : List Index := (upTo 8).filter fun p => (s.orderAt p).isNone

/-- LOCKOUT_RESET_PRESS (R123): clears the lockout of every position that holds no order; disregarded in STARTING. -/
def execLockoutResetPress (s : State) : Host.Outcome State Fault Refusal :=
  conclude s fun s =>
    match s.button.due true with
    | none => s
    | some t =>
      let s := { s.advanceTo t with button := s.button.take }
      if s.control.state == .starting then s else s.clearLockouts s.freePositions

/-- LOCKOUT_BUTTON_RELEASE (R123): taken as open, so that a further press can be taken. -/
def execLockoutButtonRelease (s : State) : Host.Outcome State Fault Refusal :=
  conclude s fun s =>
    match s.button.due false with
    | none => s
    | some t => { s.advanceTo t with button := s.button.take }

end Sys2Proof.Machine
end

