-- ==== Sys2Proof/Machine/LinkEvents.lean ====
section
/-! DEFINITION. The cross link's events (R125 to R136): sending, reception, duplicates, a peer's silence. -/

namespace Sys2Proof.Machine

/-- HEARTBEAT_DUE (R127): 5 ms after the last completed telegram's start, or after the link started. -/
def execHeartbeatDue (s : State) : Host.Outcome State Fault Refusal :=
  conclude s fun s =>
    if s.link.tx == .idle then
      (s.advanceTo (s.link.heartbeatBase + Config.heartbeat)).mapLink fun l => { l with tx := .due }
    else s

/-- The instant before which a DUE transmitter does not decide (R128, R130). -/
def Link.decideFrom (l : Link) : Instant :=
  max (l.lastStart.elim 0 fun t => t + Config.spacing) (l.holdOff.elim 0 fun t => t + Config.idleBits)

/-- SEND_DECIDE (R128): the present outgoing content becomes the snapshot. -/
def execSendDecide (s : State) : Host.Outcome State Fault Refusal :=
  conclude s fun s =>
    if s.link.tx == .due && s.link.suspended.isNone && s.link.telegram.isNone then
      let t := s.advanceTo s.link.decideFrom
      t.mapLink fun l =>
        { l with tx := .armed, snapshot := some s.content, decided := some t.clock, holdOff := none }
    else s

/-- TELEGRAM_START (R128): the start bit is driven at the beginning of the next bit time, after eight recessive ones at
the soonest; the bit times are those of notes/assumptions/49.md. -/
def execTelegramStart (s : State) : Host.Outcome State Fault Refusal :=
  conclude s fun s =>
    match s.link.tx, s.link.snapshot, s.link.telegram with
    | .armed, some c, none =>
      let start := s.link.startFrom s.clock
      (s.advanceTo start).mapLink fun l => l.startSending c start
    | _, _, _ => s

/-- Another unit's start bit can be taken (R132): the link is active, no telegram is in progress. -/
def State.startBitTaken (s : State) : Bool := s.linkActive && s.link.telegram.isNone && s.link.tx != .sending

/-- ATTEMPT_VOIDED (R129): an ARMED unit sees a start bit before it has driven its own. In the bit time of its own start
bit none is voided. -/
def execAttemptVoided (s : State) : Host.Outcome State Fault Refusal :=
  conclude s fun s =>
    if s.startBitTaken && s.link.tx == .armed && s.toStartBit.ownStart.isNone then s.startBit else s

/-- START_BIT_SEEN (R132): another unit's telegram is in progress, this unit's with it where both start together (R129). -/
def execStartBitSeen (s : State) : Host.Outcome State Fault Refusal :=
  conclude s fun s => if s.startBitTaken then s.startBit else s

/-- ARBITRATION_LOST (R130): the unit stops driving and takes the rest of the telegram as a receiver. -/
def execArbitrationLost (s : State) : Host.Outcome State Fault Refusal :=
  conclude s fun s =>
    if s.link.tx == .sending then
      (s.mapLink Link.backToDue).countLink fun c => { c with arbitrationLosses := bump c.arbitrationLosses }
    else s

/-- BIT_ERROR (R130): on the start bit, which was read recessive, no telegram has begun and the count of recessive bit
times goes on (R132); otherwise the telegram stays in progress. -/
def execBitError (onStartBit : Bool) (s : State) : Host.Outcome State Fault Refusal :=
  conclude s fun s =>
    if s.link.tx == .sending then
      let s := (s.mapLink Link.backToDue).countLink fun c => { c with framingErrors := bump c.framingErrors }
      if onStartBit then s.mapLink fun l => { l with telegram := none, holdOff := some s.clock } else s
    else s

/-- TELEGRAM_COMPLETED (R131): every bit read back as driven. -/
def execTelegramCompleted (s : State) : Host.Outcome State Fault Refusal :=
  conclude s fun s =>
    match s.link.tx, s.link.sendStart, s.link.snapshot with
    | .sending, some start, some c =>
      let s := s.advanceTo (start + Config.telegramTime)
      s.mapLink fun l =>
        { l.idleFrom s.clock with
          tx := if s.content == c then .idle else .due
          snapshot := none, decided := none, driving := none, sendStart := none, lastSent := some c, lastStart := some start }
    | _, _, _ => s

/-- TELEGRAM_RECEIVED (R132 to R137): the telegram in progress has been read to its end. -/
def execTelegramReceived (bits : List Bit) (s : State) : Host.Outcome State Fault Refusal :=
  conclude s fun s =>
    match s.link.telegram with
    | none => s
    | some start =>
      if s.link.tx == .sending then s
      else
        let s := s.advanceTo (start + Config.telegramTime)
        (s.mapLink fun l => l.idleFrom s.clock).judgeTelegram bits

/-- The instant before which no new run of dominant bits can begin: one recessive bit after the last run (R132). -/
def Link.disturbFrom (l : Link) : Instant := l.disturbed.elim 0 fun t => t + Config.bitTime

/-- LINE_DISTURBANCE (R132): a run of `bits` dominant bits begins before eight recessive bit times have passed. It is
counted once, and the count of recessive bit times begins again at its end. -/
def execLineDisturbance (s : State) (bits : Nat := 1) : Host.Outcome State Fault Refusal :=
  conclude s fun s =>
    let t := s.advanceTo s.link.disturbFrom
    if s.linkActive && s.link.telegram.isNone && t.clock < s.link.recessive + Config.idleBits then
      let until_ := t.clock + bits * Config.bitTime
      (t.mapLink fun l => { l with recessive := until_, disturbed := some until_ }).countLink fun c =>
        { c with framingErrors := bump c.framingErrors }
    else s

/-- PEER_SILENCE_EXPIRY (R135, R136): a LIVE peer becomes LOST. -/
def execPeerSilenceExpiry (u : Index) (s : State) : Host.Outcome State Fault Refusal :=
  conclude s fun s =>
    match (s.peer u).bind fun p => if p.state == .live then p.silence else none with
    | none => s
    | some due =>
      let t := s.advanceTo due
      s.handLinkInputs ((t.mapPeer u Peer.lose).post .peerState u PeerState.lost.code)

/-- SUSPENSION_END (R133). -/
def execSuspensionEnd (s : State) : Host.Outcome State Fault Refusal :=
  conclude s fun s =>
    match s.link.suspended with
    | none => s
    | some t => (s.advanceTo t).mapLink fun l => { l with suspended := none }

/-- DUPLICATE_ALARM_EXPIRY (R133, R163): 1000 ms have passed since the last duplicate seen. -/
def execDuplicateAlarmExpiry (s : State) : Host.Outcome State Fault Refusal :=
  conclude s fun s =>
    match s.link.duplicateAlarm, s.link.lastDuplicate with
    | true, some t => (s.advanceTo (t + Config.duplicateSpan)).mapLink fun l => { l with duplicateAlarm := false }
    | _, _ => s

end Sys2Proof.Machine
end

