-- ==== Sys2Proof/Machine/GroupApply.lean ====
section
/-! DEFINITION. The staged application's events: a waiting part reaches its safe point (R168, R169). -/

namespace Sys2Proof.Machine

/-- CHANNEL_GROUP_APPLY (R168, R22, R23, R40). -/
def execChannelGroupApply (n : Index) (s : State) : Host.Outcome State Fault Refusal :=
  conclude s fun s => s.finishApply (s.tryChannel n)

/-- The state at a current sample instant: this one, or the next (R168). -/
def State.toCurrentInstant (s : State) : State := if s.atCurrentInstant then s else s.advanceTo s.nextCurrent

/-- POINT_GROUP_APPLY (R168, R52, R53): at a current sample instant; in SETUP_FAULT at once (R53, R169). -/
def execPointGroupApply (m : Index) (s : State) : Host.Outcome State Fault Refusal :=
  conclude s fun s =>
    if s.settings.waiting.points.contains m && s.pointQuiet m then
      s.finishApply ((if s.unguarded then s else s.toCurrentInstant).takePoint m)
    else s

/-- TOPOLOGY_GROUP_APPLY (R168, R63, R73, R98). -/
def execTopologyGroupApply (s : State) : Host.Outcome State Fault Refusal :=
  conclude s fun s => s.finishApply s.tryTopology

/-- LINK_GROUP_APPLY (R168, R138). -/
def execLinkGroupApply (s : State) : Host.Outcome State Fault Refusal :=
  conclude s fun s => s.finishApply s.tryLink

/-- STORE_WRITE_BEGIN (R170): the free store begins the waiting write that comes first. -/
def execStoreWriteBegin (s : State) : Host.Outcome State Fault Refusal :=
  conclude s fun s => if s.store.busy.isSome then s else s.chooseWrite

/-- STORE_WRITE_END (R170, R171): the write's time has run and its read-back is judged. -/
def execStoreWriteEnd (outcome : WriteOutcome) (s : State) : Host.Outcome State Fault Refusal :=
  conclude s fun s =>
    match s.store.busy with
    | none => s
    | some w => (s.advanceTo w.ends).endWrite w.content outcome

end Sys2Proof.Machine
end

