-- ==== Sys2Proof/Machine/Frames.lean ====
section
/-! DEFINITION. The station port's events: discarded frames, foreign frames, overruns, broadcasts, unknown kinds, and
the reply on the line (R173, R174, R179, R180). -/

namespace Sys2Proof.Machine

/-- A frame of which these characters have come is being read (R173). -/
def State.beingRead (s : State) (read : List Byte) : Bool := s.port.receiver.after read != .hunting

/-- FRAME_GAP_TIMEOUT (R173): more than three character times inside a frame; while hunting nothing is counted. -/
def execFrameGapTimeout (s : State) (read : List Byte := [195]) : Host.Outcome State Fault Refusal :=
  conclude s fun s => if !s.port.transmitting && s.beingRead read then s.discardFrame else s

/-- The occasion of a framing discard (R173): a stop-bit error in a frame being read, or a length field above 200. -/
def State.framingFails (s : State) (cause : FramingCause) (read : List Byte) : Bool :=
  match cause with
  | .stopBit => s.beingRead read
  | .length => s.port.receiver.overLong read

/-- FRAMING_DISCARD (R173); both causes count alike, and while hunting nothing is counted. -/
def execFramingDiscard (cause : FramingCause) (s : State) (read : List Byte := [195]) : Host.Outcome State Fault Refusal :=
  conclude s fun s => if !s.port.transmitting && s.framingFails cause read then s.discardFrame else s

/-- FRAME_CHECK_FAILURE (R173). -/
def execFrameCheckFailure (s : State) : Host.Outcome State Fault Refusal :=
  conclude s fun s =>
    if s.port.transmitting then s else s.countPort fun c => { c with checks := bump c.checks }

/-- FOREIGN_FRAME (R173): a reply of another unit in any case, a request to another address in READY; in ANSWERING a
request is an overrun discard whatever its address (R174). A request to this unit or to all is none. -/
def execForeignFrame (address kind : Byte) (s : State) : Host.Outcome State Fault Refusal :=
  conclude s fun s =>
    if s.port.transmitting then s
    else if 128 ≤ kind.toNat then s.foreign
    else if s.port.answering then s.overrun
    else if address.toNat != 0 && address.toNat != s.settings.active.station.address then s.foreign
    else s

/-- OVERRUN_DISCARD (R174). -/
def execOverrunDiscard (s : State) : Host.Outcome State Fault Refusal :=
  conclude s fun s => if !s.port.transmitting && s.port.answering then s.overrun else s

/-- IGNORED_BROADCAST (R174): any broadcast kind but TIME_SET, and a TIME_SET during STARTING. -/
def execIgnoredBroadcast (kind : Byte) (s : State) : Host.Outcome State Fault Refusal :=
  conclude s fun s =>
    s.takeFrame fun t => if kind.toNat != 25 || t.control.state == .starting then t.ignoreBroadcast else t

/-- UNKNOWN_KIND (R175): an addressed frame whose kind names no request; a kind that names one is another command. -/
def execUnknownKind (kind : Byte) (s : State) : Host.Outcome State Fault Refusal :=
  conclude s fun s =>
    if 128 ≤ kind.toNat || (kindFields kind.toNat).isSome then s
    else s.request kind.toNat [] fun t => refuse t .unknownKind

/-- REPLY_START (R174). -/
def execReplyStart (s : State) : Host.Outcome State Fault Refusal :=
  conclude s fun s => if s.port.answering && !s.port.transmitting then s.beginReply else s

/-- What follows the last byte of a reply: the RESTART reset (R179), the station group (R168), APPLY_DONE (R169). -/
def State.afterReply (s : State) (restart : Bool) : State :=
  if restart then s.resetPart .restartRequest
  else
    let t := s.finishApply s.tryStation
    if t.settings.doneOwed then t.applyDone else t

/-- REPLY_SENT (R174, R179, R168): the last byte of the reply has gone. -/
def execReplySent (s : State) : Host.Outcome State Fault Refusal :=
  conclude s fun s => if s.port.answering then s.endReply.afterReply s.port.restartAfter else s

end Sys2Proof.Machine
end

