-- ==== Sys2Proof/Machine/Reads.lean ====
section
/-! DEFINITION. The read requests, notices and acknowledgement: IDENTIFY, STATUS, READ_CHANNEL, READ_POINT,
READ_POSITION, READ_ZONE, READ_ORDERS, READ_PEERS, READ_RECORD, ACK_RECORD, FETCH_NOTICES (R146, R147, R151, R176,
R177). Each command is an addressed request with its body. -/

namespace Sys2Proof.Machine

open Wire

/-- IDENTIFY (R177). -/
def execIdentify (body : List Byte) (s : State) : Host.Outcome State Fault Refusal :=
  conclude s fun s => s.request 1 body fun t => accept t t.identifyBody

/-- The STATUS reply's body: whether the request counts itself is the schedule's (notes/assumptions/17.md). -/
def State.statusReply (before t : State) : List Byte :=
  if t.sched.statusCountsItself then t.statusBody
  else (t.countPort fun c => { c with handled := before.port.counters.handled }).statusBody

/-- STATUS (R177). -/
def execStatus (body : List Byte) (s : State) : Host.Outcome State Fault Refusal :=
  conclude s fun s => s.request 2 body fun t => accept t (s.statusReply t)

/-- READ_CHANNEL (R3, R26). -/
def execReadChannel (body : List Byte) (s : State) : Host.Outcome State Fault Refusal :=
  conclude s fun s => s.request 3 body fun t => accept t (t.channelBody (at0 body 0))

/-- READ_POINT (R42). -/
def execReadPoint (body : List Byte) (s : State) : Host.Outcome State Fault Refusal :=
  conclude s fun s => s.request 4 body fun t => accept t (t.pointBody (at0 body 0))

/-- READ_POSITION (R55, R121). -/
def execReadPosition (body : List Byte) (s : State) : Host.Outcome State Fault Refusal :=
  conclude s fun s => s.request 5 body fun t => accept t (t.positionBody (at0 body 0))

/-- READ_ZONE (R66, R85). -/
def execReadZone (body : List Byte) (s : State) : Host.Outcome State Fault Refusal :=
  conclude s fun s => s.request 6 body fun t => accept t (t.zoneBody (at0 body 0))

/-- READ_ORDERS (R100, R101). -/
def execReadOrders (body : List Byte) (s : State) : Host.Outcome State Fault Refusal :=
  conclude s fun s => s.request 7 body fun t => accept t t.ordersBody

/-- READ_PEERS (R139). -/
def execReadPeers (body : List Byte) (s : State) : Host.Outcome State Fault Refusal :=
  conclude s fun s => s.request 8 body fun t => accept t t.peersBody

/-- The record a READ_RECORD selects (R146): the oldest unread, or by number. -/
def State.selectRecord (s : State) (selector number : Nat) : Option TripRecord :=
  if selector == 1 then s.records.find? fun r => r.state == .unread
  else if number == 0 then none
  else s.records.find? fun r => r.number == number

/-- READ_RECORD's judgement (R146). -/
def State.readRecord (s : State) (body : List Byte) : Handled :=
  match s.selectRecord (at0 body 0) (at2 body 1) with
  | none => refuse s .badIndex
  | some r => accept s r.bytes

/-- READ_RECORD (R146). -/
def execReadRecord (body : List Byte) (s : State) : Host.Outcome State Fault Refusal :=
  conclude s fun s => s.request 9 body fun t => t.readRecord body

/-- The record of a number becomes READ; a LIVE one is written again (R147). -/
def State.markRead (s : State) (r : TripRecord) : State :=
  let t := { s with
    records := s.records.map fun q =>
      if q.number == r.number && q.state == .unread then { q with state := .read } else q }
  if r.kind == .live then t.queueRecord r.number else t

/-- ACK_RECORD's judgement (R147). -/
def State.ackRecord (s : State) (number : Nat) : Handled :=
  match if number == 0 then none else s.records.find? fun r => r.number == number with
  | none => refuse s .badIndex
  | some r =>
    match r.state with
    | .opened => refuse s .wrongState
    | .unread => accept (s.markRead r) []
    | .read => accept s []

/-- ACK_RECORD (R147). -/
def execAckRecord (body : List Byte) (s : State) : Host.Outcome State Fault Refusal :=
  conclude s fun s => s.request 10 body fun t => t.ackRecord (at2 body 0)

/-- FETCH_NOTICES's effect (R151): up to eight of the oldest leave the queue. -/
def State.fetchNotices (s : State) : Handled :=
  accept { s with notices := s.notices.drop 8 }
    (one (s.notices.drop 8).length ++ listOf Notice.bytes (s.notices.take 8))

/-- FETCH_NOTICES (R151). -/
def execFetchNotices (body : List Byte) (s : State) : Host.Outcome State Fault Refusal :=
  conclude s fun s => s.request 11 body State.fetchNotices

end Sys2Proof.Machine
end

