-- ==== Sys2Proof/Machine/Requests.lean ====
section
/-! DEFINITION. The requests that act: settings (R166, R167), protection state (R157), channels (R17, R18, R20, R36),
simulation (R51), orders and lockout (R116, R118, R122), TIME_SET and RESTART (R178, R179). -/

namespace Sys2Proof.Machine

open Wire

/-- READ_SETTING's judgement (R166). -/
def State.readSetting (s : State) (body : List Byte) : Handled :=
  let g := at0 body 0
  let i := at0 body 1
  let k := at0 body 2
  match itemForm g i k with
  | none => refuse s .badIndex
  | some _ =>
    let c := if at0 body 3 == 0 then s.settings.active else s.settings.pending
    accept s (two (c.get g i k))

/-- READ_SETTING (R166). -/
def execReadSetting (body : List Byte) (s : State) : Host.Outcome State Fault Refusal :=
  conclude s fun s => s.request 12 body fun t => t.readSetting body

/-- WRITE_SETTING's judgement (R166, R183, R185). -/
def State.writeSetting (s : State) (body : List Byte) : Handled :=
  let g := at0 body 0
  let i := at0 body 1
  let k := at0 body 2
  let v := at2 body 3
  match itemForm g i k with
  | none => refuse s .badIndex
  | some f =>
    match f.stored v with
    | none => refuse s .badValue
    | some w => accept (s.mapPending fun c => c.set g i k w) (two w ++ flag (f.clamped v))

/-- WRITE_SETTING (R166). -/
def execWriteSetting (body : List Byte) (s : State) : Host.Outcome State Fault Refusal :=
  conclude s fun s => s.request 13 body fun t => t.writeSetting body

/-- COMMIT's judgement (R167): the first refusal that applies, else acceptance with the new serial number. -/
def State.commit (s : State) : Handled :=
  if s.control.state == .starting then refuse s .wrongState
  else if s.applying || s.capturing then refuse s .busy
  else if !s.orders.isEmpty then refuse s .ordersStanding
  else if 0 < unreadLive s.records then refuse s .recordUnread
  else
    match s.settings.pending.firstFailure with
    | some f => { state := s, result := .checkFailed, body := one f.1 ++ one f.2 }
    | none => accept s.acceptCommit (two ((s.settings.serial + 1) % 65536))

/-- COMMIT (R167 to R169). -/
def execCommit (body : List Byte) (s : State) : Host.Outcome State Fault Refusal :=
  conclude s fun s => s.request 14 body State.commit

/-- DISCARD's judgement (R166). -/
def State.discardPending (s : State) : Handled :=
  if s.applying then refuse s .busy
  else accept ((s.mapPending fun _ => s.settings.active).forgetCaptured fun _ => true) []

/-- DISCARD (R166). -/
def execDiscard (body : List Byte) (s : State) : Host.Outcome State Fault Refusal :=
  conclude s fun s => s.request 15 body State.discardPending

/-- The new state, with the reply's body (R157, R183). -/
def State.enterState (s : State) (p : Protection) : Handled := accept (s.changeState p) (one p.code)

/-- Every order stands since this very instant, created by a zone (R160). -/
def State.justTripped (s : State) : Bool :=
  s.orders.all fun o => o.startedAt == s.clock && o.causes.head?.elim false fun c => c.origin == .zone

/-- The order list as a SET_STATE for OUT_OF_SERVICE finds it (R157, R160): empty, or, where the request is taken as
handled before the trips of its own instant, with those trips' orders alone. -/
def State.mayLeaveService (s : State) : Bool := s.orders.isEmpty || (s.sched.tripsAfterRequest && s.justTripped)

/-- SET_STATE's judgement by the present state and the target's code (R157). -/
def State.setProtection (s : State) (target : Nat) : Handled :=
  match s.control.state, target with
  | .inService, 2 => s.enterState .test
  | .inService, 3 => if s.mayLeaveService then s.enterState .outOfService else refuse s .ordersStanding
  | .test, 1 => s.enterState .inService
  | .outOfService, 1 => s.enterState .inService
  | _, _ => refuse s .wrongState

/-- SET_STATE (R157 to R160). -/
def execSetState (body : List Byte) (s : State) : Host.Outcome State Fault Refusal :=
  conclude s fun s => s.request 16 body fun t => t.setProtection (at0 body 0)

/-- A channel record at the entry into OUT (R17). -/
def Channel.takeOut (c : Channel) : Channel :=
  { c with detection := .out, simulated := false, pickupCount := 0, drops := 0, litSince := none }

/-- CHANNEL_OUT's judgement (R17). -/
def State.channelOut (s : State) (n : Index) : Handled :=
  match (s.channel n).detection with
  | .unused => refuse s .badIndex
  | .referencing => refuse s .busy
  | .out => accept s []
  | .suspended | .dark | .pickup | .lit | .steady =>
    accept (s.handChannel (s.setChannel n (s.channel n).takeOut) n) []

/-- CHANNEL_OUT (R17). -/
def execChannelOut (body : List Byte) (s : State) : Host.Outcome State Fault Refusal :=
  conclude s fun s => s.request 17 body fun t => t.channelOut (at0 body 0)

/-- A channel record brought back into service (R18, R35). -/
def Channel.bringIn (c : Channel) : Channel :=
  { c with
    detection := if c.health == .broken then .suspended else .dark
    pickupCount := 0, drops := 0, passes := 0, dimFails := 0, brokenFails := 0, skipped := 0 }

/-- CHANNEL_IN's judgement (R18). -/
def State.channelIn (s : State) (n : Index) : Handled :=
  match (s.channel n).detection with
  | .unused => refuse s .badIndex
  | .referencing => refuse s .busy
  | .out => accept (s.handChannel (s.setChannel n (s.channel n).bringIn) n) []
  | .suspended | .dark | .pickup | .lit | .steady => refuse s .wrongState

/-- CHANNEL_IN (R18). -/
def execChannelIn (body : List Byte) (s : State) : Host.Outcome State Fault Refusal :=
  conclude s fun s => s.request 18 body fun t => t.channelIn (at0 body 0)

/-- CAPTURE_REFERENCE's judgement (R36, R19). -/
def State.captureReference (s : State) (n : Index) : Handled :=
  let c := s.channel n
  match c.detection with
  | .unused => refuse s .badIndex
  | .referencing => refuse s .busy
  | .suspended | .dark | .pickup | .lit | .steady => refuse s .wrongState
  | .out =>
    if c.burst.isSome then refuse s .busy
    else
      accept (s.setChannel n
        { c with
          detection := .referencing, capture := some { begun := 0, samples := 0, pulses := 0, sum := 0, means := 0 } }) []

/-- CAPTURE_REFERENCE (R36). -/
def execCaptureReference (body : List Byte) (s : State) : Host.Outcome State Fault Refusal :=
  conclude s fun s => s.request 19 body fun t => t.captureReference (at0 body 0)

/-- SIMULATE_LIGHT's judgement (R20). -/
def State.simulateLight (s : State) (n : Index) (on : Bool) : Handled :=
  if s.control.state != .test then refuse s .wrongState
  else
    match (s.channel n).detection with
    | .unused => refuse s .badIndex
    | .out => refuse s .wrongState
    | .referencing => refuse s .busy
    | .suspended | .dark | .pickup | .lit | .steady =>
      accept (s.handChannel (s.setChannel n { s.channel n with simulated := on }) n) []

/-- SIMULATE_LIGHT (R20). -/
def execSimulateLight (body : List Byte) (s : State) : Host.Outcome State Fault Refusal :=
  conclude s fun s => s.request 20 body fun t => t.simulateLight (at0 body 0) (at0 body 1 == 1)

/-- SIMULATE_CURRENT's judgement (R51): a change reaches the zones as a change of OC does. -/
def State.simulateCurrent (s : State) (m : Index) (on : Bool) : Handled :=
  if s.control.state != .test then refuse s .wrongState
  else
    let t := s.setPoint m { s.point m with simulated := on }
    accept (if (s.point m).simulated == on then t else t.evaluatePoint m) []

/-- SIMULATE_CURRENT (R51). -/
def execSimulateCurrent (body : List Byte) (s : State) : Host.Outcome State Fault Refusal :=
  conclude s fun s => s.request 21 body fun t => t.simulateCurrent (at0 body 0) (at0 body 1 == 1)

/-- TEST_TRIP's judgement (R118). -/
def State.testTrip (s : State) (set : List Index) : Handled :=
  if s.control.state != .test then refuse s .wrongState
  else
    match set with
    | [p] =>
      if !s.usedPosition p then refuse s .badIndex
      else if (s.orderAt p).isSome then refuse s .orderPresent
      else accept (s.requestOrder p ⟨.test, 0⟩ .live) []
    | _ => refuse s .notExactlyOne

/-- TEST_TRIP (R118). -/
def execTestTrip (body : List Byte) (s : State) : Host.Outcome State Fault Refusal :=
  conclude s fun s => s.request 22 body fun t => t.testTrip (membersOf 8 (at0 body 0))

/-- CANCEL_ORDER's judgement (R116): the entry keeps STALLED. -/
def State.cancelOrder (s : State) (p : Index) : Handled :=
  match s.orderAt p with
  | none => refuse s .notStalled
  | some o =>
    if o.stage == .stalled then accept (s.depart p fun t => t.recordRelease p) [] else refuse s .notStalled

/-- CANCEL_ORDER (R116). -/
def execCancelOrder (body : List Byte) (s : State) : Host.Outcome State Fault Refusal :=
  conclude s fun s => s.request 23 body fun t => t.cancelOrder (at0 body 0)

/-- RESET_LOCKOUT's effect (R122): the named positions without an order are cleared, the others refused. -/
def State.resetLockout (s : State) (set : List Index) : Handled :=
  let refused := set.filter fun p => (s.orderAt p).isSome
  let t := s.clearLockouts (set.filter fun p => (s.orderAt p).isNone)
  { state := t
    result := if refused.isEmpty then .accepted else .orderPresent
    body := set8 refused ++ set8 t.lockout }

/-- RESET_LOCKOUT (R122). -/
def execResetLockout (body : List Byte) (s : State) : Host.Outcome State Fault Refusal :=
  conclude s fun s => s.request 24 body fun t => t.resetLockout (membersOf 8 (at0 body 0))

/-- TIME_SET (R178): addressed and answered, or broadcast and not. -/
def execTimeSet (broadcast : Bool) (body : List Byte) (s : State) : Host.Outcome State Fault Refusal :=
  conclude s fun s =>
    if broadcast then s.takeFrame fun t => t.broadcastTime body
    else s.request 25 body fun t => accept (t.setPartTime (at4 body 0)) []

/-- RESTART (R179): answered, and the reset follows the reply's last byte. -/
def execRestart (body : List Byte) (s : State) : Host.Outcome State Fault Refusal :=
  conclude s fun s => s.request 26 body fun t => accept (t.mapPort fun p => { p with restartAfter := true }) []

end Sys2Proof.Machine
end

