-- ==== Sys2Proof/Machine/Dispatch.lean ====
section
/-! DEFINITION. One arm for each command: its meaning, in the file of its family. -/

namespace Sys2Proof.Machine

def exec (i : Instr) (s : State) : Host.Outcome State Fault Refusal :=
  match i with
  | .powerOn => Sys2Proof.Machine.execPowerOn s
  | .powerLoss => Sys2Proof.Machine.execPowerLoss s
  | .restartTerminalChange closed => Sys2Proof.Machine.execRestartTerminalChange closed s
  | .restartTerminalPress => Sys2Proof.Machine.execRestartTerminalPress s
  | .startingEnd => Sys2Proof.Machine.execStartingEnd s
  | .testTimeout => Sys2Proof.Machine.execTestTimeout s
  | .lightSample raw => Sys2Proof.Machine.execLightSample raw s
  | .backgroundUpdate => Sys2Proof.Machine.execBackgroundUpdate s
  | .supervisionSlot channel => Sys2Proof.Machine.execSupervisionSlot channel s
  | .burstEnd channel => Sys2Proof.Machine.execBurstEnd channel s
  | .captureBurstStart channel => Sys2Proof.Machine.execCaptureBurstStart channel s
  | .captureEnd channel => Sys2Proof.Machine.execCaptureEnd channel s
  | .currentSample samples => Sys2Proof.Machine.execCurrentSample samples s
  | .ocHoldExpiry point => Sys2Proof.Machine.execOcHoldExpiry point s
  | .cpClear point => Sys2Proof.Machine.execCpClear point s
  | .contactRawChange position contact on => Sys2Proof.Machine.execContactRawChange position contact on s
  | .debounceExpiry position contact => Sys2Proof.Machine.execDebounceExpiry position contact s
  | .discrepancyExpiry position => Sys2Proof.Machine.execDiscrepancyExpiry position s
  | .minPulseExpiry position => Sys2Proof.Machine.execMinPulseExpiry position s
  | .bfDeadline position => Sys2Proof.Machine.execBfDeadline position s
  | .driveTimeout position => Sys2Proof.Machine.execDriveTimeout position s
  | .lockoutButtonChange closed => Sys2Proof.Machine.execLockoutButtonChange closed s
  | .lockoutResetPress => Sys2Proof.Machine.execLockoutResetPress s
  | .heartbeatDue => Sys2Proof.Machine.execHeartbeatDue s
  | .sendDecide => Sys2Proof.Machine.execSendDecide s
  | .telegramStart => Sys2Proof.Machine.execTelegramStart s
  | .attemptVoided => Sys2Proof.Machine.execAttemptVoided s
  | .arbitrationLost => Sys2Proof.Machine.execArbitrationLost s
  | .bitError onStartBit => Sys2Proof.Machine.execBitError onStartBit s
  | .telegramCompleted => Sys2Proof.Machine.execTelegramCompleted s
  | .telegramReceived bits => Sys2Proof.Machine.execTelegramReceived bits s
  | .lineDisturbance bits => Sys2Proof.Machine.execLineDisturbance s bits
  | .peerSilenceExpiry unit => Sys2Proof.Machine.execPeerSilenceExpiry unit s
  | .suspensionEnd => Sys2Proof.Machine.execSuspensionEnd s
  | .duplicateAlarmExpiry => Sys2Proof.Machine.execDuplicateAlarmExpiry s
  | .channelGroupApply channel => Sys2Proof.Machine.execChannelGroupApply channel s
  | .pointGroupApply point => Sys2Proof.Machine.execPointGroupApply point s
  | .topologyGroupApply => Sys2Proof.Machine.execTopologyGroupApply s
  | .linkGroupApply => Sys2Proof.Machine.execLinkGroupApply s
  | .storeWriteBegin => Sys2Proof.Machine.execStoreWriteBegin s
  | .storeWriteEnd outcome => Sys2Proof.Machine.execStoreWriteEnd outcome s
  | .frameGapTimeout read => Sys2Proof.Machine.execFrameGapTimeout s read
  | .framingDiscard cause read => Sys2Proof.Machine.execFramingDiscard cause s read
  | .frameCheckFailure => Sys2Proof.Machine.execFrameCheckFailure s
  | .foreignFrame address kind => Sys2Proof.Machine.execForeignFrame address kind s
  | .overrunDiscard => Sys2Proof.Machine.execOverrunDiscard s
  | .ignoredBroadcast kind => Sys2Proof.Machine.execIgnoredBroadcast kind s
  | .unknownKind kind => Sys2Proof.Machine.execUnknownKind kind s
  | .replySent => Sys2Proof.Machine.execReplySent s
  | .identify body => Sys2Proof.Machine.execIdentify body s
  | .status body => Sys2Proof.Machine.execStatus body s
  | .readChannel body => Sys2Proof.Machine.execReadChannel body s
  | .readPoint body => Sys2Proof.Machine.execReadPoint body s
  | .readPosition body => Sys2Proof.Machine.execReadPosition body s
  | .readZone body => Sys2Proof.Machine.execReadZone body s
  | .readOrders body => Sys2Proof.Machine.execReadOrders body s
  | .readPeers body => Sys2Proof.Machine.execReadPeers body s
  | .readRecord body => Sys2Proof.Machine.execReadRecord body s
  | .ackRecord body => Sys2Proof.Machine.execAckRecord body s
  | .fetchNotices body => Sys2Proof.Machine.execFetchNotices body s
  | .readSetting body => Sys2Proof.Machine.execReadSetting body s
  | .writeSetting body => Sys2Proof.Machine.execWriteSetting body s
  | .discard body => Sys2Proof.Machine.execDiscard body s
  | .commit body => Sys2Proof.Machine.execCommit body s
  | .setState body => Sys2Proof.Machine.execSetState body s
  | .channelOut body => Sys2Proof.Machine.execChannelOut body s
  | .channelIn body => Sys2Proof.Machine.execChannelIn body s
  | .captureReference body => Sys2Proof.Machine.execCaptureReference body s
  | .simulateLight body => Sys2Proof.Machine.execSimulateLight body s
  | .simulateCurrent body => Sys2Proof.Machine.execSimulateCurrent body s
  | .testTrip body => Sys2Proof.Machine.execTestTrip body s
  | .cancelOrder body => Sys2Proof.Machine.execCancelOrder body s
  | .resetLockout body => Sys2Proof.Machine.execResetLockout body s
  | .timeSet broadcast body => Sys2Proof.Machine.execTimeSet broadcast body s
  | .restart body => Sys2Proof.Machine.execRestart body s
  | .lockoutButtonRelease => Sys2Proof.Machine.execLockoutButtonRelease s
  | .restartTerminalRelease => Sys2Proof.Machine.execRestartTerminalRelease s
  | .replyStart => Sys2Proof.Machine.execReplyStart s
  | .startBitSeen => Sys2Proof.Machine.execStartBitSeen s

end Sys2Proof.Machine
end

