-- ==== Sys2Proof/Machine/Step.lean ====
section
/-! DEFINITION. The step: the command at the front of the queue, or one tick of the part's own clock. -/

namespace Sys2Proof.Machine

/-- An empty queue: with the supply present one tick of the part's own clock passes, and nothing else happens.
DESIGN CHOICE, notes/assumptions/1.md. -/
def State.idle (s : State) : State := if s.powered then s.advanceTo (s.clock + 1) else s

/-- The command at the front of the queue runs with the queue's rest; an empty queue idles. -/
def step (s : State) : Host.Outcome State Fault Refusal :=
  match s.pending with
  | [] => .next s.idle
  | c :: rest => exec c { s with pending := rest }

/-- The command that a table word spells put at the front of the queue; the state unchanged where it spells none. -/
def State.withFetchWord (s : State) (nbits w : Nat) : State :=
  match decodeTableWord nbits w with
  | none => s
  | some c => { s with pending := c :: s.pending }

end Sys2Proof.Machine
end

