-- ==== Sys2Proof/Safety.lean ====
section
/-! DEFINITION. What claims are stated in: what a command leaves alone, and the whole-machine rules that every step
keeps. -/

namespace Sys2Proof.Machine

open Wire

/-! ## What is left alone -/

/-- The state with everything blanked that the decision path and the end of a command may touch: zones, orders, trip
outputs, lockouts, trip records, notices, incident peaks, the waiting LOCKOUT and RECORD writes, the contacts, and an
IDLE transmitter that becomes DUE. `t.apart = s.apart` says that nothing else differs between `s` and `t`. -/
def State.apart (s : State) : State :=
  { s with
    zones := [], orders := [], outputs := [], lockout := [], records := [], nextRecord := 0, incidentStart := 0
    notices := []
    current := { s.current with points := s.current.points.map fun (p : Point) => { p with peak := none } }
    store := { s.store with waitLockout := false, waitRecords := [] }
    lockoutContact := false, attention := false, health := false, alarm := false
    link := { s.link with tx := if s.link.tx = .idle then .due else s.link.tx } }

/-- A command answers a next state with a property. -/
def Gives (c : Instr) (s : State) (P : State → Prop) : Prop := ∃ t, exec c s = .next t ∧ P t

/-- Notices posted in a command, in this order and before any other of it: where the queue has room for them and holds
no LOST marker, they stand behind what it held (R150). -/
def Posted (s : State) (ns : List Notice) (t : State) : Prop :=
  (∀ n ∈ s.notices, n.kind ≠ .lost) → s.notices.length + ns.length ≤ 31 → s.notices ++ ns <+: t.notices

/-- The part is supplied and its port READY and reading. -/
def State.ready (s : State) : Prop := s.powered = true ∧ s.port.answering = false ∧ s.port.transmitting = false

/-- The state after a handled request that changes nothing but what every handled request does (R158, R174, R180): the
port ANSWERING with this reply, the request counted, a test deadline moved. -/
def State.answered (s : State) (kind : Nat) (reply : List Byte) : State :=
  { s with
    control :=
      { s.control with testDeadline := s.control.testDeadline.map fun _ => s.clock + 900000 * Config.ms }
    port :=
      { s.port with
        answering := true, transmitting := false, handledAt := s.clock
        reply := frame s.settings.active.station.address (kind + 128) reply
        counters := { s.port.counters with handled := min 65535 (s.port.counters.handled + 1) } } }

/-- A position's outputs after its energising or de-energising: the others stand. -/
def othersStand (before after : List Index) (p : Index) : Prop :=
  ∀ q ∈ upTo 8, q ≠ p → (q ∈ after ↔ q ∈ before)

/-- The settings unit after a part of an application has been applied (R168, R169): the part is active and waits no more.
With the last part the image is dropped once its SETTINGS write has begun, APPLY_DONE is the last notice posted, and
SETUP_FAULT is left for IN_SERVICE (R161). -/
def State.partApplied (s : State) (active : Settings) (waiting : Waiting) (t : State) : Prop :=
  t.settings = { s.settings with
    active, waiting
    image := if waiting.count = 0 ∧ s.store.waitSettings = false then none else s.settings.image
    doneOwed := if waiting.count = 0 then false else s.settings.doneOwed } ∧
  t.control =
    (if waiting.count = 0 ∧ s.control.state = .setupFault then
      { s.control with state := .inService, since := t.partTime, testDeadline := none }
    else s.control) ∧
  (waiting.count = 0 → s.control.state ≠ .setupFault → (∀ n ∈ s.notices.dropLast, n.kind ≠ .lost) →
    t.notices ≠ [] ∧ ∀ n ∈ t.notices.getLast?,
      n = { kind := .applyDone, subject := 0, value := s.settings.serial, time := t.partTime } ∨ n.kind = .lost)

/-- What a reset of cause `cause` leaves in `t`, from the store and the wiring of `s` (R24, R26, R54, R64, R75, R85,
R124, R140, R148, R152, R153, R164, R171, R172, R174, R180); the record places follow notes/assumptions/41.md. Whether
the pending T_ref of an abandoned capture keeps what it held (R39) or is the active one with the rest of the pending set
(R164) is the model's choice, notes/assumptions/45.md. -/
def State.resetLeaves (s : State) (cause : ResetCause) (t : State) : Prop :=
  (t.clock = 0 ∧ t.partTime = 0 ∧ t.light.lastSample = none ∧ t.light.interval = 0 ∧ t.current.next = 0 ∧
    t.current.last = none) ∧
  (t.control =
    { state := .starting, cause, since := 0, testDeadline := none, imageGood := s.store.goodImage.isSome }) ∧
  ((∀ i ∈ s.store.goodImage, t.settings.active = i.settings ∧ t.settings.serial = i.serial) ∧
    (s.store.goodImage = none → t.settings.active = .factory ∧ t.settings.serial = 0) ∧
    t.settings.image = none ∧ t.settings.waiting = .none ∧ t.settings.doneOwed = false) ∧
  (t.settings.pending = { t.settings.active with channels := t.settings.pending.channels } ∧
    ((s.sched.referenceKept = false ∨ ∀ n ∈ upTo 16, (s.channel n).detection ≠ .referencing) →
      ∀ n ∈ upTo 16, item t.settings.pending.channels .factory n = t.channelSet n) ∧
    (s.sched.referenceKept = true → ∀ n ∈ upTo 16, item t.settings.pending.channels .factory n =
      { t.channelSet n with
        reference :=
          if (s.channel n).detection = .referencing then (item s.settings.pending.channels .factory n).reference
          else (t.channelSet n).reference })) ∧
  (∀ n ∈ upTo 16, t.channel n =
    { gain := 256, health := .good, background := 0, detection := if t.usedChannel n then .dark else .unused,
      pickupCount := 0, drops := 0, litSince := none, lastValue := 0, simulated := false, strikeKind := .none,
      strikeCount := 0, passRun := 0, lastReturn := none, lastResult := none, lastBurst := none, slotMark := none,
      burst := none, passes := 0, dimFails := 0, brokenFails := 0, skipped := 0, captured := none, capture := none,
      evaluated := 0, evaluatedSum := 0, touchedLight := false }) ∧
  (∀ m ∈ upTo 4, t.point m =
    { magnitudes := [0, 0, 0], armed := [false, false, false], lastQualifying := none, oc := false, cp := false,
      quiet := 0, simulated := false, peak := none, pickups := 0, episodeHold := 0, holdOver := false }) ∧
  ((∀ p ∈ upTo 8, t.position p = (s.position p).restart (t.usedPosition p) (t.positionSet p).wired) ∧
    ∀ z ∈ upTo 8, t.zone z =
      { state := .quiet, attr := none, realLight := false, dryLight := false, realCurrent := false,
        dryCurrent := false, unavailable := false, condition := .none, alertReason := none, alertMark := false,
        remoteHeld := false, since := 0, trips := 0, clearing := t.clearingSet z,
        confirmation := t.confirmationSet (t.clearingSet z), setsChangedAt := 0, setChanges := 0 }) ∧
  (t.orders = [] ∧ t.outputs = [] ∧ (∀ l ∈ s.store.goodLockout, t.lockout = l) ∧
    (s.store.goodLockout = none → t.lockout = upTo 8)) ∧
  (t.records = (s.store.records.filterMap fun p => p.content) ∧ t.nextRecord = s.store.nextNumber.getD 1 ∧
    t.notices =
      { kind := .restarted, subject := 0, value := cause.code, time := 0 } ::
        if 14 ≤ (t.records.filter fun r => r.kind == .live && r.state == .unread).length then
          [{ kind := .recordsNearlyFull, subject := 0
             value := (t.records.filter fun r => r.kind == .live && r.state == .unread).length, time := 0 }]
        else []) ∧
  (t.link = .fresh t.settings.active.link.unit t.settings.active.link.peers ∧ t.port = .fresh) ∧
  (t.store =
    { s.store with
      records := s.store.records.filter fun p => p.content.isSome
      busy := none, waitSettings := false, waitLockout := false, waitRecords := []
      faultSettings := false, faultLockout := s.store.goodLockout.isNone, faultRecord := false }) ∧
  (t.button = s.button.restart ∧ t.terminal = s.terminal.restart ∧ t.sched = s.sched ∧
    t.freeIndex = s.freeIndex ∧ t.pending = s.pending)

/-! ## Rules that every step keeps -/

/-- There are sixteen channel records, four point records and eight of positions and zones (R1), and the last light
sample instant is one of those 100 µs apart from the restart on (R4). -/
def State.shaped (s : State) : Prop :=
  s.light.channels.length = 16 ∧ s.current.points.length = 4 ∧ s.positions.length = 8 ∧ s.zones.length = 8 ∧
    ∀ u ∈ s.light.lastSample, 1200 ∣ u

/-- The contacts and the attention line as R121, R152, R162 and R163 have them; without supply all are released. -/
def State.contactsAgree (s : State) : Prop :=
  s.lockoutContact = (s.powered && !s.lockout.isEmpty) ∧ s.attention = (s.powered && !s.notices.isEmpty) ∧
    s.health = (s.powered && (s.control.state == .inService || s.control.state == .test)) ∧
    s.alarm = (s.powered && s.alarmCondition)

/-- At most one order for each position (R100). -/
def State.oneOrderEach (s : State) : Prop := (s.orders.map fun o => o.position).Nodup

/-- A trip output is energised only while its position holds a LIVE order that is not STALLED (R120). -/
def State.outputsBacked (s : State) : Prop :=
  ∀ p ∈ s.outputs, ∃ o ∈ s.orders, o.position = p ∧ o.attr = .live ∧ o.stage ≠ .stalled

/-- Whenever a position holds a LIVE order, that position's lockout is set (R121). -/
def State.liveLocked (s : State) : Prop :=
  ∀ o ∈ s.orders, o.attr = .live → o.position ∈ upTo 8 → o.position ∈ s.lockout

/-- The state of the record a RECORD write carries. -/
def WriteContent.recordState : WriteContent → Option RecordState
  | .record r _ => some r.state
  | .settings _ | .lockout _ => none

/-- A record is OPEN exactly while the order list is not empty, and the OPEN record is the newest (R141); no stored
copy, and none being written, is OPEN (R148). -/
def State.openAgrees (s : State) : Prop :=
  ((∃ r ∈ s.records, r.state = .opened) ↔ s.orders ≠ []) ∧ (∀ r ∈ s.records.dropLast, r.state ≠ .opened) ∧
    (∀ p ∈ s.store.records, ∀ r ∈ p.content, r.state ≠ .opened) ∧
    ∀ w ∈ s.store.busy, w.content.recordState ≠ some .opened

/-- What leaving TEST does to the DRY orders of `s` (R119, R144, R145), after the notices `first`: none is left, the entry of
each becomes WITHDRAWN with the released offset of the present instant, and where no other order stood the OPEN record
becomes UNREAD with RECORD_CLOSED posted. -/
def State.dryWithdrawn (s : State) (first : List Notice) (t : State) : Prop :=
  (∀ o ∈ t.orders, o.attr = .live) ∧
  (s.oneOrderEach → s.openAgrees → (∀ q ∈ upTo 8, 0 < (s.positionSet q).minPulse) →
    ∀ r ∈ s.records, r.state = .opened →
      (∃ q ∈ t.records, q.number = r.number ∧
        q.state = (if ∀ o ∈ s.orders, o.attr = .dry then .unread else .opened) ∧
        ∀ i ∈ List.range r.entries.length, ∀ e ∈ r.entries[i]?,
          e.released = none → (∃ o ∈ s.orders, o.attr = .dry ∧ o.position = e.position) →
            q.entries[i]? = some { e with
              stage := .withdrawn, released := some (min 65535 ((t.clock - s.incidentStart) / 1200)) }) ∧
      ((∀ o ∈ s.orders, o.attr = .dry) →
        Posted s (first ++ [{ kind := .recordClosed, subject := r.kind.code, value := r.number, time := t.partTime }]) t))

/-- The rules of the order unit and the record unit together. -/
def State.ordersAgree (s : State) : Prop :=
  s.oneOrderEach ∧ s.outputsBacked ∧ s.liveLocked ∧ s.openAgrees

/-- The notice queue's shape (R150): at most 32 entries, a LOST marker only at its end, and a 32nd entry is one. -/
def queueOk (q : List Notice) : Prop :=
  (∀ n ∈ q.dropLast, n.kind ≠ .lost) ∧ (q.length ≤ 31 ∨ (q.length = 32 ∧ ∀ n ∈ q.getLast?, n.kind = .lost))

/-- A channel record within R3, R7 and R26: the gain between 256 and the ceiling of its kind, background, last value and
the interval's mean at most 4095, the pickup count at most 8, the drop count at most 10, lit since absent outside LIT
and STEADY, strikes and passes at most 3; a capture on a REFERENCING channel alone (R19, R37). -/
def Channel.within (c : Channel) (ceiling : Nat) : Prop :=
  256 ≤ c.gain ∧ c.gain ≤ ceiling ∧ c.background ≤ 4095 ∧ c.lastValue ≤ 4095 ∧
    c.evaluatedSum ≤ 4095 * c.evaluated ∧ c.strikeCount ≤ 3 ∧ c.passRun ≤ 3 ∧ c.pickupCount ≤ 8 ∧ c.drops ≤ 10 ∧
    (c.litSince.isSome → c.detection = .lit ∨ c.detection = .steady) ∧ (c.capture.isSome → c.detection = .referencing)

/-- Channel settings whose K is at most 8 and whose θ_set is at most 4000 (R165, R185). -/
def Settings.channelsBounded (c : Settings) : Prop := ∀ k ∈ c.channels, k.qualify ≤ 8 ∧ k.pickup ≤ 4000

/-- Every used channel's record is within its bounds, an unused one's within the wider ceiling's, and θ_set ≤ θ ≤ 4000 (R7);
so are the settings from which they come: active, pending and image. -/
def State.channelsWithin (s : State) : Prop :=
  s.settings.active.channelsBounded ∧ s.settings.pending.channelsBounded ∧ (∀ c ∈ s.settings.image, c.channelsBounded) ∧
    ∀ n ∈ upTo 16, (s.channel n).within (if (s.channelSet n).kind = .point then 512 else 1024) ∧
      (s.channelSet n).pickup ≤ s.threshold n ∧ s.threshold n ≤ 4000

/-- The cross link's records fit together (R125, R128, R134, R135): with the link off nothing is sent and no peer is
held; an ARMED transmitter has its snapshot and its instant of decision, and a SENDING one what it drives; a peer has a silence timer exactly while
LIVE, and its flags are clear outside LIVE. -/
def State.linkAgrees (s : State) : Prop :=
  (s.settings.active.link.unit = 0 → s.link.tx = .off ∧ s.link.peers = []) ∧
    (s.link.tx = .armed → s.link.snapshot.isSome ∧ s.link.decided.isSome) ∧
    (s.link.tx = .sending → s.link.snapshot.isSome ∧ s.link.driving.isSome ∧ s.link.sendStart.isSome) ∧
    ∀ p ∈ s.link.peers, (p.silence.isSome ↔ p.state = .live) ∧
      (p.state ≠ .live → p.light = [] ∧ p.current = [] ∧ p.requests = [])

/-- The zones fit the protection state (R85, R89, R97, R119, R153): the trip attribute is absent outside TRIPPED, an
unused zone is QUIET, none leaves QUIET in STARTING and SETUP_FAULT, none is TRIPPED in OUT_OF_SERVICE; outside TEST
no zone is TRIPPED DRY and no order is DRY; a test deadline is held exactly in TEST. -/
def State.zonesAgree (s : State) : Prop :=
  (∀ z ∈ upTo 8, ((s.zone z).state ≠ .tripped → (s.zone z).attr = none) ∧
    (s.usedZone z = false → (s.zone z).state = .quiet) ∧
    (s.control.state = .starting ∨ s.control.state = .setupFault → (s.zone z).state = .quiet) ∧
    (s.control.state = .outOfService → (s.zone z).state ≠ .tripped) ∧
    (s.control.state ≠ .test → (s.zone z).attr ≠ some .dry)) ∧
  (s.control.state ≠ .test → ∀ o ∈ s.orders, o.attr = .live) ∧
  (s.control.testDeadline.isSome ↔ s.control.state = .test)

/-- A zone stands where a target would take it (R89, R91). -/
def Zone.stands (q : Zone) : Target → Bool
  | .quiet => q.state == .quiet
  | .alert r => q.state == .alert && q.alertReason == some r
  | .tripped a => q.state == .tripped && q.attr == some a

/-- A used zone agrees with its inputs as they stand: its readings, availability and condition are those of an evaluation
now, and its state, attribute and reason those of the target (R86 to R91). -/
def State.judged (s : State) (z : Index) : Prop :=
  s.readings z = s.zone z ∧ (s.zone z).stands (s.target z (s.zone z)) = true

/-- In every protection state in which zones are evaluated, no used zone waits for an evaluation (R90, R97); a capture
runs on a REFERENCING channel alone (R19, R37). -/
def State.zonesJudged (s : State) : Prop :=
  s.shaped ∧ (s.powered = true → s.control.state.evaluates = true → ∀ z ∈ upTo 8, s.usedZone z = true → s.judged z) ∧
    ∀ n ∈ upTo 16, (s.channel n).capture.isSome → (s.channel n).detection = .referencing

/-- The derived positions and the sets of all zones are those their inputs give (R57, R67, R69, R70). -/
def State.topologyCurrent (s : State) : Prop :=
  s.shaped ∧ (∀ p ∈ upTo 8, (s.position p).derived =
    derivedOf (s.usedPosition p) (s.positionSet p).wired (s.position p).cl.taken (s.position p).op.taken
      (s.position p).expired) ∧
    ∀ z ∈ upTo 8, (s.zone z).clearing = s.clearingSet z ∧ (s.zone z).confirmation = s.confirmationSet (s.clearingSet z)

/-- No order waits for its evidence: an order's supervised field follows its position (R109), and a supervised order not
yet confirmed stands for a position that is not cleared (R107). No order stands in STARTING or SETUP_FAULT (R155, R161),
nor without supply. -/
def State.ordersJudged (s : State) : Prop :=
  s.oneOrderEach ∧
    (s.powered = false ∨ s.control.state = .starting ∨ s.control.state = .setupFault → s.orders = []) ∧
    ∀ o ∈ s.orders, o.supervised = !s.unsupervised o.position ∧
      (o.supervised = true → o.stage ≠ .confirmed → s.cleared o.position = false)

/-- A rule that holds after a step wherever it held before. -/
def Kept (I : State → Prop) : Prop := ∀ s, I s → ∀ t, step s = .next t → I t

/-! ## Reachability in the graph (R67) -/

/-- A conducting position joins two nodes, neither of which is `z`. -/
def TopologySettings.joins (g : TopologySettings) (edges : List Index) (z a b : Node) : Prop :=
  ∃ p ∈ edges,
    (((item g.positions .factory p).nodeA = a ∧ (item g.positions .factory p).nodeB = b) ∨
      ((item g.positions .factory p).nodeA = b ∧ (item g.positions .factory p).nodeB = a)) ∧ a ≠ z ∧ b ≠ z

/-- A present source is reached from a node by passing along conducting positions without entering `z`. -/
def TopologySettings.feeds (g : TopologySettings) (edges : List Index) (z f : Node) : Prop :=
  ∃ n, Relation.ReflTransGen (g.joins edges z) f n ∧ g.presentSource n = true

/-! ## Canonical telegram contents (R125) -/

/-- A content as a telegram can carry it: a unit number of three bits, and sets in the order of their flags. -/
def Content.canonical (c : Content) : Prop :=
  c.unit < 8 ∧ c.zones = (upTo 8).filter c.zones.contains ∧ c.currents = (upTo 8).filter c.currents.contains ∧
    c.requests = requestFlags.filter c.requests.contains

end Sys2Proof.Machine
end

