-- ==== Sys2Proof/Certificates/Slice0/Obligations.lean ====
section
/-! DEFINITION. What is claimed of the LT816: statements for the provers, each from the rules its docstring names.
In all of them a command that comes before its due instant moves the part's own clock there (notes/assumptions/2.md), and a
command whose occasion is absent changes nothing (notes/assumptions/3.md): both are the model's choices. -/

open Sys2Proof Sys2Proof.Machine Sys2Proof.Wire

/-! ## The machine -/

/-- A step runs the command at the front of the queue with the queue's rest; on an empty queue one tick of the part's
own clock passes while it is supplied (the tick is the model's choice, notes/assumptions/1.md). -/
def Obligations.StepRunsTheFrontCommand : Prop :=
  (∀ (c : Instr) (rest : List Instr) (s : State), s.pending = c :: rest → step s = exec c { s with pending := rest }) ∧
    (∀ s : State, s.pending = [] → s.powered = false → step s = .next s) ∧
    ∀ s : State, s.pending = [] → s.powered = true → step s = .next (s.advanceTo (s.clock + 1))

/-- What settling does at the end of a command: the three contacts and the attention line are judged anew (R121, R152,
R162, R163), and an IDLE transmitter becomes DUE when the outgoing content has changed (R127). The alarm condition
is exactly the seven of R163. -/
def Obligations.SettlingJudgesContacts : Prop :=
  ∀ s t : State,
    (settle s t).lockoutContact = (t.powered && !t.lockout.isEmpty) ∧
    (settle s t).attention = (t.powered && !t.notices.isEmpty) ∧
    ((settle s t).health = true ↔ t.powered = true ∧ (t.control.state = .inService ∨ t.control.state = .test)) ∧
    ((settle s t).alarm = true ↔ t.powered = true ∧
      ((∃ n ∈ upTo 16, t.usedChannel n = true ∧ (t.channel n).health ≠ .good) ∨
        (∃ n ∈ upTo 16, t.usedChannel n = true ∧ ((t.channel n).detection = .out ∨ (t.channel n).detection = .steady)) ∨
        (t.control.state ≠ .starting ∧ ∃ p ∈ t.link.peers, p.state ≠ .live) ∨
        (∃ p ∈ upTo 8, (t.position p).derived = .invalid) ∨
        (t.store.faultSettings = true ∨ t.store.faultLockout = true ∨ t.store.faultRecord = true) ∨
        t.link.duplicateAlarm = true ∨
        (t.control.state = .test ∨ t.control.state = .outOfService ∨ t.control.state = .setupFault))) ∧
    (settle s t).link = { t.link with tx := if t.link.tx = .idle ∧ s.content ≠ t.content then .due else t.link.tx } ∧
    { settle s t with
      lockoutContact := t.lockoutContact, attention := t.attention, health := t.health, alarm := t.alarm
      link := t.link } = t

/-- The state after reset keeps every rule that the invariants state. That it is one of a unit with a blank store and
all contacts and buttons off is the model's choice, notes/assumptions/5.md and 6.md. -/
def Obligations.ResetMeetsEveryRule : Prop :=
  State.reset.contactsAgree ∧ queueOk State.reset.notices ∧ State.reset.ordersAgree ∧ State.reset.channelsWithin ∧
    State.reset.linkAgrees ∧ State.reset.zonesAgree ∧ State.reset.zonesJudged ∧ State.reset.topologyCurrent ∧
    State.reset.ordersJudged

/-- The contacts and the attention line agree with the state after every step (R121, R152, R154, R162, R163). -/
def Obligations.ContactsAlwaysAgree : Prop := Kept State.contactsAgree

/-- The notice queue keeps its shape through every step, and a posting follows R150's table: without a LOST marker and
with fewer than 31 entries the notice is placed at the end; with 31 a LOST marker of value 1 and the part time of
this posting is, and the notice is lost; with a marker, the newest entry, its value rises by 1, saturating, and the
notice is lost. -/
def Obligations.NoticeQueueKeepsItsShape : Prop :=
  Kept (fun s => queueOk s.notices) ∧
  ∀ (s : State) (kind : NoticeKind) (subject value : Nat),
    let n : Notice := { kind, subject, value, time := s.partTime }
    let q := s.notices
    let t := s.post kind subject value
    t = { s with notices := enqueue q n } ∧
    ((∀ m ∈ q, m.kind ≠ .lost) → q.length < 31 → t.notices = q ++ [n]) ∧
    ((∀ m ∈ q, m.kind ≠ .lost) → 31 ≤ q.length →
      t.notices = q ++ [{ kind := .lost, subject := 0, value := 1, time := s.partTime }]) ∧
    ∀ held m, q = held ++ [m] → (∀ k ∈ held, k.kind ≠ .lost) → m.kind = .lost →
      t.notices = held ++ [{ m with value := min 65535 (m.value + 1) }]

/-- At most one order a position, outputs only behind LIVE orders that are not STALLED, a lockout behind every LIVE
order, and an OPEN record exactly while orders stand (R100, R120, R121, R141, R148): kept by every step. -/
def Obligations.OrdersAlwaysAgree : Prop := Kept State.ordersAgree

/-- Every channel record stays within its bounds through every step: gain, background, last value and threshold (R7),
the pickup and drop counts and lit since (R3), strikes and passes (R26, R33). The bounds on K and θ_set from which
two of them follow (R165) are kept with them. -/
def Obligations.ChannelsStayWithin : Prop := Kept State.channelsWithin

/-- The cross link's records fit together after every step (R125, R128, R134, R135). -/
def Obligations.LinkAlwaysAgrees : Prop := Kept State.linkAgrees

/-- Zones, orders and the test deadline fit the protection state after every step (R85, R89, R97, R119, R153). -/
def Obligations.ZonesAlwaysAgree : Prop := Kept State.zonesAgree

/-- The lists of records keep their lengths, and the last light sample instant stays a multiple of 100 µs, through every
step (R1, R4). With that, wherever zones are evaluated, every used zone agrees with its inputs after every step:
each change of an input has reached the zones it bears on (R12, R48, R71, R86 to R91, R97, R98, R136). -/
def Obligations.EveryZoneStaysJudged : Prop := Kept State.shaped ∧ Kept State.zonesJudged

/-- The derived positions and the clearing and confirmation sets of all zones are those their inputs give after every
step, the lists of records having their lengths (R57, R67, R69, R70). -/
def Obligations.TopologyStaysCurrent : Prop := Kept State.topologyCurrent

/-- No order waits for evidence that has come (R107, R109), after every step; none stands in STARTING or SETUP_FAULT
(R155, R161), nor without supply. That the loss of supply, not the restart after it, takes the orders away is the
model's choice, notes/assumptions/23.md. -/
def Obligations.OrdersStayJudged : Prop := Kept State.ordersJudged

/-! ## Power, reset and state control -/

/-- POWER_ON with the supply absent resets the part with cause POWER_ON (R154, R172); with it present nothing happens
(the model's reading, notes/assumptions/22.md). POWER_LOSS de-energises everything, drops orders and waiting writes
and cuts off the write in progress, whose content is left with a bad check (R172); the stored copy that a record's
write was to overwrite stands (R148, DEDUCED, notes/assumptions/41.md); the next record number that a cut-off RECORD
write leaves is some number from 1 to 65535 (the model's choice, notes/assumptions/9.md); the lockout, the wiring,
the channels, the points but for their incident peaks, and the store's other contents stay. That the orders, the
peaks, the link and the port are dropped at once is the model's choice, notes/assumptions/23.md, and so is that the
pending T_ref of a capture that a reset abandons follows R164 or, where the schedule says so, keeps what it held
(R39), notes/assumptions/45.md. While the supply is absent the part does nothing: a command leaves the state as it
is, but for POWER_ON and for the wiring of a contact or a button, whose raw state alone follows. -/
def Obligations.SupplyComesAndGoes : Prop :=
  (∀ s : State,
     (s.powered = false → Gives .powerOn s fun t => t.powered = true ∧ s.resetLeaves .powerOn t) ∧
       (s.powered = true → exec .powerOn s = .next (settle s s))) ∧
  (∀ s : State, s.powered = true →
     Gives .powerLoss s fun t =>
       (t.powered = false ∧ t.outputs = [] ∧ t.orders = [] ∧ t.lockoutContact = false ∧ t.attention = false ∧
         t.health = false ∧ t.alarm = false ∧ t.link.tx = .off ∧ t.port = .fresh) ∧
       (t.store.busy = none ∧ t.store.waitSettings = false ∧ t.store.waitLockout = false ∧ t.store.waitRecords = []) ∧
       (t.store.image =
           match s.store.busy with
           | some ⟨.settings _, _⟩ => .bad
           | _ => s.store.image) ∧
       (t.store.lockout =
           match s.store.busy with
           | some ⟨.lockout _, _⟩ => .bad
           | _ => s.store.lockout) ∧
       (t.store.records =
           match s.store.busy with
           | some ⟨.record r _, _⟩ =>
             if s.store.records.length < 16 ∧ (r.written = true → ∀ q ∈ s.store.records, q.number ≠ r.number) ∧
                 ∀ q ∈ s.store.records, r.replaces ≠ some q.number then
               s.placesAfter r none
             else s.store.records
           | _ => s.store.records) ∧
       (s.store.busy.bind (fun w => w.content.recordState) = none → t.store.nextNumber = s.store.nextNumber) ∧
       (s.store.busy.bind (fun w => w.content.recordState) ≠ none →
         ∃ n ∈ t.store.nextNumber, 1 ≤ n ∧ n ≤ 65535) ∧
       (t.lockout = s.lockout ∧ t.positions = s.positions ∧ t.button = s.button ∧ t.terminal = s.terminal ∧
         t.zones = s.zones ∧ t.light = s.light ∧
         t.current =
           { s.current with points := s.current.points.map fun p : Point => { p with peak := none } } ∧
         t.settings = s.settings ∧ t.control = s.control ∧
         t.clock = s.clock ∧ t.partTime = s.partTime ∧ t.notices = s.notices ∧ t.pending = s.pending)) ∧
  ∀ s : State, s.powered = false →
    (∀ c : Instr, c ≠ .powerOn → (∀ b, c ≠ .restartTerminalChange b) → (∀ b, c ≠ .lockoutButtonChange b) →
      (∀ p k b, c ≠ .contactRawChange p k b) → exec c s = .next s) ∧
    (∀ b, exec (.restartTerminalChange b) s = .next { s with terminal := { s.terminal with raw := b } }) ∧
    (∀ b, exec (.lockoutButtonChange b) s = .next { s with button := { s.button with raw := b } }) ∧
    (∀ p b, exec (.contactRawChange p .cl b) s =
      .next (s.setPosition p { s.position p with cl := { (s.position p).cl with raw := b } })) ∧
    ∀ p b, exec (.contactRawChange p .op b) s =
      .next (s.setPosition p { s.position p with op := { (s.position p).op with raw := b } })

/-- RESTART_TERMINAL_PRESS, due once the terminal has been closed for its debounce and was last taken as open, resets
the part in every protection state, after the write in progress, be it of settings, lockouts or a record, and a
waiting LOCKOUT write have completed (R154, R172; that they verify is PRESUMED, notes/assumptions/15.md; for the
pending T_ref of an abandoned capture notes/assumptions/45.md). A press that is not due does nothing. A change of a
button's wiring starts its 4 ms debounce, or stops it when the button is again as taken; its release is taken after
the debounce (R123, R154): RESTART_TERMINAL_CHANGE, RESTART_TERMINAL_RELEASE, LOCKOUT_BUTTON_CHANGE and
LOCKOUT_BUTTON_RELEASE change nothing else. -/
def Obligations.ButtonsAndTerminalDebounce : Prop :=
  (∀ s : State, s.powered = true →
     ((s.terminal.raw = true ∧ s.terminal.taken = false ∧ s.terminal.timer.isSome) →
       Gives .restartTerminalPress s fun t => t.powered = true ∧ s.completeWrites.resetLeaves .restartTerminal t) ∧
     (¬(s.terminal.raw = true ∧ s.terminal.taken = false ∧ s.terminal.timer.isSome) →
       exec .restartTerminalPress s = .next (settle s s)) ∧
     (∀ i e, s.store.busy = some ⟨.settings i, e⟩ → s.completeWrites.store.image = .good i) ∧
     (∀ l e, s.store.busy = some ⟨.lockout l, e⟩ → s.store.waitLockout = false →
       s.completeWrites.store.lockout = .good l) ∧
     (∀ r k e, s.store.busy = some ⟨.record r k, e⟩ →
       s.completeWrites.store.records = s.placesAfter r (some { r with written := true }) ∧
         s.completeWrites.store.nextNumber = some k) ∧
     (s.store.waitLockout = true → s.completeWrites.store.lockout = .good s.lockout) ∧
     (s.store.busy = none → s.store.waitLockout = false → s.completeWrites = s)) ∧
  ∀ s : State, s.powered = true →
    (∀ b, b ≠ s.terminal.raw →
      exec (.restartTerminalChange b) s = .next (settle s { s with
        terminal := { raw := b, taken := s.terminal.taken, timer := if b = s.terminal.taken then none else some (s.clock + 48000) } })) ∧
    (exec (.restartTerminalChange s.terminal.raw) s = .next (settle s s)) ∧
    (∀ b, b ≠ s.button.raw →
      exec (.lockoutButtonChange b) s = .next (settle s { s with
        button := { raw := b, taken := s.button.taken, timer := if b = s.button.taken then none else some (s.clock + 48000) } })) ∧
    (exec (.lockoutButtonChange s.button.raw) s = .next (settle s s)) ∧
    (∀ d ∈ s.terminal.timer, s.terminal.raw = false → s.terminal.taken = true →
      exec .restartTerminalRelease s = .next (settle s { s.advanceTo d with
        terminal := { raw := false, taken := false, timer := none } })) ∧
    ∀ d ∈ s.button.timer, s.button.raw = false → s.button.taken = true →
      exec .lockoutButtonRelease s = .next (settle s { s.advanceTo d with
        button := { raw := false, taken := false, timer := none } })

/-- STARTING_END at 1200 ms: the sets of all zones are those the positions then give, the state becomes IN_SERVICE with
a good image and SETUP_FAULT otherwise, STATE_CHANGE is posted before any other notice, and no other block's state
than the decision path's changes (R155, R156). TEST_TIMEOUT: TEST_TIMEOUT is posted first and then STATE_CHANGE;
TEST is left for IN_SERVICE without a deadline, every simulation is cleared, every DRY order is withdrawn, its entry
WITHDRAWN with the released offset of that instant and the record closed with the last order (R119, R144, R145), and
LIVE orders and lockouts stand (R158, R159). Outside STARTING, and outside TEST, they do nothing. That STATE_CHANGE
comes before the notices of other blocks is the model's choice, notes/assumptions/24.md. -/
def Obligations.StartingAndTestEnd : Prop :=
  (∀ s : State, s.powered = true → s.control.state ≠ .starting → exec .startingEnd s = .next (settle s s)) ∧
  (∀ s : State, s.powered = true → s.control.state ≠ .test ∨ s.control.testDeadline = none →
    exec .testTimeout s = .next (settle s s)) ∧
  (∀ s : State, s.powered = true → s.control.state = .starting →
     Gives .startingEnd s fun t =>
       t.control = { s.control with
         state := if s.control.imageGood then .inService else .setupFault, since := t.partTime, testDeadline := none } ∧
       t.clock = max s.clock (1200 * Config.ms) ∧
       Posted s [{ kind := .stateChange, subject := 0, value := if s.control.imageGood then 1 else 4, time := t.partTime }] t ∧
       (∀ z ∈ upTo 8, (t.zone z).clearing = t.clearingSet z ∧
         (t.zone z).confirmation = t.confirmationSet (t.clearingSet z)) ∧
       t.apart = { s.advanceTo (1200 * Config.ms) with control := t.control }.apart) ∧
  ∀ s : State, s.powered = true → s.control.state = .test → ∀ d ∈ s.control.testDeadline,
    Gives .testTimeout s fun t =>
      t.control = { s.control with state := .inService, since := t.partTime, testDeadline := none } ∧
      t.clock = max s.clock d ∧
      Posted s [{ kind := .testTimeout, subject := 0, value := 0, time := t.partTime },
        { kind := .stateChange, subject := 2, value := 1, time := t.partTime }] t ∧
      (∀ n ∈ upTo 16, (t.channel n).simulated = false) ∧ (∀ m ∈ upTo 4, (t.point m).simulated = false) ∧
      s.dryWithdrawn [{ kind := .testTimeout, subject := 0, value := 0, time := t.partTime },
        { kind := .stateChange, subject := 2, value := 1, time := t.partTime }] t ∧
      (s.oneOrderEach → ∀ o ∈ s.orders, o.attr = .live → ∃ q ∈ t.orders,
        q.position = o.position ∧ q.stage = o.stage ∧ q.startedAt = o.startedAt ∧ q.deadline = o.deadline) ∧
      (∀ p ∈ upTo 8, p ∈ s.lockout → p ∈ t.lockout) ∧
      t.apart = { (s.advanceTo d).clearSimulations with control := t.control }.apart

/-- SET_STATE with a one-byte body follows R157's table: BAD_VALUE (4) for a target that names no state, WRONG_STATE (5)
in STARTING and wherever the table gives it, ORDERS_STANDING (7) for OUT_OF_SERVICE while orders stand. An accepted
one answers the new state, posts STATE_CHANGE before any other notice (the model's choice, notes/assumptions/24.md)
and sets or clears the test deadline (R153, R157, R158, R159); leaving TEST withdraws the DRY orders, in the trip
record too (R119, R144, R145). Where every order that stands was created by a zone at this very instant, the request
may also have been handled before the trip: it is then accepted, and the orders stand in OUT_OF_SERVICE (R160; which
of the two is the schedule's, notes/assumptions/40.md). -/
def Obligations.SetStateFollowsItsTable : Prop :=
  ∀ (s : State) (x : Byte), s.ready →
    let now := s.control.state
    let goal := x.toNat
    let changed := fun (new : Protection) (t : State) =>
      t.control = { s.control with
        state := new, since := s.partTime
        testDeadline := if new = .test then some (s.clock + 900000 * Config.ms) else none } ∧
      Posted s [{ kind := .stateChange, subject := now.code, value := goal, time := s.partTime }] t ∧
      t.port = (s.answered 16 [0, x]).port ∧
      (now = .test → s.dryWithdrawn [{ kind := .stateChange, subject := 2, value := goal, time := s.partTime }] t) ∧
      (new = .outOfService → t.orders = s.orders ∧ t.outputs = s.outputs ∧ t.lockout = s.lockout) ∧
      t.apart = { (if now = Protection.test then s.clearSimulations else s) with
        control := t.control, port := t.port }.apart
    let refused := exec (.setState [x]) s = .next (settle s (s.answered 16 [7]))
    let justNow := ∀ o ∈ s.orders, o.startedAt = s.clock ∧ ∃ c, o.causes.head? = some c ∧ c.origin = .zone
    (4 < goal → now ≠ .starting → exec (.setState [x]) s = .next (settle s (s.answered 16 [4]))) ∧
    (now = .starting → exec (.setState [x]) s = .next (settle s (s.answered 16 [5]))) ∧
    (goal ≤ 4 → now ≠ .starting → ¬(now = .inService ∧ (goal = 2 ∨ goal = 3)) → ¬(now = .test ∧ goal = 1) →
      ¬(now = .outOfService ∧ goal = 1) → exec (.setState [x]) s = .next (settle s (s.answered 16 [5]))) ∧
    (now = .inService → goal = 3 → ¬justNow → refused) ∧
    (now = .inService → goal = 3 → s.orders ≠ [] → justNow →
      refused ∨ Gives (.setState [x]) s (changed .outOfService)) ∧
    (∀ new ∈ [Protection.inService, .test, .outOfService],
      (now = .inService ∧ goal = 2 ∧ new = .test) ∨ (now = .inService ∧ goal = 3 ∧ s.orders = [] ∧ new = .outOfService) ∨
        (now = .test ∧ goal = 1 ∧ new = .inService) ∨ (now = .outOfService ∧ goal = 1 ∧ new = .inService) →
      Gives (.setState [x]) s (changed new))

/-! ## Light front end and supervision -/

/-- The instants of sampling (R4) and what a sample does outside detection. LIGHT_SAMPLE comes 100 µs after the last
one, whose instant EveryZoneStaysJudged keeps a multiple of 100 µs (at the restart the first,
notes/assumptions/11.md), unless a step of the front end is owed before it (the model's choice,
notes/assumptions/12.md). An UNUSED channel's record does not change; a channel in OUT or SUSPENDED takes its last
value alone; a burst takes the raw reading as its next return (R29), a capture the pulses of its bursts, the first
from the first sample taken after the request (R37; notes/assumptions/43.md). Beside the channels and the background
interval, only the decision path may change. A sample that changes no channel's light flag, and no simulated light
that counts, leaves the decision path as it was, but for one STEADY_LIGHT notice for each channel that enters
STEADY, in the order in which the channels are taken (R11, R12). Instants let pass are skipped, the model's choice,
notes/assumptions/13.md. -/
def Obligations.LightSamplesAreTaken : Prop :=
  (∀ (s : State) (raw : List Nat), s.powered = true →
     (s.lightOwes = true → exec (.lightSample raw) s = .next (settle s s)) ∧
     (s.lightOwes = false → s.light.channels.length = 16 →
       Gives (.lightSample raw) s fun t =>
         (∀ u ∈ s.light.lastSample, 1200 ∣ u → s.clock ≤ u + 1200 → t.clock = u + 1200) ∧
         (s.light.lastSample = none → s.clock = 0 → t.clock = 0) ∧
         t.light.lastSample = some t.clock ∧ t.light.interval = s.light.interval + 1 ∧ t.light.channels.length = 16 ∧
         t.apart = { s.advanceTo t.clock with light := t.light }.apart ∧
         ∀ n ∈ upTo 16,
           let c := s.channel n
           let r := min 4095 (item raw 0 n)
           (s.usedChannel n = false → t.channel n = c) ∧
           (s.usedChannel n = true → c.capture = none → c.burst = none → (c.detection = .out ∨ c.detection = .suspended) →
             t.channel n = { c with lastValue := min 4095 (r * c.gain / 256) }) ∧
           (s.usedChannel n = true → c.capture = none → ∀ b ∈ c.burst,
             t.channel n = { c with burst := some { pulses := b.pulses + 1, sum := b.sum + r } }) ∧
           (s.usedChannel n = true → ∀ k ∈ c.capture,
             (4 ≤ k.pulses → t.channel n = { c with
               capture := some { k with begun := max 1 k.begun, samples := k.samples + 1 } }) ∧
             (k.pulses < 3 → t.channel n = { c with
               capture := some { k with
                 begun := max 1 k.begun, samples := k.samples + 1, pulses := k.pulses + 1, sum := k.sum + r } }) ∧
             (k.pulses = 3 → t.channel n = { c with
               capture := some { k with
                 begun := max 1 k.begun, samples := k.samples + 1, pulses := 4, sum := k.sum + r
                 means := k.means + (k.sum + r) / 4 } })))) ∧
  ∀ (s : State) (raw : List Nat), s.powered = true → s.lightOwes = false → s.light.channels.length = 16 →
    Gives (.lightSample raw) s fun t =>
      (∀ n ∈ upTo 16, t.lightFlag n = s.lightFlag n ∧ t.simulatedLight n = s.simulatedLight n) →
        t.zones = s.zones ∧ t.orders = s.orders ∧ t.outputs = s.outputs ∧ t.lockout = s.lockout ∧
        t.records = s.records ∧ t.store = s.store ∧
        t.notices = (((inOrder s.sched.channels 16).filter fun n =>
            (s.channel n).detection != .steady && (t.channel n).detection == .steady).map fun n =>
              ({ kind := .steadyLight, subject := n, value := (t.channel n).lastValue, time := t.partTime } : Notice)).foldl
            enqueue s.notices

/-- An evaluated sample: compensation (R5), threshold and drop level (R6), and the transitions of R8 to R11 with their
counts, beside the background interval's tally (R14). -/
def Obligations.LightSampleQualifies : Prop :=
  ∀ (s : State) (raw : List Nat) (n : Index), s.powered = true → s.lightOwes = false → s.light.channels.length = 16 →
    n ∈ upTo 16 → s.usedChannel n = true → (s.channel n).capture = none → (s.channel n).burst = none →
    (s.channel n).detection ∈ [Detection.dark, .pickup, .lit, .steady] →
    let c := s.channel n
    let k := s.channelSet n
    let l := min 4095 (min 4095 (item raw 0 n) * c.gain / 256)
    let θ := min 4000 (max k.pickup (c.background + k.margin))
    let drops := if l < θ - θ / 8 then c.drops + 1 else 0
    let base : Channel := { c with
      lastValue := l, evaluated := c.evaluated + 1, evaluatedSum := c.evaluatedSum + l
      touchedLight := c.touchedLight || c.detection != .dark || θ ≤ l }
    Gives (.lightSample raw) s fun t =>
      (c.detection = .dark → l < θ → t.channel n = { base with pickupCount := 0 }) ∧
      (c.detection = .dark → θ ≤ l → 1 < k.qualify →
        t.channel n = { base with detection := .pickup, pickupCount := 1 }) ∧
      (c.detection = .pickup → l < θ → t.channel n = { base with detection := .dark, pickupCount := 0 }) ∧
      (c.detection = .pickup → θ ≤ l → c.pickupCount + 1 < k.qualify →
        t.channel n = { base with pickupCount := c.pickupCount + 1 }) ∧
      ((c.detection = .dark ∧ θ ≤ l ∧ k.qualify ≤ 1) ∨
          (c.detection = .pickup ∧ θ ≤ l ∧ k.qualify ≤ c.pickupCount + 1) →
        t.channel n = { base with detection := .lit, pickupCount := 0, drops := 0, litSince := some t.partTime }) ∧
      ((c.detection = .lit ∨ c.detection = .steady) → 10 ≤ drops →
        t.channel n = { base with detection := .dark, pickupCount := 0, drops := 0, litSince := none }) ∧
      ((c.detection = .lit ∨ c.detection = .steady) → drops < 10 →
        let long := ∃ u ∈ c.litSince, 2000 ≤ (t.partTime + 4294967296 - u) % 4294967296
        (c.detection = .steady ∨ long → t.channel n = { base with detection := .steady, drops }) ∧
        (c.detection = .lit ∧ ¬long → t.channel n = { base with detection := .lit, drops }))

/-- BACKGROUND_UPDATE at the end of an interval (R14, R15): a used channel in DARK at its end, with at least 50
evaluated samples, none of them in an episode or at or above θ, moves its background towards their mean by a
sixteenth of the distance, at least 1; every other channel's is frozen. The next interval's tallies start at 0, and
nothing else changes. The step of R15 moves the background towards the mean and never past it, and takes R15's three
worked values. -/
def Obligations.BackgroundUpdates : Prop :=
  (∀ s : State, s.powered = true →
     (s.light.interval ≠ 100 → exec .backgroundUpdate s = .next (settle s s)) ∧
     (s.light.interval = 100 → exec .backgroundUpdate s = .next (settle s { s with
       light := { s.light with
         interval := 0
         channels := (upTo 16).map fun n =>
           let c := s.channel n
           let mean := c.evaluatedSum / c.evaluated
           { c with
             background :=
               if s.usedChannel n = true ∧ c.detection = .dark ∧ c.touchedLight = false ∧ 50 ≤ c.evaluated then
                 if c.background < mean then c.background + max 1 ((mean - c.background) / 16)
                 else if mean < c.background then c.background - max 1 ((c.background - mean) / 16)
                 else c.background
               else c.background
             evaluated := 0, evaluatedSum := 0, touchedLight := false } } }))) ∧
  (∀ b m : Nat,
     (b < m → b < backgroundStep b m ∧ backgroundStep b m ≤ m) ∧ (m < b → m ≤ backgroundStep b m ∧ backgroundStep b m < b) ∧
       (b = m → backgroundStep b m = b)) ∧
  backgroundStep 300 364 = 304 ∧ backgroundStep 304 305 = 305 ∧ backgroundStep 305 250 = 302

/-- SUPERVISION_SLOT comes at the first sample instant at which the channel's offset within the second has been reached
in a second other than its slot mark's (R27): no sample instant before it has the slot. It acts by the detection
state (R28). An UNUSED channel has no slot; a step of the front end that is owed comes first (the model's choice,
notes/assumptions/12.md). -/
def Obligations.SupervisionSlotsAct : Prop :=
  (∀ (s : State) (n : Index), s.powered = true → s.usedChannel n = false ∨ s.lightOwes = true →
    exec (.supervisionSlot n) s = .next (settle s s)) ∧
  (∀ (s : State) (n : Index), s.powered = true → s.lightOwes = false → n ∈ upTo 16 → s.usedChannel n = true →
     let u := s.toSlot n
     ((n - 1) * 125 + 1) / 2 ≤ u.partTime % 1000 → (s.channel n).slotMark ≠ some (u.partTime / 1000) →
     let c := s.channel n
     let marked : Channel := { c with slotMark := some (u.partTime / 1000) }
     (c.detection ∈ [Detection.dark, .out, .suspended] → c.burst = none →
       exec (.supervisionSlot n) s = .next (settle s (u.setChannel n { marked with burst := some { pulses := 0, sum := 0 } }))) ∧
     (c.detection ∈ [Detection.dark, .out, .suspended] → c.burst ≠ none →
       exec (.supervisionSlot n) s = .next (settle s (u.setChannel n marked))) ∧
     (c.detection ∈ [Detection.pickup, .lit, .steady] →
       exec (.supervisionSlot n) s = .next (settle s (u.setChannel n { marked with skipped := min 65535 (c.skipped + 1) }))) ∧
     (c.detection = .referencing → exec (.supervisionSlot n) s = .next (settle s (u.setChannel n marked)))) ∧
  ∀ (s : State) (n : Index) (k : Nat), s.partTime < 4294967296 → s.msPhase < 12000 →
    (s.toSlot n).slotComes n = true → s.nextLight ≤ 1200 * k → 1200 * k < (s.toSlot n).clock →
    (s.advanceTo (1200 * k)).slotComes n = false

/-- BURST_END after the fourth return: the class (R31), its counter, the gain (R32), strikes and pass run (R33) and the
health (R34), with SUSPENDED entered or left (R16) and one CHANNEL_HEALTH notice at a change. Before the fourth
return, or without a burst, nothing happens. -/
def Obligations.BurstEndClassifies : Prop :=
  ∀ (s : State) (n : Index), s.powered = true →
    ((s.channel n).burst.all (fun b => b.pulses != 4) = true → exec (.burstEnd n) s = .next (settle s s)) ∧
    ∀ b ∈ (s.channel n).burst, b.pulses = 4 → n ∈ upTo 16 → s.light.channels.length = 16 →
      let c := s.channel n
      let k := s.channelSet n
      let ret := b.sum / 4
      let r : BurstResult :=
        if ret < 16 then .failBroken
        else if (if k.kind = .point then 2 * ret < k.reference else 4 * ret < k.reference) then .failDim
        else .pass
      let kind : StrikeKind := if r = .pass then .none else if r = .failDim then .dim else .broken
      let count := if r = .pass then 0 else if c.strikeKind = kind then min 3 (c.strikeCount + 1) else 1
      let run := if r = .pass then min 3 (c.passRun + 1) else 0
      let health : Health :=
        if count = 3 ∧ kind = .dim then .dim else if count = 3 ∧ kind = .broken then .broken
        else if run = 3 then .good else c.health
      let ended : Channel := { c with
        burst := none, lastReturn := some ret, lastResult := some r, lastBurst := some s.partTime
        strikeKind := kind, strikeCount := count, passRun := run
        passes := if r = .pass then min 65535 (c.passes + 1) else c.passes
        dimFails := if r = .failDim then min 65535 (c.dimFails + 1) else c.dimFails
        brokenFails := if r = .failBroken then min 65535 (c.brokenFails + 1) else c.brokenFails
        gain :=
          if r = .failBroken then c.gain
          else max 256 (min (if k.kind = .point then 512 else 1024) (256 * k.reference / ret)) }
      (health = c.health → exec (.burstEnd n) s = .next (settle s (s.setChannel n ended))) ∧
      (health ≠ c.health → Gives (.burstEnd n) s fun t =>
        t.apart = (s.setChannel n
          (if health = .broken ∧ c.detection = .dark then
            { ended with health, detection := .suspended, pickupCount := 0, drops := 0 }
          else if health ≠ .broken ∧ c.detection = .suspended then { ended with health, detection := .dark }
          else { ended with health })).apart ∧
        Posted s [{ kind := .channelHealth, subject := n, value := health.code, time := s.partTime }] t ∧
        (c.simulated = false → t.zones = s.zones ∧ t.orders = s.orders ∧ t.outputs = s.outputs ∧ t.lockout = s.lockout ∧
          t.records = s.records))

/-- A capture's bursts and its end (R19, R37, R38): capture burst k begins 100 sample instants after burst k − 1; 1600
sample instants after the first the candidate, the mean of the sixteen means, is written to the pending T_ref and
the captured reference with REFERENCE_DONE if it lies within 256 to 4000, and announced with REFERENCE_FAILED
otherwise; the channel returns to OUT. -/
def Obligations.CaptureRuns : Prop :=
  ∀ (s : State) (n : Index), s.powered = true → n ∈ upTo 16 → s.light.channels.length = 16 →
    let u := s.advanceTo s.nextLight
    let c := s.channel n
    (c.capture = none → exec (.captureBurstStart n) s = .next (settle s s) ∧ exec (.captureEnd n) s = .next (settle s s)) ∧
    ∀ k ∈ c.capture,
      (1 ≤ k.begun ∧ k.begun < 16 ∧ k.samples = 100 * k.begun →
        exec (.captureBurstStart n) s = .next (settle s (u.setChannel n
          { c with capture := some { k with begun := k.begun + 1, pulses := 0, sum := 0 } }))) ∧
      (¬(1 ≤ k.begun ∧ k.begun < 16 ∧ k.samples = 100 * k.begun) →
        exec (.captureBurstStart n) s = .next (settle s s)) ∧
      (k.samples ≠ 1600 → exec (.captureEnd n) s = .next (settle s s)) ∧
      (k.samples = 1600 → k.means ≤ 65520 →
        let candidate := k.means / 16
        let ended : Channel := { c with capture := none, detection := .out }
        (256 ≤ candidate ∧ candidate ≤ 4000 →
          exec (.captureEnd n) s = .next (settle s
            { (u.setChannel n { ended with captured := some candidate }).post .referenceDone n candidate with
              settings := { s.settings with
                pending := { s.settings.pending with
                  channels := put s.settings.pending.channels n
                    { item s.settings.pending.channels .factory n with reference := candidate } } } })) ∧
        (¬(256 ≤ candidate ∧ candidate ≤ 4000) →
          exec (.captureEnd n) s = .next (settle s ((u.setChannel n ended).post .referenceFailed n candidate))))

/-! ## Current front end -/

/-- CURRENT_SAMPLE: the instants of R43, the magnitudes of R44, the levels of R45 and R49, pickup and armed marks (R46),
OC and its counter (R47), CP and the quiet count (R49), and, where no order comes or goes, the incident peak (R50).
The hold of an OC is judged here: its episode's hold time, the one in force when OC set (R53), has elapsed since the
last qualifying instant with every phase below P (R47); with no such instant it is taken as run, the model's choice,
notes/assumptions/39.md. A clearing owed at the last instant comes first (the model's choice,
notes/assumptions/12.md). Beside the front end only the decision path may change. The first instant is the restart,
the model's reading, notes/assumptions/11.md. -/
def Obligations.CurrentSampleIsTaken : Prop :=
  ∀ (s : State) (samples : List Int), s.powered = true →
    (s.currentOwes = true → exec (.currentSample samples) s = .next (settle s s)) ∧
    (s.currentOwes = false →
      Gives (.currentSample samples) s fun t =>
        (s.clock ≤ s.current.next → t.clock = s.current.next) ∧ t.current.last = some t.clock ∧
        t.current.next = t.clock +
          (match s.settings.active.station.frequency with
            | .hz50 => 7500
            | .hz60 => 6250) ∧
        t.apart = { s.advanceTo t.clock with current := t.current }.apart ∧
        ∀ m ∈ upTo 4,
          let p := s.point m
          let k := s.pointSet m
          let level := k.pickup * 4096 / 10
          let m1 := min 32767 (item samples 0 (3 * m - 2)).natAbs
          let m2 := min 32767 (item samples 0 (3 * m - 1)).natAbs
          let m3 := min 32767 (item samples 0 (3 * m)).natAbs
          let picks : Bool := (p.armed.getD 0 false && level ≤ m1) || (p.armed.getD 1 false && level ≤ m2) ||
            (p.armed.getD 2 false && level ≤ m3)
          let reaches : Bool := level ≤ m1 || level ≤ m2 || level ≤ m3
          let carries : Bool := k.present * 4096 / 10 ≤ m1 || k.present * 4096 / 10 ≤ m2 || k.present * 4096 / 10 ≤ m3
          p.armed.length ≤ 3 →
          { t.point m with peak := none } = { p with
            magnitudes := [m1, m2, m3], armed := [decide (level ≤ m1), decide (level ≤ m2), decide (level ≤ m3)]
            lastQualifying := if reaches then some t.clock else p.lastQualifying
            oc := p.oc || picks, pickups := if picks && !p.oc then min 65535 (p.pickups + 1) else p.pickups
            cp := p.cp || carries
            quiet := if carries then 0 else if p.cp then min 32 (p.quiet + 1) else p.quiet
            episodeHold := if picks && !p.oc then k.hold else p.episodeHold
            holdOver := p.oc && !reaches && p.lastQualifying.all fun u => u + p.episodeHold * Config.ms ≤ t.clock
            peak := none } ∧
          ((∀ q ∈ upTo 8, 0 < (s.positionSet q).minPulse) →
            (t.orders.map fun o => (o.position, o.startedAt)) = (s.orders.map fun o => (o.position, o.startedAt)) →
            (t.point m).peak = p.peak.map fun x => max (max (max x m1) m2) m3))

/-- OC_HOLD_EXPIRY clears OC at a current sample instant that found its hold run, as CURRENT_SAMPLE judges it (R47), and
CP_CLEAR clears CP, with the quiet count, when that has reached 32 (R49). Otherwise neither does anything. Beside
the flag only the decision path may change: not at all for an OC that confirms no zone, and nothing but the order of
the attached position for a CP (R48, R62), which is judged by the evidence (R107, R109) as OrderTimersRun says of
that judgement. -/
def Obligations.CurrentFlagsClear : Prop :=
  ∀ (s : State) (m : Index), s.powered = true → m ∈ upTo 4 → s.current.points.length = 4 →
    let p := s.point m
    let k := s.pointSet m
    let run := p.oc = true ∧ p.holdOver = true
    let cleared := s.setPoint m { p with oc := false, holdOver := false }
    let quieted := s.setPoint m { p with cp := false, quiet := 0 }
    (run → Gives (.ocHoldExpiry m) s fun t => t.apart = cleared.apart) ∧
    (run → (∀ z ∈ upTo 8, m ∉ (s.zone z).confirmation) → exec (.ocHoldExpiry m) s = .next (settle s cleared)) ∧
    (¬run → exec (.ocHoldExpiry m) s = .next (settle s s)) ∧
    (p.cp = true → p.quiet = 32 → k.attached = none → exec (.cpClear m) s = .next (settle s quieted)) ∧
    (p.cp = true → p.quiet = 32 → ∀ q ∈ k.attached,
      exec (.cpClear m) s = .next (settle s (quieted.judgeOrder q))) ∧
    (¬(p.cp = true ∧ p.quiet = 32) → exec (.cpClear m) s = .next (settle s s))

/-! ## Positions and sets -/

/-- CONTACT_RAW_CHANGE starts the input's 4 ms timer, or stops it when the raw state is again as taken (R56), and
changes nothing else. DISCREPANCY_EXPIRY: a position in TRAVEL for its discrepancy time becomes INVALID, with a
change's effects (R58, R59); outside TRAVEL nothing happens. That POSITION_CHANGE comes before the notices of other
blocks is the model's choice, notes/assumptions/24.md. -/
def Obligations.ContactTimersRun : Prop :=
  (∀ (s : State) (p : Index) (on : Bool), s.powered = true → p ∈ upTo 8 → s.positions.length = 8 →
     let q := s.position p
     (on ≠ q.cl.raw → exec (.contactRawChange p .cl on) s = .next (settle s (s.setPosition p { q with
       cl := { q.cl with raw := on, timer := if on = q.cl.taken then none else some (s.clock + 48000) } }))) ∧
     (on = q.cl.raw → exec (.contactRawChange p .cl on) s = .next (settle s s)) ∧
     (on ≠ q.op.raw → exec (.contactRawChange p .op on) s = .next (settle s (s.setPosition p { q with
       op := { q.op with raw := on, timer := if on = q.op.taken then none else some (s.clock + 48000) } }))) ∧
     (on = q.op.raw → exec (.contactRawChange p .op on) s = .next (settle s s))) ∧
  ∀ (s : State) (p : Index), s.powered = true → p ∈ upTo 8 → s.positions.length = 8 →
    let q := s.position p
    (q.derived ≠ .travel → exec (.discrepancyExpiry p) s = .next (settle s s)) ∧
    (q.derived = .travel → s.usedPosition p = true → (s.positionSet p).wired = true → q.cl.taken = false →
      q.op.taken = false → ∀ v ∈ q.travelStart,
      let u := s.advanceTo (v + (s.positionSet p).discrepancy * Config.ms)
      Gives (.discrepancyExpiry p) s fun t =>
        t.apart = (u.setPosition p { q with
          derived := .invalid, expired := true, travelStart := none, changedAt := u.partTime
          changes := min 65535 (q.changes + 1) }).apart ∧
        Posted s [{ kind := .positionChange, subject := p, value := 3, time := u.partTime }] t)

/-- DEBOUNCE_EXPIRY: the taken state takes the raw state and the position is derived by the table of R57. A change is
stamped, counted and posted before any other notice; TRAVEL starts at this instant (R58, R59). Without a running
timer nothing happens. Beside the position only the decision path may change. That POSITION_CHANGE comes before the
notices of other blocks is the model's choice, notes/assumptions/24.md. -/
def Obligations.DebounceDerives : Prop :=
  ∀ (s : State) (p : Index) (c : Contact), s.powered = true → p ∈ upTo 8 → s.positions.length = 8 →
    let q := s.position p
    ((q.contact c).timer = none → exec (.debounceExpiry p c) s = .next (settle s s)) ∧
    ∀ d ∈ (q.contact c).timer,
      let u := s.advanceTo d
      let cl := if c = .cl then q.cl.raw else q.cl.taken
      let op := if c = .op then q.op.raw else q.op.taken
      let used : Prop := s.usedPosition p = true ∧ (s.positionSet p).wired = true
      let expired : Bool := q.expired && decide used && !cl && !op
      let new : Derived :=
        if ¬used then .none else if cl && op then .invalid else if cl then .closed else if op then .opened
        else if expired then .invalid else .travel
      let r : Position := { q.setContact c { (q.contact c) with taken := (q.contact c).raw, timer := none } with
        expired, derived := new
        travelStart :=
          if new = .travel then (if q.derived = .travel then q.travelStart else some u.clock) else none }
      (new = q.derived → exec (.debounceExpiry p c) s = .next (settle s (u.setPosition p r))) ∧
      (new ≠ q.derived → Gives (.debounceExpiry p c) s fun t =>
        t.apart = (u.setPosition p { r with changedAt := u.partTime, changes := min 65535 (q.changes + 1) }).apart ∧
        Posted s [{ kind := .positionChange, subject := p, value := new.code, time := u.partTime }] t)

/-- The clearing set of a zone is exact (R67): a position belongs to it exactly if it is used, conducts, joins the zone
to another node, and a present source is reached from that node along conducting positions without entering the
zone. -/
def Obligations.ClearingSetIsExact : Prop :=
  ∀ (s : State) (z p : Index), z ∈ upTo 8 →
    (p ∈ s.clearingSet z ↔
      p ∈ s.conductors ∧ ∃ f : Node, f ≠ .zone z ∧
        (((s.positionSet p).nodeA = .zone z ∧ (s.positionSet p).nodeB = f) ∨
          ((s.positionSet p).nodeB = .zone z ∧ (s.positionSet p).nodeA = f)) ∧
        s.settings.active.topology.feeds s.conductors (.zone z) f)

/-- For topology, every derived position but OPEN conducts, of the used positions alone, and no clearing set holds an
OPEN position (R61). A position is cleared exactly if it is used, OPEN or NONE, and no point attached to it has CP
set; it is unsupervised exactly if it is used, NONE, and no point is attached to it (R62). That both points count
where two are attached is DEDUCED, notes/assumptions/19.md. -/
def Obligations.ConductionAndEvidence : Prop :=
  (∀ (s : State) (z p : Index), z ∈ upTo 8 → p ∈ s.clearingSet z → (s.position p).derived ≠ .opened) ∧
  (∀ (s : State) (p : Index), p ∈ upTo 8 →
     (p ∈ s.conductors ↔ s.usedPosition p = true ∧ (s.position p).derived ≠ .opened)) ∧
  ∀ (s : State) (p : Index),
    (s.cleared p = true ↔ s.usedPosition p = true ∧ ((s.position p).derived = .opened ∨ (s.position p).derived = .none) ∧
      ∀ m ∈ upTo 4, (s.pointSet m).attached = some p → (s.point m).cp = false) ∧
    (s.unsupervised p = true ↔ s.usedPosition p = true ∧ (s.position p).derived = .none ∧
      ∀ m ∈ upTo 4, (s.pointSet m).attached ≠ some p)

/-! ## Zones -/

/-- The trip condition is that of R88's table, from the mode, the fallback, the availability and the readings. So it is
not DRY where each dry reading equals its real one, and implies dry light where real light does. -/
def Obligations.TripConditionFollowsItsTable : Prop :=
  ∀ (mode : ZoneMode) (fallback : Fallback) (unavailable realLight dryLight realCurrent dryCurrent : Bool),
    let c := conditionOf mode fallback unavailable realLight dryLight realCurrent dryCurrent
    let byLight := mode = .lightOnly ∨ (mode = .checked ∧ unavailable = true ∧ fallback = .lightOnly)
    let byBoth := mode = .checked ∧ unavailable = false
    (c = .live ↔ (byLight ∧ realLight = true) ∨ (byBoth ∧ realLight = true ∧ realCurrent = true)) ∧
    (c = .dry ↔ c ≠ .live ∧ ((byLight ∧ dryLight = true) ∨ (byBoth ∧ dryLight = true ∧ dryCurrent = true))) ∧
    (realLight = dryLight → realCurrent = dryCurrent → c ≠ .dry) ∧ ((realLight = true → dryLight = true) → c ≠ .none → dryLight = true)

/-- The readings an evaluation takes (R86, R87): real light from lit members and imported link zones of usable peers;
real current from the OC of the confirmation set's points and imported link currents of their usable owners; the dry
readings add, in TEST alone, simulated light that counts and simulated OC; unavailable with neither a point nor a
usable owner. The target is that of R89, with its alert reason. -/
def Obligations.ReadingsAndTargetFollowTheirRules : Prop :=
  ∀ (s : State) (z : Index),
    let k := s.zoneSet z
    let q := s.readings z
    let usable := fun p : Peer => p.state = .live ∧ (p.reported = some .inService ∨ p.reported = some .test)
    let owner := fun i => item s.settings.active.link.owners none i
    (q.realLight = true ↔ (∃ n ∈ k.members, (s.channel n).detection = .lit ∨ (s.channel n).detection = .steady) ∨
      ∃ i ∈ k.importZones, ∃ p ∈ s.link.peers, usable p ∧ i ∈ p.light) ∧
    (q.dryLight = true ↔ q.realLight = true ∨ (s.control.state = .test ∧ ∃ n ∈ k.members,
      (s.channel n).simulated = true ∧ (s.channel n).detection ∈ [Detection.dark, .pickup, .lit, .steady])) ∧
    (q.realCurrent = true ↔ (∃ m ∈ (s.zone z).confirmation, (s.point m).oc = true) ∨
      ∃ i ∈ k.importCurrents, ∃ p ∈ s.link.peers, owner i = some p.unit ∧ usable p ∧ i ∈ p.current) ∧
    (q.dryCurrent = true ↔ q.realCurrent = true ∨
      (s.control.state = .test ∧ ∃ m ∈ (s.zone z).confirmation, (s.point m).simulated = true)) ∧
    (q.unavailable = true ↔ (s.zone z).confirmation = [] ∧
      ∀ i ∈ k.importCurrents, ∀ p ∈ s.link.peers, owner i = some p.unit → ¬usable p) ∧
    q.condition = conditionOf k.mode k.fallback q.unavailable q.realLight q.dryLight q.realCurrent q.dryCurrent ∧
    s.target z q =
      if q.condition = .live ∧ s.control.state ≠ .outOfService then .tripped .live
      else if q.condition = .dry ∧ s.control.state ≠ .outOfService then .tripped .dry
      else if q.condition ≠ .none then .alert .heldOutOfService
      else if q.dryLight = false then .quiet
      else .alert
        (if k.mode = .blocked then .zoneBlocked
        else if q.unavailable = true ∧ k.fallback = .hold then .currentUnavailable
        else .noCurrent)

/-- One evaluation of a used zone, where zones are evaluated, ends with the zone at its target (R90, R91): TRIPPED and
ALERT are entered, kept and left with the mark, the reason, the attribute, the remote requests, the counter and the
time of R92 to R95. No other zone changes, and no zone's sets. That remote requests are held with an empty list too
is the model's reading, notes/assumptions/34.md. -/
def Obligations.EvaluationReachesItsTarget : Prop :=
  ∀ (s : State) (z : Index) (entered : List Index), z ∈ upTo 8 → s.zones.length = 8 → s.usedZone z = true →
    s.control.state.evaluates = true →
    let t := s.evaluate z entered
    let q := s.readings z
    (∀ y ∈ upTo 8, y ≠ z → t.zone y = s.zone y) ∧
      t.zone z =
        match s.target z q with
        | .quiet =>
          if q.state = .quiet then q
          else { q with
            state := .quiet, attr := none, remoteHeld := false, alertReason := none, alertMark := false
            since := s.partTime }
        | .alert r =>
          if q.state = .alert then { q with alertReason := some r }
          else { q with
            state := .alert, attr := none, remoteHeld := false, alertReason := some r, alertMark := true
            since := s.partTime }
        | .tripped a =>
          if q.state = .tripped then
            if q.attr = some a then q else { q with attr := some a, remoteHeld := a == .live, since := s.partTime }
          else { q with
            state := .tripped, attr := some a, remoteHeld := a == .live, alertReason := none
            trips := min 65535 (q.trips + 1), since := s.partTime }

/-- What an evaluation posts and requests (R92 to R94): ZONE_ALERT once an episode; ZONE_TRIP at each entry into TRIPPED
and each upgrade, with one request for each position of the clearing set in ascending order, or NO_SOURCE when there
is neither a clearing set nor a remote entry; no request at a downgrade; one request for each position that entered
the clearing set of a zone that stays TRIPPED. That an upgrade with a growth makes both requests is the model's
reading, notes/assumptions/21.md. -/
def Obligations.EvaluationPostsAndRequests : Prop :=
  ∀ (s : State) (z : Index) (entered : List Index), s.usedZone z = true → s.control.state.evaluates = true →
    z ∈ upTo 8 → s.zones.length = 8 →
    let q := s.readings z
    let t := s.evaluate z entered
    let bare := (s.zone z).clearing.isEmpty && (s.zoneSet z).remoteList.all fun e => e.isNone
    let asked := fun (a : Attribute) (l : List Index) (u : State) => l.foldl (fun v p => v.requestOrder p ⟨.zone, z⟩ a) u
    let tripping := fun a : Attribute =>
      let u : State := { s with
        zones := (s.evaluate z []).zones
        notices := enqueue s.notices { kind := .zoneTrip, subject := z, value := a.code, time := s.partTime } }
      if bare then u.post .noSource z a.code else asked a (s.zone z).clearing u
    t =
      match s.target z q with
      | .quiet => { s with zones := t.zones }
      | .alert r => { s with
          zones := t.zones
          notices :=
            if q.state = .alert ∨ q.alertMark = true then s.notices
            else enqueue s.notices { kind := .zoneAlert, subject := z, value := r.code, time := s.partTime } }
      | .tripped a =>
        if q.state ≠ .tripped then tripping a
        else if q.attr = some a ∨ a = .dry then asked a entered { s with zones := (s.evaluate z []).zones }
        else asked a entered (tripping a)

/-! ## Orders, outputs, lockout and the trip record -/

/-- A request for a position without an order creates one (R103): at the end of the list, with the fields of R103; a
LIVE one energises its output and sets its lockout (R120, R121); a supervised one whose position is cleared is
CONFIRMED at once (R107). In an empty list it opens a record, otherwise it gets an entry of the OPEN one, or is
counted as lost after twelve (R143, R144). No notice is posted. -/
def Obligations.RequestCreatesAnOrder : Prop :=
  ∀ (s : State) (p : Index) (c : Cause) (a : Attribute), p ∈ upTo 8 → s.orderAt p = none →
    0 < (s.positionSet p).minPulse →
    (∀ r ∈ s.records, r.state = .opened → ∀ e ∈ r.entries, e.position = p → e.released.isSome) →
    let t := s.requestOrder p c a
    let atOnce : Bool := !s.unsupervised p && s.cleared p
    let entry := fun created => ({
      position := p, cause := c, live := a == .live, stage := if atOnce then .confirmed else .driving, created
      confirmed := if atOnce then some created else none, released := none } : Entry)
    t.orders = s.orders ++ [{
      position := p, attr := a, stage := if atOnce then .confirmed else .driving, causes := [c], further := 0
      testOnly := c.origin == .test, startedAt := s.clock
      deadline := s.clock + (s.positionSet p).failTime * Config.ms, supervised := !s.unsupervised p, escalated := none
      remoteHeld := false }] ∧
    t.outputs = (if a = .live then withMember 8 s.outputs p else s.outputs) ∧
    t.lockout = (if a = .live ∧ p ∉ s.lockout then withMember 8 s.lockout p else s.lockout) ∧
    t.store.waitLockout = (s.store.waitLockout || (a == .live && !s.lockout.contains p)) ∧
    t.notices = s.notices ∧ t.zones = s.zones ∧ t.apart = s.apart ∧
    (s.orders ≠ [] → t.nextRecord = s.nextRecord ∧ t.current = s.current ∧
      let offset := min 65535 ((s.clock - s.incidentStart) / 1200)
      t.records = s.records.map fun r =>
        if r.state ≠ .opened then r
        else if r.entries.length < 12 then
          { r with kind := if a = .live then .live else r.kind, entries := r.entries ++ [entry offset] }
        else { r with kind := if a = .live then .live else r.kind, lost := min 65535 (r.lost + 1) }) ∧
    (s.orders = [] → (∀ r ∈ s.records, r.state ≠ .opened) →
      t.nextRecord = (if 65535 ≤ s.nextRecord then 1 else s.nextRecord + 1) ∧ t.incidentStart = s.clock ∧
      (∀ m ∈ upTo 4, s.current.points.length = 4 →
        (t.point m).peak = some ((s.point m).magnitudes.foldl max 0)) ∧
      t.records = (if s.records.length < 16 then s.records else s.records.drop 1) ++ [{
        number := s.nextRecord, kind := a, state := .opened, openedAt := s.partTime, cause := c
        light := (upTo 16).filter s.lightFlag, zones := (upTo 8).filter fun z => (s.zone z).state == .tripped
        peaks := none, entries := [entry 0], lost := 0
        olderLost := 16 ≤ s.records.length && (s.records.take 1).any fun r => r.state == .unread
        written := false
        replaces := if s.records.length < 16 then none
          else ((s.records.take 1).find? fun r => r.kind == .live).map fun r => r.number }])

/-- A request for a position that holds an order adds its cause (R104): appended up to four, counted after that; a cause
that is not TEST makes test only no. Of the four cases of attributes, only a LIVE request that meets a DRY order
does more: it upgrades it (R105), with fresh timers, its output energised, its lockout set and its entry LIVE. -/
def Obligations.RequestMergesOrUpgrades : Prop :=
  ∀ (s : State) (c : Cause) (a : Attribute), s.oneOrderEach → ∀ o ∈ s.orders, o.position ∈ upTo 8 →
    0 < (s.positionSet o.position).minPulse →
    let p := o.position
    let t := s.requestOrder p c a
    let joined : Order := { o with
      causes := if o.causes.length < 4 then o.causes ++ [c] else o.causes
      further := if o.causes.length < 4 then o.further else min 65535 (o.further + 1)
      testOnly := o.testOnly && c.origin == .test }
    let put := fun q : Order => s.orders.map fun r => if r.position = p then q else r
    (¬(o.attr = .dry ∧ a = .live) → t = { s with orders := put joined }) ∧
    (o.attr = .dry → a = .live →
      let atOnce : Bool := !s.unsupervised p && s.cleared p
      t.orders = put { joined with
        attr := .live, stage := if atOnce then .confirmed else .driving, startedAt := s.clock
        deadline := s.clock + (s.positionSet p).failTime * Config.ms, escalated := none
        supervised := !s.unsupervised p } ∧
      t.outputs = withMember 8 s.outputs p ∧
      t.lockout = (if p ∈ s.lockout then s.lockout else withMember 8 s.lockout p) ∧
      t.notices = s.notices ∧ t.zones = s.zones ∧ t.apart = s.apart ∧
      let offset := min 65535 ((s.clock - s.incidentStart) / 1200)
      t.records = s.records.map fun r =>
        if r.state ≠ .opened then r
        else { r with
          kind := .live
          entries := r.entries.map fun e =>
            if e.position = p ∧ e.released = none then { e with
              live := true, stage := if atOnce then .confirmed else .driving
              confirmed := if atOnce then some offset else none }
            else e })

/-- A release (R108): the order leaves the list, its output is de-energised, its entry takes the released offset, and
the lockout stays. With the last order the OPEN record closes (R145): the peaks are handed to it, it becomes UNREAD,
RECORD_CLOSED is posted, a LIVE one's write is queued, and RECORDS_NEARLY_FULL follows where the unread LIVE records
are then fourteen. -/
def Obligations.ReleaseDeparts : Prop :=
  ∀ (s : State) (p : Index), p ∈ upTo 8 → s.outputs ⊆ upTo 8 →
    let t := s.release p
    let offset := min 65535 ((s.clock - s.incidentStart) / 1200)
    let left := s.orders.filter fun o => o.position != p
    let entries := fun r : TripRecord => r.entries.map fun e =>
      if e.position = p ∧ e.released = none then { e with released := some offset } else e
    let peaks := (upTo 4).map fun m => ((s.point m).peak).getD 0
    t.orders = left ∧ p ∉ t.outputs ∧ othersStand s.outputs t.outputs p ∧ t.lockout = s.lockout ∧ t.zones = s.zones ∧
    t.apart = s.apart ∧
    (left ≠ [] → t.notices = s.notices ∧ t.store = s.store ∧
      t.records = s.records.map fun r => if r.state = .opened then { r with entries := entries r } else r) ∧
    (left = [] → ∀ r ∈ s.records.find? (fun r => r.state == .opened),
      t.records = (s.records.map fun q =>
        if q.state = .opened then { q with entries := entries q, peaks := some peaks, state := .unread } else q) ∧
      (∀ m ∈ upTo 4, (t.point m).peak = none) ∧
      let closed := enqueue s.notices
        { kind := .recordClosed, subject := r.kind.code, value := r.number, time := s.partTime }
      t.notices =
        (if r.kind = .live ∧ (t.records.filter fun q => q.kind == .live && q.state == .unread).length = 14 then
          enqueue closed { kind := .recordsNearlyFull, subject := 0, value := 14, time := s.partTime }
        else closed) ∧
      t.store.waitRecords =
        (if r.kind = .live ∧ r.number ∉ s.store.waitRecords then s.store.waitRecords ++ [r.number]
        else s.store.waitRecords))

/-- MIN_PULSE_EXPIRY releases a CONFIRMED order when its minimum pulse has run; an unsupervised one in DRIVING or FAILED
is confirmed and released together (R108). A supervised order not yet confirmed goes on. DRIVE_TIMEOUT: a FAILED
order stalls 2000 ms after its start (R115): STALLED, its output de-energised, its entry STALLED, and one
DRIVE_TIMEOUT. It keeps its place and its remote flags; any other order is left as it is. An order judged by its
position's evidence, whatever brings the judgement: its supervised field follows the position (R109). A supervised
one in DRIVING, FAILED or STALLED whose position is cleared becomes CONFIRMED (R107), its entry takes the confirmed
offset and keeps a FAILED or STALLED stage (R144), and it is released at once where its minimum pulse has run
(R108). An unsupervised one is confirmed and released where its minimum pulse has run. That an order that has become
unsupervised is released from FAILED too is the model's reading, notes/assumptions/33.md. -/
def Obligations.OrderTimersRun : Prop :=
  (∀ (s : State) (p : Index), s.powered = true →
     (s.orderAt p = none → exec (.minPulseExpiry p) s = .next (settle s s)) ∧
     ∀ o ∈ s.orderAt p,
       let u := s.advanceTo (o.startedAt + (s.positionSet p).minPulse * Config.ms)
       let offset := min 65535 ((u.clock - s.incidentStart) / 1200)
       let confirmed : State := { u with
         orders := s.orders.map fun q => if q.position = p then { q with stage := .confirmed } else q
         records := s.records.map fun r =>
           if r.state ≠ .opened then r
           else { r with
             entries := r.entries.map fun e =>
               if e.position = p ∧ e.released = none then { e with
                 confirmed := some offset, stage := if e.stage = .driving then .confirmed else e.stage }
               else e } }
       (o.stage = .confirmed → exec (.minPulseExpiry p) s = .next (settle s (u.release p))) ∧
       (o.supervised = false → o.stage = .driving ∨ o.stage = .failed →
         exec (.minPulseExpiry p) s = .next (settle s (confirmed.release p))) ∧
       (o.stage = .stalled ∨ (o.supervised = true ∧ o.stage ≠ .confirmed) →
         exec (.minPulseExpiry p) s = .next (settle s s))) ∧
  (∀ (s : State) (p : Index), s.powered = true →
     (s.orderAt p = none → exec (.driveTimeout p) s = .next (settle s s)) ∧
     ∀ o ∈ s.orderAt p,
       (o.stage ≠ .failed → exec (.driveTimeout p) s = .next (settle s s)) ∧
       (o.stage = .failed →
         let u := s.advanceTo (o.startedAt + 2000 * Config.ms)
         exec (.driveTimeout p) s = .next (settle s (State.post { u with
           orders := s.orders.map fun q => if q.position = p then { q with stage := .stalled } else q
           outputs := withoutMember 8 s.outputs p
           records := s.records.map fun r =>
             if r.state ≠ .opened then r
             else { r with
               entries := r.entries.map fun e =>
                 if e.position = p ∧ e.released = none then { e with stage := .stalled } else e } }
           .driveTimeout p o.attr.code)))) ∧
  ∀ (s : State) (p : Index),
    (s.orderAt p = none → s.judgeOrder p = s) ∧
    ∀ o ∈ s.orderAt p,
      let unsupervised := s.unsupervised p
      let run : Prop := o.startedAt + (s.positionSet p).minPulse * Config.ms ≤ s.clock
      let offset := min 65535 ((s.clock - s.incidentStart) / 1200)
      let judged := fun g : Order → Order => s.orders.map fun q =>
        if q.position = p then g { q with supervised := !unsupervised } else q
      let confirmed : State := { s with
        orders := judged fun q => { q with stage := .confirmed }
        records := s.records.map fun r =>
          if r.state ≠ .opened then r
          else { r with
            entries := r.entries.map fun e =>
              if e.position = p ∧ e.released = none then { e with
                confirmed := some offset, stage := if e.stage = .driving then .confirmed else e.stage }
              else e } }
      (o.stage = .confirmed ∨ (unsupervised = false ∧ s.cleared p = false) ∨ (unsupervised = true ∧ ¬run) →
        s.judgeOrder p = { s with orders := judged id }) ∧
      (o.stage ≠ .confirmed → unsupervised = false → s.cleared p = true →
        s.judgeOrder p = if run then confirmed.release p else confirmed) ∧
      (o.stage ≠ .confirmed → unsupervised = true → run → s.judgeOrder p = confirmed.release p)

/-- BF_DEADLINE: an order still DRIVING fails (R110): FAILED, escalated unless test only, ORDER_FAILED before any other
notice, one BACKUP request for each used position of the local backup set and no other request, and the remote flags
of a LIVE order. So does an unsupervised order whose deadline comes no later than the end of its minimum pulse: it
stays FAILED until that end, and where the pulse has run by then it is confirmed and released at once, which makes a
send due for the flags just raised (R113, R127). An order no longer DRIVING, and an unsupervised one whose minimum
pulse ends before the deadline (R113), is left as it is. The order of deadline and minimum pulse at one instant is
the model's reading, notes/assumptions/33.md. -/
def Obligations.DeadlineFails : Prop :=
  ∀ (s : State) (p : Index), s.powered = true → s.oneOrderEach → (∀ q ∈ upTo 8, 0 < (s.positionSet q).minPulse) →
    (∀ o ∈ s.orderAt p, o.stage ≠ .driving ∨ (o.supervised = false ∧
        o.startedAt + (s.positionSet p).minPulse * Config.ms < o.deadline) →
      exec (.bfDeadline p) s = .next (settle s s)) ∧
    (∀ o ∈ s.orderAt p, o.stage = .driving → o.supervised = !s.unsupervised p → p ∉ (s.positionSet p).backups →
      let ends := o.startedAt + (s.positionSet p).minPulse * Config.ms
      let u := s.advanceTo o.deadline
      let failed : State := { u with
        orders := s.orders.map fun q =>
          if q.position = p then { q with stage := .failed, escalated := some (!o.testOnly) } else q
        records := s.records.map fun r =>
          if r.state ≠ .opened then r
          else { r with
            entries := r.entries.map fun e =>
              if e.position = p ∧ e.released = none then { e with stage := .failed } else e }
        notices := enqueue s.notices { kind := .orderFailed, subject := p, value := o.attr.code, time := u.partTime } }
      let asked := (if o.testOnly then [] else (s.positionSet p).backups.filter s.usedPosition).foldl
        (fun v b => v.requestOrder b ⟨.backup, p⟩ o.attr) failed
      let held : Bool := !o.testOnly && o.attr == .live && (s.positionSet p).remoteBackups.any fun e => e.isSome
      let x : State := { asked with
        orders := asked.orders.map fun q => if q.position = p then { q with remoteHeld := q.remoteHeld || held } else q }
      let y := u.noteContent x
      let confirmed : State := { y with
        orders := y.orders.map fun q => if q.position = p then { q with stage := .confirmed } else q
        records := y.records.map fun r =>
          if r.state ≠ .opened then r
          else { r with
            entries := r.entries.map fun e =>
              if e.position = p ∧ e.released = none then { e with
                confirmed := some (min 65535 ((y.clock - y.incidentStart) / 1200))
                stage := if e.stage = .driving then .confirmed else e.stage }
              else e } }
      (o.supervised = true → s.cleared p = false → exec (.bfDeadline p) s = .next (settle s x)) ∧
      (o.supervised = false → o.deadline ≤ ends → u.clock < ends → exec (.bfDeadline p) s = .next (settle s x)) ∧
      (o.supervised = false → o.deadline ≤ ends → ends ≤ u.clock →
        exec (.bfDeadline p) s = .next (settle s (confirmed.release p)))) ∧
    ∀ o ∈ s.orderAt p, o.stage = .driving → s.unsupervised p = false → s.cleared p = false → o.supervised = true →
      p ∉ (s.positionSet p).backups →
      Gives (.bfDeadline p) s fun t =>
        Posted s [{ kind := .orderFailed, subject := p, value := o.attr.code, time := t.partTime }] t ∧
        t.clock = max s.clock o.deadline ∧ t.apart = (s.advanceTo o.deadline).apart ∧ t.zones = s.zones ∧
        (t.orderAt p = some { o with
          stage := .failed, escalated := some (!o.testOnly)
          remoteHeld := o.remoteHeld ||
            (!o.testOnly && o.attr == .live && (s.positionSet p).remoteBackups.any fun e => e.isSome) }) ∧
        (o.testOnly = true → t.orders.length = s.orders.length) ∧
        (o.testOnly = false → ∀ b ∈ (s.positionSet p).backups, s.usedPosition b = true → b ∈ upTo 8 →
          ∃ q ∈ t.orders, q.position = b ∧ (⟨.backup, p⟩ ∈ q.causes ∨ (4 ≤ q.causes.length ∧ 0 < q.further)) ∧
            (o.attr = .live → q.attr = .live ∧ (s.liveLocked → b ∈ t.lockout)))

/-- The lockouts of positions without an order are cleared by the pushbutton, all of them, and by RESET_LOCKOUT, the
named ones; those of positions with an order stay, and RESET_LOCKOUT answers ORDER_PRESENT (11) with the set refused
and the set left (R121, R122, R123). A press in STARTING is taken and disregarded. A change queues a LOCKOUT write. -/
def Obligations.LockoutsReset : Prop :=
  ∀ (s : State) (x : Byte), s.powered = true →
    let cleared := fun (u : State) (gone : Index → Bool) => ({ u with
      lockout := u.lockout.filter fun p => !gone p
      store := { u.store with waitLockout := u.store.waitLockout || u.lockout.any gone } } : State)
    let free := fun p => (upTo 8).contains p && s.orders.all fun o => o.position != p
    (∀ d ∈ s.button.timer, s.button.raw = true → s.button.taken = false →
      let u := { s.advanceTo d with button := { raw := true, taken := true, timer := none } }
      exec .lockoutResetPress s = .next (settle s (if s.control.state = .starting then u else cleared u free))) ∧
    (¬(s.button.raw = true ∧ s.button.taken = false ∧ s.button.timer.isSome) →
      exec .lockoutResetPress s = .next (settle s s)) ∧
    (s.ready → s.control.state ≠ .starting →
      let set := membersOf 8 x.toNat
      let held := set.filter fun p => s.orders.any fun o => o.position == p
      let left := s.lockout.filter fun p => !(set.contains p && free p)
      exec (.resetLockout [x]) s = .next (settle s (cleared
        (s.answered 24 ((if held = [] then 0 else 11) :: [byte (bitmap 8 held), byte (bitmap 8 left)]))
        fun p => set.contains p && free p)))

/-- TEST_TRIP is refused outside TEST (WRONG_STATE, 5), for a set that is not one position (NOT_EXACTLY_ONE, 10), for an
unused position (BAD_INDEX, 3) and for one that holds an order (ORDER_PRESENT, 11), in this order; otherwise it is a
LIVE request with cause TEST 0 (R118). CANCEL_ORDER removes the STALLED order of its position and refuses any other
with NOT_STALLED (12) (R116); the entry keeps STALLED. -/
def Obligations.TestTripAndCancelOrder : Prop :=
  ∀ (s : State) (x : Byte), s.ready → s.control.state ≠ .starting →
    let set := membersOf 8 x.toNat
    (s.control.state ≠ .test → exec (.testTrip [x]) s = .next (settle s (s.answered 22 [5]))) ∧
    (s.control.state = .test → set.length ≠ 1 → exec (.testTrip [x]) s = .next (settle s (s.answered 22 [10]))) ∧
    (∀ p ∈ set, s.control.state = .test → set.length = 1 →
      (s.usedPosition p = false → exec (.testTrip [x]) s = .next (settle s (s.answered 22 [3]))) ∧
      (s.usedPosition p = true → (s.orderAt p).isSome → exec (.testTrip [x]) s = .next (settle s (s.answered 22 [11]))) ∧
      (s.usedPosition p = true → s.orderAt p = none →
        exec (.testTrip [x]) s = .next (settle s ((s.answered 22 [0]).requestOrder p ⟨.test, 0⟩ .live)))) ∧
    (¬(1 ≤ x.toNat ∧ x.toNat ≤ 8) → exec (.cancelOrder [x]) s = .next (settle s (s.answered 23 [3]))) ∧
    (x.toNat ∈ upTo 8 → (∀ o ∈ s.orderAt x.toNat, o.stage ≠ .stalled) →
      exec (.cancelOrder [x]) s = .next (settle s (s.answered 23 [12]))) ∧
    (x.toNat ∈ upTo 8 → ∀ o ∈ s.orderAt x.toNat, o.stage = .stalled →
      exec (.cancelOrder [x]) s = .next (settle s ((s.answered 23 [0]).release x.toNat)))

/-! ## The cross link -/

/-- A telegram carries every content whole (R125, R184): its 73 bits after the start bit have good end bits and a good
check, and read back as the content. -/
def Obligations.TelegramReadsBack : Prop :=
  ∀ c : Content, c.canonical →
    c.afterStart.length = 73 ∧ endBitsGood c.afterStart = true ∧ telegramCheckGood c.afterStart = true ∧
      Content.ofBits (c.afterStart.take 53) = c

/-- The outgoing content (R126): own number and state; each link zone that some zone exports while a member is lit, each
link current that some point exports while its OC is set, and each request flag that a zone or an order holds, in
IN_SERVICE and TEST alone. That an exported link current is sent even where another unit owns it for a while is the
model's choice, notes/assumptions/46.md. -/
def Obligations.OutgoingContentIsComposed : Prop :=
  ∀ s : State,
    let sends : Prop := s.control.state = .inService ∨ s.control.state = .test
    s.content.unit = s.settings.active.link.unit ∧
    s.content.state = (match s.control.state with
      | .inService => .inService
      | .test => .test
      | .outOfService => .outOfService
      | .starting | .setupFault => .startingOrOther) ∧
    (∀ i, i ∈ s.content.zones ↔ i ∈ upTo 8 ∧ sends ∧ ∃ z ∈ upTo 8, (s.zoneSet z).exportZone = some i ∧
      ∃ n ∈ (s.zoneSet z).members, (s.channel n).detection = .lit ∨ (s.channel n).detection = .steady) ∧
    (∀ i, i ∈ s.content.currents ↔ i ∈ upTo 8 ∧ sends ∧
      ∃ m ∈ upTo 4, (s.pointSet m).exported = some i ∧ (s.point m).oc = true) ∧
    ∀ e : RemoteEntry, e ∈ s.content.requests ↔ e.unit ∈ upTo 4 ∧ e.position ∈ upTo 8 ∧ sends ∧
      ((∃ z ∈ upTo 8, (s.zone z).remoteHeld = true ∧ some e ∈ (s.zoneSet z).remoteList) ∨
        ∃ o ∈ s.orders, o.remoteHeld = true ∧ some e ∈ (s.positionSet o.position).remoteBackups)

/-- The sending cycle: HEARTBEAT_DUE 5 ms after the start of the last completed telegram (R127); SEND_DECIDE after the
spacing, with the outgoing content as snapshot, unless suspended or with a telegram in progress (R128, R133);
TELEGRAM_START at the beginning of the next bit time, after eight recessive ones at the soonest (R128; that bit
times on an idle line are counted on from the end of what was last on it is the model's choice,
notes/assumptions/49.md); TELEGRAM_COMPLETED 74 bit times later, IDLE or due again if the content has changed
(R131). Where its transmitter's state is another, each does nothing. The hold-off after a bit error on the start bit
is the model's reading, notes/assumptions/30.md. -/
def Obligations.SendingCycleRuns : Prop :=
  ∀ s : State, s.powered = true →
    let l := s.link
    (l.tx = .idle →
      exec .heartbeatDue s = .next (settle s { s.advanceTo (max l.started (l.lastStart.getD 0) + 5 * Config.ms) with
        link := { l with tx := .due } })) ∧
    (l.tx ≠ .idle → exec .heartbeatDue s = .next (settle s s)) ∧
    (l.tx = .due → l.suspended = none → l.telegram = none →
      let u := s.advanceTo (max (l.lastStart.elim 0 fun v => v + 6000) (l.holdOff.elim 0 fun v => v + 96))
      exec .sendDecide s = .next (settle s { u with
        link := { l with tx := .armed, snapshot := some s.content, decided := some u.clock, holdOff := none } })) ∧
    (l.tx ≠ .due ∨ l.suspended.isSome ∨ l.telegram.isSome → exec .sendDecide s = .next (settle s s)) ∧
    (l.tx = .armed → l.telegram = none → ∀ c ∈ l.snapshot,
      let start := l.recessive + max 8 ((s.clock - l.recessive + 11) / 12) * 12
      exec .telegramStart s = .next (settle s { s.advanceTo start with
        link := { l with
          tx := .sending, decided := none, driving := some (false :: c.afterStart), sendStart := some start
          telegram := some start } })) ∧
    (l.tx ≠ .armed ∨ l.telegram.isSome → exec .telegramStart s = .next (settle s s)) ∧
    (l.tx = .sending → ∀ c ∈ l.snapshot, ∀ start ∈ l.sendStart,
      let u := s.advanceTo (start + 888)
      exec .telegramCompleted s = .next (settle s { u with
        link := { l with
          tx := if s.content = c then .idle else .due, snapshot := none, decided := none, driving := none
          sendStart := none, lastSent := some c, lastStart := some start, telegram := none, recessive := u.clock } })) ∧
    (l.tx ≠ .sending → exec .telegramCompleted s = .next (settle s s))

/-- Attempts given up: another unit's start bit, seen after eight recessive bit times, puts a telegram in progress and
voids an ARMED attempt (R129, R132), but for one seen in the bit time in which the unit drives its own: then none is
voided, and the unit is SENDING together with the other (R129; the bit times are those of notes/assumptions/49.md);
arbitration lost and a bit error stop a SENDING unit (R130), the latter on its start bit leaving no telegram begun.
Each is counted and leaves the transmitter DUE. That another start bit ends the hold-off, whatever the unit awaited
before, and that a bit error on the unit's own start bit leaves the count of recessive bit times as it stands and
sets a hold-off, are the model's reading of R130 and R132, notes/assumptions/30.md. That ATTEMPT_VOIDED and
START_BIT_SEEN are one event at an ARMED unit is the model's reading, notes/assumptions/28.md. -/
def Obligations.AttemptsAreGivenUp : Prop :=
  ∀ s : State, s.powered = true →
    let l := s.link
    let free := l.telegram = none ∧ s.settings.active.link.unit ≠ 0
    let u := s.advanceTo (l.recessive + 96)
    let voided : Link := { l with
      tx := .due, snapshot := none, decided := none, driving := none, sendStart := none, telegram := some u.clock
      holdOff := none, counters := { l.counters with voidedStarts := min 65535 (l.counters.voidedStarts + 1) } }
    let back : Link := { l with tx := .due, snapshot := none, decided := none, driving := none, sendStart := none }
    let failed : Link := { back with
      counters := { l.counters with framingErrors := min 65535 (l.counters.framingErrors + 1) } }
    (l.tx = .armed → free → ∀ d ∈ l.decided, ∀ c ∈ l.snapshot,
      let start := l.recessive + max 8 ((d - l.recessive + 11) / 12) * 12
      let own := start ≤ u.clock ∧ u.clock < start + 12
      (own → exec .attemptVoided s = .next (settle s s) ∧
        exec .startBitSeen s = .next (settle s { u with
          link := { l with
            tx := .sending, decided := none, driving := some (false :: c.afterStart), sendStart := some start
            telegram := some start } })) ∧
      (¬own → exec .attemptVoided s = .next (settle s { u with link := voided }) ∧
        exec .startBitSeen s = .next (settle s { u with link := voided }))) ∧
    (l.tx ≠ .armed → l.tx ≠ .sending → free →
      exec .startBitSeen s = .next (settle s { u with
        link := { l with telegram := some u.clock, holdOff := none } })) ∧
    (l.tx ≠ .armed ∨ ¬free → exec .attemptVoided s = .next (settle s s)) ∧
    (l.tx = .sending ∨ ¬free → exec .startBitSeen s = .next (settle s s)) ∧
    (l.tx = .sending →
      exec .arbitrationLost s = .next (settle s { s with
        link := { back with
          counters := { l.counters with arbitrationLosses := min 65535 (l.counters.arbitrationLosses + 1) } } }) ∧
      exec (.bitError false) s = .next (settle s { s with link := failed }) ∧
      exec (.bitError true) s = .next (settle s { s with
        link := { failed with telegram := none, holdOff := some s.clock } })) ∧
    (l.tx ≠ .sending → exec .arbitrationLost s = .next (settle s s) ∧
      ∀ b, exec (.bitError b) s = .next (settle s s))

/-- A telegram read to its end is judged by the first condition of R132's table that applies: end bits, check, own
number (R133: counted, announced once in 1000 ms, sending suspended for 1000 ms), peer, stranger. With no telegram
in progress, or while this unit sends, there is none to judge. That a new notice is posted at exactly 1000 ms is the
model's reading, notes/assumptions/29.md. -/
def Obligations.TelegramIsJudged : Prop :=
  ∀ (s : State) (bits : List Bit), s.powered = true →
    (s.link.telegram = none ∨ s.link.tx = .sending → exec (.telegramReceived bits) s = .next (settle s s)) ∧
    ∀ start ∈ s.link.telegram, s.link.tx ≠ .sending →
      let u := s.advanceTo (start + 888)
      let l : Link := { s.link with telegram := none, recessive := u.clock }
      let c := Content.ofBits (bits.take 53)
      let k := l.counters
      let valid : Bool := endBitsGood bits && telegramCheckGood bits
      let own := s.settings.active.link.unit
      (endBitsGood bits = false → exec (.telegramReceived bits) s = .next (settle s { u with
        link := { l with counters := { k with framingErrors := min 65535 (k.framingErrors + 1) } } })) ∧
      (endBitsGood bits = true → telegramCheckGood bits = false →
        exec (.telegramReceived bits) s = .next (settle s { u with
          link := { l with counters := { k with checkFailures := min 65535 (k.checkFailures + 1) } } })) ∧
      (valid = true → c.unit = own →
        let recent : Bool := l.duplicateNotice.any fun v => u.clock < v + 1000 * Config.ms
        exec (.telegramReceived bits) s = .next (settle s { u with
          notices :=
            if recent then s.notices
            else enqueue s.notices
              { kind := .duplicateUnit, subject := own, value := min 65535 (k.duplicates + 1), time := u.partTime }
          link := { (if l.tx = .armed then
              { l with
                tx := Transmitter.due, snapshot := none, decided := none, driving := none, sendStart := none }
              else l) with
            counters := { k with duplicates := min 65535 (k.duplicates + 1) }
            duplicateNotice := if recent then l.duplicateNotice else some u.clock
            suspended := some (u.clock + 1000 * Config.ms), lastDuplicate := some u.clock, duplicateAlarm := true } })) ∧
      (valid = true → c.unit ≠ own → (∀ p ∈ l.peers, p.unit ≠ c.unit) →
        exec (.telegramReceived bits) s = .next (settle s { u with
          link := { l with counters := { k with strangers := min 65535 (k.strangers + 1) } } }))

/-- A configured peer's valid telegram is taken (R135, R136, R137): LIVE, with PEER_STATE first if it was not; its
reported state, its flags as read from a usable peer and as 0 from any other; last heard now and the silence timer
15 ms on. Each request flag that rose is handed to the order unit: accepted, the position holds an order with the
cause REMOTE, which is LIVE; refused, REMOTE_REFUSED is posted (R117). The whole effect is one such hand-over for
each risen flag, in ascending order of position, and one evaluation of the zones whose presented link values
changed, in either order (R137, the schedule's). That PEER_STATE comes before the notices of other blocks is the
model's choice, notes/assumptions/24.md. Beside this peer's record only the decision path may change. -/
def Obligations.PeerTelegramIsTaken : Prop :=
  ∀ (s : State) (bits : List Bit), s.powered = true → s.link.tx ≠ .sending → endBitsGood bits = true →
    telegramCheckGood bits = true → ∀ start ∈ s.link.telegram,
    let c := Content.ofBits (bits.take 53)
    let own := s.settings.active.link.unit
    c.unit ≠ own → ∀ p ∈ s.peer c.unit,
    let u := s.advanceTo (start + 888)
    let usable : Bool := c.state == .inService || c.state == .test
    let asked := if usable then (upTo 8).filter fun q => c.requests.contains ⟨own, q⟩ else []
    let edges := asked.filter fun q => !p.requests.contains q
    let accepts := fun q => (s.control.state == .inService || s.control.state == .test) && s.usedPosition q &&
      (s.positionSet q).accept.contains p.unit
    Gives (.telegramReceived bits) s fun t =>
      t.clock = u.clock ∧
      t.apart = { u with
        link := { s.link with
          telegram := none, recessive := u.clock
          peers := s.link.peers.map fun q : Peer =>
            if q.unit = p.unit then { q with
              state := .live, reported := some c.state, light := if usable then c.zones else []
              current := if usable then c.currents else [], requests := asked, lastHeard := some u.clock
              silence := some (u.clock + 15 * Config.ms) }
            else q } }.apart ∧
      (p.state ≠ .live →
        Posted s [{ kind := .peerState, subject := p.unit, value := 1, time := u.partTime }] t) ∧
      (∀ q ∈ edges, accepts q = true → (∀ b ∈ upTo 8, 0 < (s.positionSet b).minPulse) →
        ∃ o ∈ t.orders, o.position = q ∧ o.attr = .live ∧
          (⟨.remote, p.unit⟩ ∈ o.causes ∨ (4 ≤ o.causes.length ∧ 0 < o.further))) ∧
      (let heard : State := { u with link := { s.link with telegram := none, recessive := u.clock } }
       let taken : State := { heard with
        notices :=
          if p.state = .live then s.notices
          else enqueue s.notices { kind := .peerState, subject := p.unit, value := 1, time := u.partTime }
        link := { heard.link with
          peers := s.link.peers.map fun q : Peer =>
            if q.unit = p.unit then { q with
              state := .live, reported := some c.state, light := if usable then c.zones else []
              current := if usable then c.currents else [], requests := asked, lastHeard := some u.clock
              silence := some (u.clock + 15 * Config.ms) }
            else q } }
       let hand := fun v : State => edges.foldl (fun w q =>
        if accepts q then w.requestOrder q ⟨.remote, p.unit⟩ .live else w.post .remoteRefused q p.unit) v
       t = settle s (heard.handLinkInputs (hand taken)) ∨ t = settle s (hand (heard.handLinkInputs taken))) ∧
      (p.state = .live → (∀ q ∈ edges, accepts q = false) → (∀ z ∈ upTo 8, s.linkInputsDiffer t z = false) →
        t.orders = s.orders ∧ t.notices = (edges.map fun q =>
          ({ kind := .remoteRefused, subject := q, value := p.unit, time := u.partTime } : Notice)).foldl
            enqueue s.notices)

/-- LINE_DISTURBANCE: a run of dominant bits that begins with the count of recessive bit times below eight is counted
once as a framing error, whatever its length, and the count begins again at its end (R132); a run after it begins a
recessive bit later at the soonest. PEER_SILENCE_EXPIRY takes a LIVE peer to LOST, its flags cleared, with one
PEER_STATE (R135) before any other notice (the model's choice, notes/assumptions/24.md); SUSPENSION_END lets a
suspended transmitter decide again (R133); DUPLICATE_ALARM_EXPIRY ends the duplicate's share of the alarm condition
(R163). Each does nothing where its occasion is not there. How long a run lasts the sender says,
notes/assumptions/30.md. -/
def Obligations.LinkTimersRun : Prop :=
  ∀ (s : State) (n : Index) (bits : Nat), s.powered = true →
    let l := s.link
    let run := s.advanceTo (l.disturbed.elim 0 fun e => e + 12)
    (s.settings.active.link.unit ≠ 0 → l.telegram = none → run.clock < l.recessive + 96 →
      exec (.lineDisturbance bits) s = .next (settle s { run with
        link := { l with
          recessive := run.clock + bits * 12, disturbed := some (run.clock + bits * 12)
          counters := { l.counters with framingErrors := min 65535 (l.counters.framingErrors + 1) } } })) ∧
    (¬(s.settings.active.link.unit ≠ 0 ∧ l.telegram = none ∧ run.clock < l.recessive + 96) →
      exec (.lineDisturbance bits) s = .next (settle s s)) ∧
    (∀ p ∈ s.peer n, p.state = .live → ∀ due ∈ p.silence,
      let u := s.advanceTo due
      Gives (.peerSilenceExpiry n) s fun t =>
        t.apart = { u with
          link := { l with
            peers := l.peers.map fun q : Peer =>
              if q.unit = n then { q with state := .lost, light := [], current := [], requests := [], silence := none }
              else q } }.apart ∧
        Posted s [{ kind := .peerState, subject := n, value := 2, time := u.partTime }] t) ∧
    ((∀ p ∈ s.peer n, p.state ≠ .live) → exec (.peerSilenceExpiry n) s = .next (settle s s)) ∧
    (∀ d ∈ l.suspended, exec .suspensionEnd s = .next (settle s { s.advanceTo d with link := { l with suspended := none } })) ∧
    (l.suspended = none → exec .suspensionEnd s = .next (settle s s)) ∧
    (l.duplicateAlarm = true → ∀ d ∈ l.lastDuplicate,
      exec .duplicateAlarmExpiry s = .next (settle s { s.advanceTo (d + 1000 * Config.ms) with
        link := { l with duplicateAlarm := false } })) ∧
    (l.duplicateAlarm = false → exec .duplicateAlarmExpiry s = .next (settle s s))

/-! ## Settings, application and the store -/

/-- CHANNEL_GROUP_APPLY: a waiting channel group is applied once the channel is in no light episode, in SETUP_FAULT at
once (R168, R169), with the effects of R22, R23 and R40 on its record; its captured reference becomes absent (R38).
A channel made UNUSED keeps gain, background, health and supervision fields. A group that does not wait, or not at
its safe point, is left; no channel in capture is reached (R22, R39; that its group then waits for the capture's end
is the model's choice, notes/assumptions/38.md). Beside the channel, the settings and state control, only the
decision path may change. That APPLY_DONE stands behind the zones' notices is the model's choice,
notes/assumptions/24.md. -/
def Obligations.ChannelGroupApplies : Prop :=
  ∀ (s : State) (n : Index), s.powered = true → n ∈ upTo 16 → s.light.channels.length = 16 →
    let c := s.channel n
    let w := s.settings.waiting
    let new := item (s.settings.image.getD s.settings.pending).channels .factory n
    let old := s.channelSet n
    let safe := c.detection ≠ .referencing ∧
      (s.control.state = .setupFault ∨ c.detection ∉ [Detection.pickup, .lit, .steady])
    (n ∉ w.channels ∨ ¬safe → exec (.channelGroupApply n) s = .next (settle s s)) ∧
    (n ∈ w.channels → safe → Gives (.channelGroupApply n) s fun t =>
      s.partApplied { s.settings.active with channels := put s.settings.active.channels n new }
        { w with channels := w.channels.filter fun k => k != n } t ∧
      t.channel n =
        (if old.kind = .unused ∧ new.kind ≠ .unused then { c with
            captured := none, detection := .dark, background := 0, gain := 256, health := .good, pickupCount := 0, drops := 0
            litSince := none, strikeKind := .none, strikeCount := 0, passRun := 0, passes := 0, dimFails := 0
            brokenFails := 0, skipped := 0, lastReturn := none, lastResult := none, lastBurst := none }
        else if old.kind ≠ .unused ∧ new.kind = .unused then { c with
            captured := none, detection := .unused, pickupCount := 0, drops := 0, litSince := none, simulated := false
            burst := none, capture := none }
        else if old.kind = .loop ∧ new.kind = .point then { c with captured := none, gain := min 512 c.gain }
        else { c with captured := none }) ∧
      (∀ k ∈ upTo 16, k ≠ n → t.channel k = s.channel k) ∧
      t.apart = { s with
        light := { s.light with channels := t.light.channels }, settings := t.settings, control := t.control }.apart)

/-- POINT_GROUP_APPLY: a waiting point group is applied at a current sample instant with OC and CP both clear: the last
one taken, where it is the present instant, or the next; in SETUP_FAULT at once, whatever its flags (R53, R168,
R169). The other points' records, but for the peaks that a trip sets, and the instants of the front end stay as they
are. A changed k clears the armed marks and the last qualifying instant; simulated OC and the hold time of a present
OC episode are kept; a changed attachment derives every zone's confirmation set anew from its clearing set as it
stands (R52). A group that does not wait, or whose flags are set, is left. That the quiet count stands where another
k_bf is applied in SETUP_FAULT with CP set is the model's choice, notes/assumptions/48.md, and so is that APPLY_DONE
stands behind the zones' notices, 24.md. -/
def Obligations.PointGroupApplies : Prop :=
  ∀ (s : State) (m : Index), s.powered = true → m ∈ upTo 4 → s.current.points.length = 4 →
    let p := s.point m
    let w := s.settings.waiting
    let new := item (s.settings.image.getD s.settings.pending).points .factory m
    let old := s.pointSet m
    let quiet := s.control.state = .setupFault ∨ (p.oc = false ∧ p.cp = false)
    (m ∉ w.points ∨ ¬quiet → exec (.pointGroupApply m) s = .next (settle s s)) ∧
    (m ∈ w.points → quiet → Gives (.pointGroupApply m) s fun t =>
      s.partApplied { s.settings.active with points := put s.settings.active.points m new }
        { w with points := w.points.filter fun k => k != m } t ∧
      { t.point m with peak := none } =
        (if old.pickup = new.pickup then { p with peak := none }
        else { p with armed := [false, false, false], lastQualifying := none, peak := none }) ∧
      (∀ k ∈ upTo 4, k ≠ m → { t.point k with peak := none } = { s.point k with peak := none }) ∧
      t.current.next = s.current.next ∧ t.current.last = s.current.last ∧
      (s.control.state = .setupFault → t.clock = s.clock) ∧
      (s.control.state ≠ .setupFault →
        (s.current.last = some t.clock ∧ t.clock = s.clock) ∨ t.clock = s.nextCurrent) ∧
      (old.attached ≠ new.attached → ∀ z ∈ upTo 8,
        (t.zone z).clearing = (s.zone z).clearing ∧ (t.zone z).confirmation = t.confirmationSet (t.zone z).clearing) ∧
      (old.attached = new.attached → ∀ z ∈ upTo 8, (t.zone z).confirmation = (s.zone z).confirmation) ∧
      t.apart = { s.advanceTo t.clock with
        current := t.current, settings := t.settings, control := t.control }.apart)

/-- TOPOLOGY_GROUP_APPLY with every zone QUIET and no order standing (R63, R73, R168): each position is derived anew
under the new settings, with R63's table of effects: TRAVEL newly entered starts at the application, a changed
discrepancy time that has already passed makes INVALID, and each change is stamped, counted and posted (R59); the
sets of all zones are recomputed. LINK_GROUP_APPLY with no telegram in progress and the unit not ARMED (R138): the
peer table is set up anew in WAITING, with a PEER_STATE for each peer that was LIVE or LOST, a suspension ends, the
transmitter is OFF with unit number 0 and DUE with a link just started, and an IDLE one DUE when the number has
changed (item 5); the counters and the last sent content are kept. A group that does not wait, or not at its safe
point, is left. That the POSITION_CHANGE and PEER_STATE notices come first, and APPLY_DONE behind those of the
zones, is the model's choice, notes/assumptions/24.md. -/
def Obligations.TopologyAndLinkGroupsApply : Prop :=
  ∀ s : State, s.powered = true →
    let w := s.settings.waiting
    let image := s.settings.image.getD s.settings.pending
    let calm := s.control.state = .setupFault ∨ ((∀ z ∈ upTo 8, (s.zone z).state = .quiet) ∧ s.orders = [])
    let l := s.link
    let old := s.settings.active.link
    let new := image.link
    let silent := s.control.state = .setupFault ∨ old.unit = 0 ∨
      (l.telegram = none ∧ l.tx ≠ .armed ∧ l.tx ≠ .sending)
    (w.topology = false ∨ ¬calm → exec .topologyGroupApply s = .next (settle s s)) ∧
    (w.topology = true → calm → s.positions.length = 8 → Gives .topologyGroupApply s fun t =>
      s.partApplied { s.settings.active with topology := image.topology } { w with topology := false } t ∧
      (∀ p ∈ upTo 8,
        let q := s.position p
        let k := item image.topology.positions .factory p
        let live : Bool := k.nodeA != .none && k.wired
        let passed : Bool := q.derived == .travel && k.discrepancy != (s.positionSet p).discrepancy &&
          q.travelStart.any fun v => v + k.discrepancy * Config.ms < s.clock
        let expired : Bool := live && !q.cl.taken && !q.op.taken && (q.expired || passed)
        let new : Derived :=
          if live = false then .none else if q.cl.taken && q.op.taken then .invalid else if q.cl.taken then .closed
          else if q.op.taken then .opened else if expired then .invalid else .travel
        t.position p = { q with
          expired, derived := new
          travelStart :=
            if new = .travel then (if q.derived = .travel then q.travelStart else some s.clock) else none
          changedAt := if new = q.derived then q.changedAt else s.partTime
          changes := if new = q.derived then q.changes else min 65535 (q.changes + 1) }) ∧
      Posted s (((upTo 8).filter fun p => (t.position p).derived != (s.position p).derived).map fun p =>
        { kind := .positionChange, subject := p, value := (t.position p).derived.code, time := s.partTime }) t ∧
      (∀ z ∈ upTo 8, (t.zone z).clearing = t.clearingSet z ∧
        (t.zone z).confirmation = t.confirmationSet (t.clearingSet z)) ∧
      t.apart = { s with positions := t.positions, settings := t.settings, control := t.control }.apart) ∧
    (w.link = false ∨ ¬silent → exec .linkGroupApply s = .next (settle s s)) ∧
    (w.link = true → silent → Gives .linkGroupApply s fun t =>
      s.partApplied { s.settings.active with link := new } { w with link := false } t ∧
      t.apart = { s with settings := t.settings, control := t.control, link := t.link }.apart ∧
      Posted s (((if new.unit = 0 then [] else new.peers).filter fun n =>
          l.peers.any fun q => q.unit == n && q.state != .waiting).map fun n =>
        { kind := .peerState, subject := n, value := 0, time := s.partTime }) t ∧
      t.link.peers = (if new.unit = 0 then [] else new.peers.map Peer.fresh) ∧ t.link.suspended = none ∧
      t.link.telegram = none ∧ t.link.counters = l.counters ∧ t.link.lastSent = l.lastSent ∧
      t.link.lastStart = l.lastStart ∧ t.link.lastDuplicate = l.lastDuplicate ∧
      t.link.duplicateAlarm = l.duplicateAlarm ∧
      (new.unit = 0 → t.link.tx = .off) ∧ (new.unit ≠ 0 → old.unit = 0 → t.link.tx = .due) ∧
      (new.unit ≠ 0 → old.unit ≠ 0 → t.link.tx = l.tx ∨ (l.tx = .idle ∧ t.link.tx = .due)) ∧
      (new.unit ≠ 0 → old.unit ≠ 0 → l.tx = .idle → new.unit ≠ old.unit ∨ t.content ≠ s.content → t.link.tx = .due))

/-- The judgement of COMMIT, in R167's order: BUSY (6) while an application or a capture runs, ORDERS_STANDING (7),
RECORD_UNREAD (8) for an unread LIVE record, CHECK_FAILED (9) with the check's code and index. An accepted COMMIT
answers the new serial number, copies the pending set as image and queues its write; the pending set stays as it is
(R167). A part whose content differs waits, with its active content as it was, where its safe point does not hold
(R168): a channel in PICKUP, LIT or STEADY, a point with OC or CP set or outside a current sample instant, the
topology with a zone not QUIET or an order standing once the channels and points are applied, the link with a
telegram in progress or ARMED, the station until the reply has gone. Every other part is applied; in SETUP_FAULT all
but the station are (R169). A part that stays leaves its block's records alone, but for an unchanged channel's
captured reference, which becomes absent (R38), and for incident peaks; where all parts stay, the decision path is
left alone too. With nothing waiting APPLY_DONE is posted, at once or owed until the reply has gone (the model's
choice, notes/assumptions/16.md), and SETUP_FAULT is left. That the topology is judged after the channels and
points, and that APPLY_DONE stands behind the other blocks' notices, are the model's choices,
notes/assumptions/24.md. -/
def Obligations.CommitIsJudgedAndStaged : Prop :=
  ∀ s : State, s.ready → s.control.state ≠ .starting →
    let pending := s.settings.pending
    let busy : Prop := 0 < s.settings.waiting.count ∨ ∃ n ∈ upTo 16, (s.channel n).detection = .referencing
    let unread : Prop := ∃ r ∈ s.records, r.kind = .live ∧ r.state = .unread
    (busy → exec (.commit []) s = .next (settle s (s.answered 14 [6]))) ∧
    (¬busy → s.orders ≠ [] → exec (.commit []) s = .next (settle s (s.answered 14 [7]))) ∧
    (¬busy → s.orders = [] → unread → exec (.commit []) s = .next (settle s (s.answered 14 [8]))) ∧
    (¬busy → s.orders = [] → ¬unread → ∀ f ∈ pending.firstFailure,
      exec (.commit []) s = .next (settle s (s.answered 14 [9, byte f.1, byte f.2]))) ∧
    (¬busy → s.orders = [] → ¬unread → pending.firstFailure = none → s.settings.active.channels.length = 16 →
      s.settings.active.points.length = 4 → s.light.channels.length = 16 →
      let before := s.settings.active
      let serial := (s.settings.serial + 1) % 65536
      let fault : Prop := s.control.state = .setupFault
      let l := s.link
      let channelSame := fun n => item before.channels .factory n = item pending.channels .factory n
      let pointSame := fun m => item before.points .factory m = item pending.points .factory m
      let begun : State := (upTo 4).foldl State.tryPoint ((upTo 16).foldl State.tryChannel { s with
        settings := { s.settings with image := some pending, serial, waiting := before.differing pending } })
      Gives (.commit []) s fun t =>
        let w := t.settings.waiting
        let after := t.settings.active
        let channelStays := fun n => channelSame n ∨ n ∈ w.channels
        let pointStays := fun m => pointSame m ∨ m ∈ w.points
        let topologyStays := before.topology = pending.topology ∨ w.topology = true
        let linkStays := before.link = pending.link ∨ w.link = true
        let answered := s.answered 14 (0 :: two serial)
        let done := w.count = 0 ∧ s.sched.doneAfterReply = false
        (t.settings = { s.settings with
          active := after, serial, image := some pending, waiting := w
          doneOwed := if w.count = 0 then s.sched.doneAfterReply else s.settings.doneOwed }) ∧
        (∀ n ∈ upTo 16,
          item after.channels .factory n =
            (if n ∈ w.channels then item before.channels .factory n else item pending.channels .factory n) ∧
          (n ∈ w.channels ↔
            ¬channelSame n ∧ ¬fault ∧ (s.channel n).detection ∈ [Detection.pickup, .lit, .steady]) ∧
          (t.channel n).captured = (if n ∈ w.channels then (s.channel n).captured else none) ∧
          (channelStays n → t.channel n = { s.channel n with captured := (t.channel n).captured })) ∧
        (∀ m ∈ upTo 4,
          item after.points .factory m =
            (if m ∈ w.points then item before.points .factory m else item pending.points .factory m) ∧
          (m ∈ w.points ↔ ¬pointSame m ∧ ¬fault ∧ ((s.point m).oc = true ∨ (s.point m).cp = true ∨
            (s.current.last ≠ some s.clock ∧ s.current.next ≠ s.clock))) ∧
          (pointStays m → t.point m = { s.point m with peak := (t.point m).peak })) ∧
        after.topology = (if w.topology = true then before.topology else pending.topology) ∧
        (w.topology = true ↔ before.topology ≠ pending.topology ∧ ¬fault ∧
          ¬((∀ z ∈ upTo 8, (begun.zone z).state = .quiet) ∧ begun.orders = [])) ∧
        ((∀ n ∈ upTo 16, channelSame n) → (∀ m ∈ upTo 4, pointSame m) → (w.topology = true ↔
          before.topology ≠ pending.topology ∧ ¬fault ∧ ∃ z ∈ upTo 8, (s.zone z).state ≠ .quiet)) ∧
        after.link = (if w.link = true then before.link else pending.link) ∧
        (w.link = true ↔ before.link ≠ pending.link ∧ ¬fault ∧ before.link.unit ≠ 0 ∧
          (l.telegram.isSome ∨ l.tx = .armed ∨ l.tx = .sending)) ∧
        (w.station = true ↔ before.station ≠ pending.station) ∧ after.station = before.station ∧
        t.apart = { answered with
          settings := t.settings, control := t.control, positions := t.positions, link := t.link
          light := { s.light with channels := t.light.channels }
          current := { s.current with points := t.current.points }
          store := { s.store with waitSettings := true } }.apart ∧
        (t.control = if fault ∧ done then
            { answered.control with state := .inService, since := s.partTime, testDeadline := none }
          else answered.control) ∧
        (topologyStays → t.positions = s.positions) ∧
        (linkStays → { t.link with tx := l.tx } = l ∧ (t.link.tx = l.tx ∨ (l.tx = .idle ∧ t.link.tx = .due))) ∧
        (¬fault → (∀ n ∈ upTo 16, channelStays n) → (∀ m ∈ upTo 4, pointStays m) → topologyStays → linkStays →
          t = settle s { answered with
            settings := t.settings, light := t.light, store := { s.store with waitSettings := true }
            notices := if done then
                enqueue s.notices { kind := .applyDone, subject := 0, value := serial, time := s.partTime }
              else s.notices }) ∧
        (done → ¬fault → (∀ n ∈ s.notices.dropLast, n.kind ≠ .lost) → ∀ n ∈ t.notices.getLast?,
          n = { kind := .applyDone, subject := 0, value := serial, time := s.partTime } ∨ n.kind = .lost))

/-- The seven checks of a commit in their order, each at its objects in ascending order (R78); the first object that
fails gives COMMIT's code and index, and a set passes exactly if none fails. EDGE (1): a used position with an edge
to none, to its own node or to an absent source (R79). CHANNEL_TWICE (2): a channel of two zones (R80). POINT_ATTACH
(3): a point attached to an unused position or to that of a lower-numbered point (R81). BACKUP_SELF (4): a position
that backs itself up; BACKUP_CYCLE (5): a chain of local backups from a position back to it (R82). ZONE_BLIND (6): a
zone that is not BLOCKED with neither a used member nor an import (R80). LINK_OWNER (7): a point whose link current
this unit does not own or whose link is off; then, with index 0, the unit among its own peers (R83). -/
def Obligations.CommitChecksAreExact : Prop :=
  ∀ c : Settings, c.topology.positions.length ≤ 8 →
    let g := c.topology
    let pos := fun p => item g.positions .factory p
    let zone := fun z => item g.zones .factory z
    let point := fun m => item c.points .factory m
    let absent : Node → Prop := fun n => ∃ i, n = .source i ∧ item g.sources false i = false
    let backs : Index → Index → Prop := fun a b => b ∈ (pos a).backups
    let fails : Nat × Index → Prop := fun f =>
      match f with
      | (1, p) => (pos p).nodeA ≠ .none ∧ ((pos p).nodeB = .none ∨ (pos p).nodeA = (pos p).nodeB ∨
          absent (pos p).nodeA ∨ absent (pos p).nodeB)
      | (2, n) => ∃ y ∈ upTo 8, ∃ z ∈ upTo 8, y ≠ z ∧ n ∈ (zone y).members ∧ n ∈ (zone z).members
      | (3, m) => ∃ p, (point m).attached = some p ∧
          ((pos p).nodeA = .none ∨ ∃ k ∈ upTo 4, k < m ∧ (point k).attached = some p)
      | (4, p) => p ∈ (pos p).backups
      | (5, p) => Relation.TransGen backs p p
      | (6, z) => (zone z).mode ≠ .blocked ∧ (zone z).importZones = [] ∧
          ∀ n ∈ (zone z).members, (item c.channels .factory n).kind = .unused
      | (7, 0) => c.link.unit ∈ c.link.peers
      | (7, m) => ∃ i, (point m).exported = some i ∧
          (c.link.unit = 0 ∨ item c.link.owners none i ≠ some c.link.unit)
      | _ => False
    let judged : List (Nat × Index) :=
      (upTo 8).map (1, ·) ++ (upTo 16).map (2, ·) ++ (upTo 4).map (3, ·) ++ (upTo 8).map (4, ·) ++
        (upTo 8).map (5, ·) ++ (upTo 8).map (6, ·) ++ (upTo 4).map (7, ·) ++ [(7, 0)]
    (c.firstFailure = none ↔ ∀ f ∈ judged, ¬fails f) ∧
    (∀ f ∈ c.firstFailure, f ∈ judged) ∧
    ∀ before f after, judged = before ++ f :: after →
      (c.firstFailure = some f ↔ fails f ∧ ∀ g ∈ before, ¬fails g)

/-- READ_SETTING answers the item of the active (0) or the pending (1) set; WRITE_SETTING stores a value of the item's
form in the pending set and answers it with the CLAMPED flag; an identifier that names no item is BAD_INDEX (3) and
a value of no meaning BAD_VALUE (4) (R166, R185). DISCARD copies the active set over the pending one and forgets
every captured reference, and is BUSY (6) during an application (R38, R166). -/
def Obligations.SettingsAreReadAndWritten : Prop :=
  ∀ (s : State) (g i k h l : Byte), s.ready → s.control.state ≠ .starting →
    let id := itemForm g.toNat i.toNat k.toNat
    let v := h.toNat * 256 + l.toNat
    (id = none → exec (.readSetting [g, i, k, 0]) s = .next (settle s (s.answered 12 [3])) ∧
      exec (.writeSetting [g, i, k, h, l]) s = .next (settle s (s.answered 13 [3]))) ∧
    (∀ f ∈ id,
      exec (.readSetting [g, i, k, 0]) s =
        .next (settle s (s.answered 12 (0 :: two (s.settings.active.get g.toNat i.toNat k.toNat)))) ∧
      exec (.readSetting [g, i, k, 1]) s =
        .next (settle s (s.answered 12 (0 :: two (s.settings.pending.get g.toNat i.toNat k.toNat)))) ∧
      (f.stored v = none → exec (.writeSetting [g, i, k, h, l]) s = .next (settle s (s.answered 13 [4]))) ∧
      ∀ x ∈ f.stored v,
        exec (.writeSetting [g, i, k, h, l]) s = .next (settle s { s.answered 13 (0 :: two x ++
            [(match f with
              | .number low high => if v < low ∨ high < v then 1 else 0
              | _ => 0 : Byte)]) with
          settings := { s.settings with pending := s.settings.pending.set g.toNat i.toNat k.toNat x } })) ∧
    (0 < s.settings.waiting.count → exec (.discard []) s = .next (settle s (s.answered 15 [6]))) ∧
    (s.settings.waiting.count = 0 → s.light.channels.length = 16 →
      exec (.discard []) s = .next (settle s { s.answered 15 [0] with
        settings := { s.settings with pending := s.settings.active }
        light := { s.light with channels := s.light.channels.map fun c : Channel => { c with captured := none } } }))

/-- A value written reads back as stored (R166, R185), and every other item reads as before. -/
def Obligations.SettingReadsBack : Prop :=
  ∀ (c : Settings) (g i k v x : Nat),
    c.channels.length = 16 → c.points.length = 4 → c.topology.positions.length = 8 → c.topology.sources.length = 4 →
    c.topology.zones.length = 8 → c.link.owners.length = 8 →
    (∀ p ∈ c.topology.positions, p.remoteBackups.length = 4) → (∀ z ∈ c.topology.zones, z.remoteList.length = 4) →
    (itemForm g i k).bind (fun f => f.stored v) = some x →
    (c.set g i k x).get g i k = x ∧
      ∀ g' i' k' : Nat, (itemForm g' i' k').isSome → (g', i', k') ≠ (g, i, k) → (c.set g i k x).get g' i' k' = c.get g' i' k'

/-- The store makes one write at a time (R170): a free one begins the waiting LOCKOUT write, then the RECORD writes in
the order queued, then SETTINGS, each with its content as it then stands and its duration. At its end a verified
write stands in the store and takes its kind out of the fault set; a failed one posts STORE_FAULT and puts its kind
in (R171), leaving its place as it was or with a bad check, as the sender says (notes/assumptions/14.md). A record
written for the first time takes the place after the newest stored, over the copy of the record discarded at its
opening (R143) or, when sixteen are held still, the oldest's; one written again keeps its place (R148). That a bad
place counts as held, and that a discarded copy goes before the oldest, are the model's choices,
notes/assumptions/41.md. -/
def Obligations.StoreWritesOneAtATime : Prop :=
  ∀ s : State, s.powered = true →
    let st := s.store
    let record := (st.waitRecords.filterMap fun n =>
      s.records.find? fun r => r.number == n && r.state != .opened).head?
    let begins := fun (u : State) (c : WriteContent) (d : Nat) => ({ u with
      store := { u.store with busy := some { content := c, ends := s.clock + d * Config.ms } } } : State)
    (st.busy.isSome → exec .storeWriteBegin s = .next (settle s s)) ∧
    (st.busy = none → st.waitLockout = true → exec .storeWriteBegin s =
      .next (settle s (begins { s with store := { st with waitLockout := false } } (.lockout s.lockout) 5))) ∧
    (st.busy = none → st.waitLockout = false → ∀ r ∈ record, exec .storeWriteBegin s =
      .next (settle s (begins
        { s with store := { st with waitRecords := st.waitRecords.filter fun n => n != r.number } }
        (.record r s.nextRecord) 10))) ∧
    (st.busy = none → st.waitLockout = false → record = none → st.waitSettings = true → exec .storeWriteBegin s =
      .next (settle s (begins
        { s with
          store := { st with waitSettings := false }
          settings := { s.settings with
            image := if 0 < s.settings.waiting.count then s.settings.image else none } }
        (.settings ⟨s.settings.image.getD s.settings.pending, s.settings.serial⟩) 40))) ∧
    (st.busy = none → st.waitLockout = false → record = none → st.waitSettings = false →
      exec .storeWriteBegin s = .next (settle s s)) ∧
    (st.busy = none → ∀ o ∈ [WriteOutcome.verified, .corrupted, .unchanged],
      exec (.storeWriteEnd o) s = .next (settle s s)) ∧
    ∀ w ∈ st.busy,
      let u := s.advanceTo w.ends
      let fault := fun value => enqueue s.notices
        { kind := .storeFault, subject := w.content.kind.code, value, time := u.partTime }
      (∀ i, w.content = .settings i →
        exec (.storeWriteEnd .verified) s = .next (settle s { u with
          store := { st with busy := none, image := .good i, faultSettings := false } }) ∧
        exec (.storeWriteEnd .corrupted) s = .next (settle s { u with
          store := { st with busy := none, image := .bad, faultSettings := true }, notices := fault 0 }) ∧
        exec (.storeWriteEnd .unchanged) s = .next (settle s { u with
          store := { st with busy := none, faultSettings := true }, notices := fault 0 })) ∧
      (∀ l, w.content = .lockout l →
        exec (.storeWriteEnd .verified) s = .next (settle s { u with
          store := { st with busy := none, lockout := .good l, faultLockout := false } }) ∧
        exec (.storeWriteEnd .corrupted) s = .next (settle s { u with
          store := { st with busy := none, lockout := .bad, faultLockout := true }, notices := fault 0 }) ∧
        exec (.storeWriteEnd .unchanged) s = .next (settle s { u with
          store := { st with busy := none, faultLockout := true }, notices := fault 0 })) ∧
      ∀ r next, w.content = .record r next →
        exec (.storeWriteEnd .verified) s = .next (settle s { u with
          store := { st with
            busy := none, records := s.placesAfter r (some { r with written := true })
            nextNumber := some next, faultRecord := false }
          records := s.records.map fun q => if q.number = r.number then { q with written := true } else q }) ∧
        exec (.storeWriteEnd .unchanged) s = .next (settle s { u with
          store := { st with busy := none, faultRecord := true }, notices := fault r.number }) ∧
        (let places := s.placesAfter r
         let left := st.records.eraseP fun q => r.replaces == some q.number
         (r.written = false → (∀ q ∈ left, q.number ∉ numbersAfter r.number s.records) → ∀ x,
          places x = (if left.length < 16 then left else left.drop 1) ++ [⟨r.number, x⟩]) ∧
         (r.written = true → (∃ q ∈ st.records, q.number = r.number) → ∀ x,
          places x = st.records.map fun q => if q.number = r.number then ⟨r.number, x⟩ else q)) ∧
        Gives (.storeWriteEnd .corrupted) s fun t =>
          t.store.records = s.placesAfter r none ∧ t.store.faultRecord = true ∧ t.store.busy = none ∧
          t.store.image = st.image ∧ t.store.lockout = st.lockout ∧ t.notices = fault r.number

/-! ## The station port -/

/-- What the receiver counts (R173, R174, R180): a gap or a stop-bit error in a frame being read, and a length above
200, as framing discards, with the receiver hunting again; while it hunts, none of them. A failed check; a reply of
another unit, and in READY a request to another address, as a foreign frame; any request or broadcast that comes in
ANSWERING as an overrun discard; an ignored broadcast. Nothing is read while the unit transmits (R173; against R179
during a RESTART reply, the model's choice, notes/assumptions/44.md); each changes nothing but its counter. From
hunting, a frame is being read while its characters from the sync byte on are not the whole of it; that a command
carries them is the model's choice, notes/assumptions/25.md. -/
def Obligations.FramesAreCounted : Prop :=
  ∀ (s : State) (address kind : Byte) (cause : FramingCause) (read : List Byte), s.powered = true →
    let c := s.port.counters
    let counted := fun k : PortCounters => ({ s with port := { s.port with counters := k } } : State)
    let up := fun n : Nat => min 65535 (n + 1)
    let framed : State := { s with
      port := { s.port with receiver := .hunting, counters := { c with framing := up c.framing } } }
    let reading := s.port.receiver.after read ≠ .hunting
    let tooLong := s.port.receiver.overLong read = true
    (s.port.transmitting = true → ∀ i ∈ [Instr.frameGapTimeout read, .framingDiscard cause read, .frameCheckFailure,
      .foreignFrame address kind, .overrunDiscard, .ignoredBroadcast kind], exec i s = .next (settle s s)) ∧
    (s.port.transmitting = false →
      (reading → exec (.frameGapTimeout read) s = .next (settle s framed) ∧
        exec (.framingDiscard .stopBit read) s = .next (settle s framed)) ∧
      (¬reading → exec (.frameGapTimeout read) s = .next (settle s s) ∧
        exec (.framingDiscard .stopBit read) s = .next (settle s s)) ∧
      (tooLong → exec (.framingDiscard .length read) s = .next (settle s framed)) ∧
      (¬tooLong → exec (.framingDiscard .length read) s = .next (settle s s)) ∧
      exec .frameCheckFailure s = .next (settle s (counted { c with checks := up c.checks })) ∧
      (128 ≤ kind.toNat → exec (.foreignFrame address kind) s = .next (settle s (counted { c with foreign := up c.foreign })))) ∧
    (s.port.receiver = .hunting → read.head? = some 195 →
      (read.length < 4 → reading) ∧
      (4 ≤ read.length → at0 read 3 ≤ 200 → read.length < at0 read 3 + 6 → reading) ∧
      (read.length = 4 → 200 < at0 read 3 → tooLong ∧ ¬reading)) ∧
    (s.port.receiver = .hunting → (∀ b ∈ read, b ≠ 195) → ¬reading ∧ ¬tooLong) ∧
    (s.port.transmitting = false → s.port.answering = true →
      (kind.toNat < 128 →
        exec (.foreignFrame address kind) s = .next (settle s (counted { c with overruns := up c.overruns }))) ∧
      exec .overrunDiscard s = .next (settle s (counted { c with overruns := up c.overruns })) ∧
      exec (.ignoredBroadcast kind) s = .next (settle s (counted { c with overruns := up c.overruns }))) ∧
    (s.port.transmitting = false → s.port.answering = false →
      exec .overrunDiscard s = .next (settle s s) ∧
      (kind.toNat < 128 → address.toNat ≠ 0 → address.toNat ≠ s.settings.active.station.address →
        exec (.foreignFrame address kind) s = .next (settle s (counted { c with foreign := up c.foreign }))) ∧
      (kind.toNat ≠ 25 ∨ s.control.state = .starting →
        exec (.ignoredBroadcast kind) s = .next (settle s (counted { c with broadcasts := up c.broadcasts }))))

/-- Addressed requests (R174, R175): lost uncounted while the unit transmits (R173; while a RESTART reply is on the line
too, the model's choice against R179, notes/assumptions/44.md), an overrun discard in ANSWERING, and in READY
refused by the first of UNKNOWN_KIND (1), BAD_LENGTH (2) for any length but the kind's (R182), WRONG_STATE (5) in
STARTING for all but IDENTIFY and STATUS, and BAD_INDEX (3) or BAD_VALUE (4) by the body's bytes in their order
(R181). A refusal answers its code alone and changes nothing else but the counter and the test deadline. That two
bad bytes are judged in their order is the model's reading, notes/assumptions/20.md. -/
def Obligations.RequestsAreRefusedInOrder : Prop :=
  ∀ (s : State) (kind : Nat) (body : List Byte), s.powered = true →
    let i := requestOf kind body
    let refused := fun r : Byte => State.answered s kind [r]
    let size := [0, 0, 1, 1, 1, 1, 0, 0, 3, 2, 0, 4, 5, 0, 0, 1, 1, 1, 1, 2, 2, 1, 1, 1, 4, 0].getD (kind - 1) 0
    let first := at0 body 0
    (s.port.transmitting = true → exec i s = .next (settle s s)) ∧
    (s.port.transmitting = false → s.port.answering = true → (kind ∈ upTo 26 ∨ (26 < kind ∧ kind < 128)) →
      exec i s = .next (settle s { s with
        port := { s.port with
          counters := { s.port.counters with overruns := min 65535 (s.port.counters.overruns + 1) } } })) ∧
    (s.ready → (kind = 0 ∨ 26 < kind) → kind < 128 → exec i s = .next (settle s (refused 1))) ∧
    (s.ready → kind ∈ upTo 26 →
      (body.length ≠ size → exec i s = .next (settle s (refused 2))) ∧
      (body.length = size → s.control.state = .starting → kind ≠ 1 → kind ≠ 2 →
        exec i s = .next (settle s (refused 5))) ∧
      (body.length = size → s.control.state ≠ .starting →
        (kind = 3 ∨ kind = 17 ∨ kind = 18 ∨ kind = 19 ∨ kind = 20 → ¬(1 ≤ first ∧ first ≤ 16) →
          exec i s = .next (settle s (refused 3))) ∧
        (kind = 4 ∨ kind = 21 → ¬(1 ≤ first ∧ first ≤ 4) → exec i s = .next (settle s (refused 3))) ∧
        (kind = 5 ∨ kind = 6 ∨ kind = 23 → ¬(1 ≤ first ∧ first ≤ 8) → exec i s = .next (settle s (refused 3))) ∧
        (kind = 20 ∧ 1 ≤ first ∧ first ≤ 16 ∨ kind = 21 ∧ 1 ≤ first ∧ first ≤ 4 → 1 < at0 body 1 →
          exec i s = .next (settle s (refused 4))) ∧
        (kind = 9 → 1 < first → exec i s = .next (settle s (refused 4))) ∧
        (kind = 12 → 1 < at0 body 3 → exec i s = .next (settle s (refused 4))) ∧
        (kind = 16 → 4 < first → exec i s = .next (settle s (refused 4)))))

/-- The read requests answer what their blocks hold at handling and change nothing (R139, R146, R176, R177), in the
layouts of R181 and R183: IDENTIFY and STATUS in every state (whether STATUS counts itself is open,
notes/assumptions/17.md), STATUS with the first summary condition that holds (R177), the channel, point, position,
zone, order and peer records, trip records and notices after STARTING. READ_RECORD answers the oldest UNREAD record
or the one of a number, BAD_INDEX (3) where there is none; ACK_RECORD makes an UNREAD record READ and queues a LIVE
one's write, is WRONG_STATE (5) for the OPEN one (R147); FETCH_NOTICES takes the eight oldest away (R151). The forms
that R181 leaves to reading are the model's, notes/assumptions/18.md, so are the point that READ_POSITION names of
two, notes/assumptions/19.md, the rounding of elapsed and remaining times, notes/assumptions/36.md, and that
READ_CHANNEL shows no burst position during a capture, notes/assumptions/50.md. -/
def Obligations.ReadsAreAnswered : Prop :=
  ∀ (s : State) (n x y : Byte), s.ready →
    let set := s.settings
    let state := byte s.control.state.code
    let c := s.port.counters
    let answers := fun (i : Instr) (kind : Nat) (b : List Byte) => exec i s = .next (settle s (s.answered kind b))
    let since := fun u : Instant => two (min 65535 ((s.clock - u) / 12000))
    let left := fun u : Instant => two (min 65535 ((u - s.clock) / 12000))
    let optByte := optional 1 fun b : Byte => [b]
    let set8 := fun l : List Index => byte (bitmap 8 l)
    let cause := fun k : Cause => [byte k.origin.code, byte k.index]
    let i := n.toNat
    answers (.identify []) 1 (0 :: [76, 84, 56, 49, 54, byte set.active.station.address, byte set.active.link.unit, state,
      byte s.control.cause.code] ++ two set.serial) ∧
    (∃ handled ∈ [c.handled, min 65535 (c.handled + 1)],
      answers (.status []) 2 (0 :: [state, byte s.control.cause.code] ++ two set.serial ++
        [byte set.waiting.count, byte s.notices.length,
          byte (s.records.filter fun r => r.kind == .live && r.state == .unread).length, byte s.orders.length,
          byte (bitmap 8 s.lockout)] ++
        two c.framing ++ two c.checks ++ two c.foreign ++ two c.overruns ++ two c.broadcasts ++ two handled ++
        [if s.control.state = .setupFault then 0
          else if s.orders ≠ [] then 1
          else if ∃ r ∈ s.records, r.kind = .live ∧ r.state = .unread then 2
          else if ∃ m ∈ upTo 16, s.usedChannel m = true ∧ (s.channel m).health ≠ .good then 3
          else if s.control.state ≠ .starting ∧ ∃ p ∈ s.link.peers, p.state = .waiting ∨ p.state = .lost then 4
          else if ∃ p ∈ upTo 8, (s.position p).derived = .invalid then 5
          else if s.store.faultSettings = true ∨ s.store.faultLockout = true ∨ s.store.faultRecord = true then 6
          else if s.notices ≠ [] then 7
          else 8])) ∧
    (s.control.state ≠ .starting → i ∈ upTo 16 →
      let k := s.channelSet i
      let r := s.channel i
      let θ := min 4000 (max k.pickup (r.background + k.margin))
      answers (.readChannel [n]) 3 (0 :: byte k.kind.code :: two k.pickup ++ two k.margin ++ two k.qualify ++
        two k.reference ++ two r.gain ++ byte r.health.code :: two r.background ++ two θ ++ two (θ - θ / 8) ++
        byte r.detection.code :: two r.pickupCount ++ two r.drops ++ optional 4 four r.litSince ++ two r.lastValue ++
        flag (r.detection == .lit || r.detection == .steady) ++ flag r.simulated ++
        two r.gain ++ [byte r.health.code, byte r.strikeKind.code] ++ two r.strikeCount ++ two r.passRun ++
        optional 2 two r.lastReturn ++ optByte (r.lastResult.map fun b => byte b.code) ++ optional 4 four r.lastBurst ++
        optional 4 four r.slotMark ++ optional 2 two (r.burst.map fun b => max 1 b.pulses) ++ two r.passes ++
        two r.dimFails ++ two r.brokenFails ++ two r.skipped ++ optional 2 two r.captured)) ∧
    (s.control.state ≠ .starting → i ∈ upTo 4 →
      let k := s.pointSet i
      let r := s.point i
      answers (.readPoint [n]) 4 (0 :: byte (k.attached.getD 0) :: two k.pickup ++ two (k.pickup * 4096 / 10) ++
        two k.present ++ two (k.present * 4096 / 10) ++ two k.hold ++ byte (k.exported.getD 0) ::
        r.magnitudes.flatMap two ++ r.armed.flatMap flag ++ optional 2 since r.lastQualifying ++ flag r.oc ++ flag r.cp ++
        two r.quiet ++ flag r.simulated ++ optional 2 two r.peak ++ two r.pickups)) ∧
    (s.control.state ≠ .starting → i ∈ upTo 8 →
      let k := s.positionSet i
      let r := s.position i
      let onOff := fun b : Bool => if b then (0 : Byte) else 1
      let point := ((upTo 4).find? fun m => (s.pointSet m).attached == some i).getD 0
      answers (.readPosition [n]) 5 (0 :: flag k.wired ++ two k.discrepancy ++ [onOff r.cl.raw, onOff r.op.raw,
        onOff r.cl.taken, onOff r.op.taken, byte r.derived.code] ++ four r.changedAt ++ optional 2 since r.travelStart ++
        byte point :: flag (s.cleared i) ++ flag (s.unsupervised i) ++ two r.changes ++ flag (s.lockout.contains i))) ∧
    (s.control.state ≠ .starting → i ∈ upTo 8 →
      let k := s.zoneSet i
      let r := s.zone i
      answers (.readZone [n]) 6 (0 :: byte r.state.code :: optByte (r.attr.map fun a => byte a.code) ++ flag r.realLight ++
        flag r.dryLight ++ flag r.realCurrent ++ flag r.dryCurrent ++ flag r.unavailable ++ byte r.condition.code ::
        optByte (r.alertReason.map fun a => byte a.code) ++ flag r.alertMark ++ flag r.remoteHeld ++
        flag (s.exportedLight i) ++ four r.since ++ two r.trips ++ [set8 r.clearing, byte (bitmap 4 r.confirmation)] ++
        four r.setsChangedAt ++ two r.setChanges ++ k.remoteList.flatMap fun e => two (remoteCode e))) ∧
    (s.control.state ≠ .starting →
      answers (.readOrders []) 7 (0 :: byte s.orders.length :: s.orders.flatMap fun o =>
        [byte o.position, byte o.attr.code, byte o.stage.code, byte o.causes.length] ++ o.causes.flatMap cause ++
        two o.further ++ flag o.testOnly ++ since o.startedAt ++
        optional 2 left (if o.stage = .driving then some o.deadline else none) ++ flag o.supervised ++
        optional 1 flag o.escalated ++ flag o.remoteHeld)) ∧
    (s.control.state ≠ .starting →
      let l := s.link
      let flags := fun m : List Index => (upTo 8).flatMap fun i => flag (m.contains i)
      answers (.readPeers []) 8 (0 :: [byte set.active.link.unit, byte l.tx.code] ++ two ((l.suspended.map fun u =>
          min 65535 ((u - s.clock) / 12000)).getD 0) ++
        optional 2 since l.lastStart ++
        optional 8 (fun k : Content => [byte k.unit, byte k.state.code, set8 k.zones, set8 k.currents] ++
          (upTo 4).map fun u => set8 ((upTo 8).filter fun p => k.requests.contains ⟨u, p⟩)) l.lastSent ++
        two l.counters.checkFailures ++ two l.counters.framingErrors ++ two l.counters.arbitrationLosses ++
        two l.counters.voidedStarts ++ two l.counters.strangers ++ two l.counters.duplicates ++
        byte l.peers.length :: l.peers.flatMap fun p =>
          [byte p.unit, byte p.state.code] ++ optByte (p.reported.map fun r => byte r.code) ++ flags p.light ++
          flags p.current ++ flags p.requests ++ optional 2 since p.lastHeard ++ optional 2 left p.silence)) ∧
    (s.control.state ≠ .starting →
      let number := x.toNat * 256 + y.toNat
      let named := if number = 0 then none else s.records.find? fun r => r.number == number
      let oldest := s.records.find? fun r => r.state == .unread
      let bytes := fun r : TripRecord => two r.number ++ [byte r.kind.code, byte r.state.code] ++ four r.openedAt ++
        cause r.cause ++ two (bitmap 16 r.light) ++ [set8 r.zones] ++ optional 8 (fun l => l.flatMap two) r.peaks ++
        flag r.olderLost ++ two r.lost ++ byte r.entries.length :: r.entries.flatMap fun e =>
          byte e.position :: cause e.cause ++ flag e.live ++ byte e.stage.code :: two e.created ++
          optional 2 two e.confirmed ++ optional 2 two e.released
      (∀ r ∈ oldest, answers (.readRecord [1, x, y]) 9 (0 :: bytes r)) ∧
      (oldest = none → answers (.readRecord [1, x, y]) 9 [3]) ∧
      (∀ r ∈ named, answers (.readRecord [0, x, y]) 9 (0 :: bytes r)) ∧
      (named = none → answers (.readRecord [0, x, y]) 9 [3] ∧ answers (.ackRecord [x, y]) 10 [3]) ∧
      (∀ r ∈ named, r.state = .opened → answers (.ackRecord [x, y]) 10 [5]) ∧
      (∀ r ∈ named, r.state = .read → answers (.ackRecord [x, y]) 10 [0]) ∧
      (∀ r ∈ named, r.state = .unread → exec (.ackRecord [x, y]) s = .next (settle s { s.answered 10 [0] with
        records := s.records.map fun q => if q.number = number ∧ q.state = .unread then { q with state := .read } else q
        store := { s.store with
          waitRecords :=
            if r.kind = .live ∧ number ∉ s.store.waitRecords then s.store.waitRecords ++ [number]
            else s.store.waitRecords } })) ∧
      exec (.fetchNotices []) s = .next (settle s { s.answered 11
          (0 :: byte (s.notices.length - 8) :: byte (min 8 s.notices.length) :: (s.notices.take 8).flatMap fun e =>
            byte e.kind.code :: two e.subject ++ two e.value ++ four e.time) with
        notices := s.notices.drop 8 }))

/-- The reply on the line (R174): it begins no sooner than 0.5 ms after the request; when its last byte has gone the
port is READY. Then an accepted RESTART resets the part (R179), a waiting station group is applied (R168), and an
APPLY_DONE that awaited the reply is posted (R169; that it may wait is the model's choice, notes/assumptions/16.md).
RESTART itself only answers. TIME_SET sets part time, addressed with an answer and broadcast without (R178); its
place within the millisecond is free (notes/assumptions/8.md), and so is whether a broadcast of a wrong length is
counted (notes/assumptions/10.md). A broadcast is lost uncounted while the unit transmits (R173; while a RESTART
reply is on the line too, the model's choice against R179, notes/assumptions/44.md). That the write in progress
verifies before a restart is PRESUMED, notes/assumptions/15.md; for the pending T_ref of an abandoned capture see
notes/assumptions/45.md, for the record places 41.md; that APPLY_DONE stands behind other notices of its command is
the model's choice, notes/assumptions/24.md. A REPLY_SENT without a REPLY_START takes the reply as begun at its
earliest, the model's choice, notes/assumptions/32.md. -/
def Obligations.RepliesAndTimeFollow : Prop :=
  ∀ (s : State) (body : List Byte), s.powered = true →
    let p := s.port
    let v := s.advanceTo (p.handledAt + 6000)
    let begun : State := { v with port := { p with transmitting := true, replyStart := v.clock } }
    let b := if p.transmitting then s else begun
    let w := b.advanceTo (b.port.replyStart + (p.reply.length * 3125 + 2) / 3)
    let e : State := { w with port := { b.port with answering := false, transmitting := false, reply := [] } }
    let waiting := s.settings.waiting
    (p.answering = true → p.transmitting = false → exec .replyStart s = .next (settle s begun)) ∧
    (¬(p.answering = true ∧ p.transmitting = false) → exec .replyStart s = .next (settle s s)) ∧
    (p.answering = false → exec .replySent s = .next (settle s s)) ∧
    (p.answering = true → p.restartAfter = true →
      Gives .replySent s fun t => t.powered = true ∧ e.completeWrites.resetLeaves .restartRequest t) ∧
    (p.answering = true → p.restartAfter = false → waiting.station = false → s.settings.doneOwed = false →
      exec .replySent s = .next (settle s e)) ∧
    (p.answering = true → p.restartAfter = false →
      (waiting.station = true ∧ s.settings.doneOwed = false) ∨ (waiting.count = 0 ∧ s.settings.doneOwed = true) →
      Gives .replySent s fun t =>
        e.partApplied
          { s.settings.active with
            station := if waiting.station = true then (s.settings.image.getD s.settings.pending).station
              else s.settings.active.station }
          { waiting with station := false } t ∧
        t.apart = { e with settings := t.settings, control := t.control }.apart) ∧
    (s.ready → s.control.state ≠ .starting → exec (.restart []) s = .next (settle s { s.answered 26 [0] with
      port := { (s.answered 26 [0]).port with restartAfter := true } })) ∧
    (body.length = 4 → s.control.state ≠ .starting → s.ready →
      (Gives (.timeSet false body) s fun t => t.msPhase < 12000 ∧ t = settle s { s.answered 25 [0] with
        partTime := at4 body 0, msPhase := t.msPhase, freeIndex := t.freeIndex }) ∧
      Gives (.timeSet true body) s fun t => t.msPhase < 12000 ∧ t = settle s { s with
        partTime := at4 body 0, msPhase := t.msPhase, freeIndex := t.freeIndex }) ∧
    let ignored : State := { s with
      port := { p with counters := { p.counters with broadcasts := min 65535 (p.counters.broadcasts + 1) } } }
    (s.ready → s.control.state = .starting → exec (.timeSet true body) s = .next (settle s ignored)) ∧
    (s.ready → s.control.state ≠ .starting → body.length ≠ 4 → Gives (.timeSet true body) s fun t =>
      t = settle s { s with freeIndex := t.freeIndex } ∨ t = settle s { ignored with freeIndex := t.freeIndex }) ∧
    (p.transmitting = false → p.answering = true → exec (.timeSet true body) s = .next (settle s { s with
      port := { p with counters := { p.counters with overruns := min 65535 (p.counters.overruns + 1) } } })) ∧
    (p.transmitting = true → exec (.timeSet true body) s = .next (settle s s))

/-- The requests on channels and points, by the channel's detection state: CHANNEL_OUT (R17), CHANNEL_IN (R18, R35),
CAPTURE_REFERENCE (R36), SIMULATE_LIGHT (R20) and SIMULATE_CURRENT (R51), each with its refusals in order: BAD_INDEX
(3) for an UNUSED channel, BUSY (6) in REFERENCING or a burst, WRONG_STATE (5). Beside the record only the decision
path may change. -/
def Obligations.ChannelRequestsAct : Prop :=
  ∀ (s : State) (x : Byte) (on : Bool), s.ready → s.control.state ≠ .starting → x.toNat ∈ upTo 16 →
    s.light.channels.length = 16 → s.current.points.length = 4 →
    let n := x.toNat
    let c := s.channel n
    let flag : Byte := if on then 1 else 0
    let answers := fun (i : Instr) (kind : Nat) (r : Byte) => exec i s = .next (settle s (s.answered kind [r]))
    (c.detection = .unused → answers (.channelOut [x]) 17 3 ∧ answers (.channelIn [x]) 18 3 ∧
      answers (.captureReference [x]) 19 3 ∧ (s.control.state = .test → answers (.simulateLight [x, flag]) 20 3)) ∧
    (c.detection = .referencing → answers (.channelOut [x]) 17 6 ∧ answers (.channelIn [x]) 18 6 ∧
      answers (.captureReference [x]) 19 6 ∧ (s.control.state = .test → answers (.simulateLight [x, flag]) 20 6)) ∧
    (c.detection = .out → answers (.channelOut [x]) 17 0 ∧
      (Gives (.channelIn [x]) s fun t => t.apart = ((s.answered 18 [0]).setChannel n { c with
        detection := if c.health = .broken then .suspended else .dark
        pickupCount := 0, drops := 0, passes := 0, dimFails := 0, brokenFails := 0, skipped := 0 }).apart) ∧
      (c.burst.isSome → answers (.captureReference [x]) 19 6) ∧
      (c.burst = none → exec (.captureReference [x]) s = .next (settle s ((s.answered 19 [0]).setChannel n { c with
        detection := .referencing, capture := some { begun := 0, samples := 0, pulses := 0, sum := 0, means := 0 } }))) ∧
      (s.control.state = .test → answers (.simulateLight [x, flag]) 20 5)) ∧
    (c.detection ∈ [Detection.suspended, .dark, .pickup, .lit, .steady] →
      (Gives (.channelOut [x]) s fun t => t.apart = ((s.answered 17 [0]).setChannel n { c with
        detection := .out, simulated := false, pickupCount := 0, drops := 0, litSince := none }).apart) ∧
      answers (.channelIn [x]) 18 5 ∧ answers (.captureReference [x]) 19 5 ∧
      (s.control.state = .test → Gives (.simulateLight [x, flag]) s fun t =>
        t.apart = ((s.answered 20 [0]).setChannel n { c with simulated := on }).apart)) ∧
    (s.control.state ≠ .test → answers (.simulateLight [x, flag]) 20 5) ∧
    (n ∈ upTo 4 → (s.control.state ≠ .test → answers (.simulateCurrent [x, flag]) 21 5) ∧
      (s.control.state = .test →
        (Gives (.simulateCurrent [x, flag]) s fun t =>
          t.apart = ((s.answered 21 [0]).setPoint n { s.point n with simulated := on }).apart) ∧
        ((s.point n).simulated = on → exec (.simulateCurrent [x, flag]) s = .next (settle s (s.answered 21 [0])))))

/-- Reading a frame gives back the request it was written for (R173, R182): at the unit addressed the request itself,
whole, at any other unit a foreign frame; what was passed over before its sync byte and what follows its check
change nothing. A frame in which more than three character times pass between two characters is given up, and so is
one with a stop-bit error; three character times are not too long. What a command of the port carries of its frame
is the model's choice, notes/assumptions/25.md. -/
def Obligations.FrameReadsBack : Prop :=
  ∀ (i : Instr) (kind : Nat) (body : List Byte) (own other : Nat), i.requestParts = some (kind, body) →
    body.length ≤ 200 → own ∈ upTo 30 → other ∈ upTo 30 →
    ∀ f ∈ requestFrame own i, f.length = body.length + 6 ∧ readFrame own f = some i ∧
      (other ≠ own → readFrame other f = some (.foreignFrame (byte own) (byte kind))) ∧
      (∀ before after : List Byte, (∀ b ∈ before, b ≠ 195) → readFrame own (before ++ f ++ after) = some i) ∧
      ∀ (k : Nat) (b : Byte) (gap : Instant) (rest : List Character), 0 < k → k < f.length →
        let begun := (f.take k).map Character.good
        (∀ stop, 3125 < gap → (readLine own (begun ++ ⟨b, stop, gap⟩ :: rest)).head? = some (.frameGapTimeout (f.take k))) ∧
        (gap ≤ 3125 →
          (readLine own (begun ++ ⟨b, false, gap⟩ :: rest)).head? = some (.framingDiscard .stopBit (f.take k)) ∧
          ∀ c ∈ f[k]?, readLine own (begun ++ ⟨c, true, gap⟩ :: (f.drop (k + 1)).map Character.good) = [i])
end

