-- ==== Sys2Proof/Laws/State.lean ====
section
/-! SUPPORT. One lemma for each field and each named update of State: the field an update does not touch stands as it
was. Later proofs cite these and unfold no record update. -/

namespace Sys2Proof.Machine

variable (s : State)

/-! ### setChannel -/

@[simp] theorem State.setChannel_powered (n : Index) (c : Channel) : (s.setChannel n c).powered = s.powered := rfl
@[simp] theorem State.setChannel_clock (n : Index) (c : Channel) : (s.setChannel n c).clock = s.clock := rfl
@[simp] theorem State.setChannel_partTime (n : Index) (c : Channel) : (s.setChannel n c).partTime = s.partTime := rfl
@[simp] theorem State.setChannel_msPhase (n : Index) (c : Channel) : (s.setChannel n c).msPhase = s.msPhase := rfl
@[simp] theorem State.setChannel_current (n : Index) (c : Channel) : (s.setChannel n c).current = s.current := rfl
@[simp] theorem State.setChannel_positions (n : Index) (c : Channel) : (s.setChannel n c).positions = s.positions := rfl
@[simp] theorem State.setChannel_zones (n : Index) (c : Channel) : (s.setChannel n c).zones = s.zones := rfl
@[simp] theorem State.setChannel_orders (n : Index) (c : Channel) : (s.setChannel n c).orders = s.orders := rfl
@[simp] theorem State.setChannel_outputs (n : Index) (c : Channel) : (s.setChannel n c).outputs = s.outputs := rfl
@[simp] theorem State.setChannel_lockout (n : Index) (c : Channel) : (s.setChannel n c).lockout = s.lockout := rfl
@[simp] theorem State.setChannel_lockoutContact (n : Index) (c : Channel) : (s.setChannel n c).lockoutContact = s.lockoutContact := rfl
@[simp] theorem State.setChannel_button (n : Index) (c : Channel) : (s.setChannel n c).button = s.button := rfl
@[simp] theorem State.setChannel_terminal (n : Index) (c : Channel) : (s.setChannel n c).terminal = s.terminal := rfl
@[simp] theorem State.setChannel_link (n : Index) (c : Channel) : (s.setChannel n c).link = s.link := rfl
@[simp] theorem State.setChannel_records (n : Index) (c : Channel) : (s.setChannel n c).records = s.records := rfl
@[simp] theorem State.setChannel_nextRecord (n : Index) (c : Channel) : (s.setChannel n c).nextRecord = s.nextRecord := rfl
@[simp] theorem State.setChannel_incidentStart (n : Index) (c : Channel) : (s.setChannel n c).incidentStart = s.incidentStart := rfl
@[simp] theorem State.setChannel_notices (n : Index) (c : Channel) : (s.setChannel n c).notices = s.notices := rfl
@[simp] theorem State.setChannel_attention (n : Index) (c : Channel) : (s.setChannel n c).attention = s.attention := rfl
@[simp] theorem State.setChannel_control (n : Index) (c : Channel) : (s.setChannel n c).control = s.control := rfl
@[simp] theorem State.setChannel_health (n : Index) (c : Channel) : (s.setChannel n c).health = s.health := rfl
@[simp] theorem State.setChannel_alarm (n : Index) (c : Channel) : (s.setChannel n c).alarm = s.alarm := rfl
@[simp] theorem State.setChannel_settings (n : Index) (c : Channel) : (s.setChannel n c).settings = s.settings := rfl
@[simp] theorem State.setChannel_store (n : Index) (c : Channel) : (s.setChannel n c).store = s.store := rfl
@[simp] theorem State.setChannel_port (n : Index) (c : Channel) : (s.setChannel n c).port = s.port := rfl
@[simp] theorem State.setChannel_sched (n : Index) (c : Channel) : (s.setChannel n c).sched = s.sched := rfl
@[simp] theorem State.setChannel_freeIndex (n : Index) (c : Channel) : (s.setChannel n c).freeIndex = s.freeIndex := rfl
@[simp] theorem State.setChannel_pending (n : Index) (c : Channel) : (s.setChannel n c).pending = s.pending := rfl

/-! ### setPoint -/

@[simp] theorem State.setPoint_powered (m : Index) (c : Point) : (s.setPoint m c).powered = s.powered := rfl
@[simp] theorem State.setPoint_clock (m : Index) (c : Point) : (s.setPoint m c).clock = s.clock := rfl
@[simp] theorem State.setPoint_partTime (m : Index) (c : Point) : (s.setPoint m c).partTime = s.partTime := rfl
@[simp] theorem State.setPoint_msPhase (m : Index) (c : Point) : (s.setPoint m c).msPhase = s.msPhase := rfl
@[simp] theorem State.setPoint_light (m : Index) (c : Point) : (s.setPoint m c).light = s.light := rfl
@[simp] theorem State.setPoint_positions (m : Index) (c : Point) : (s.setPoint m c).positions = s.positions := rfl
@[simp] theorem State.setPoint_zones (m : Index) (c : Point) : (s.setPoint m c).zones = s.zones := rfl
@[simp] theorem State.setPoint_orders (m : Index) (c : Point) : (s.setPoint m c).orders = s.orders := rfl
@[simp] theorem State.setPoint_outputs (m : Index) (c : Point) : (s.setPoint m c).outputs = s.outputs := rfl
@[simp] theorem State.setPoint_lockout (m : Index) (c : Point) : (s.setPoint m c).lockout = s.lockout := rfl
@[simp] theorem State.setPoint_lockoutContact (m : Index) (c : Point) : (s.setPoint m c).lockoutContact = s.lockoutContact := rfl
@[simp] theorem State.setPoint_button (m : Index) (c : Point) : (s.setPoint m c).button = s.button := rfl
@[simp] theorem State.setPoint_terminal (m : Index) (c : Point) : (s.setPoint m c).terminal = s.terminal := rfl
@[simp] theorem State.setPoint_link (m : Index) (c : Point) : (s.setPoint m c).link = s.link := rfl
@[simp] theorem State.setPoint_records (m : Index) (c : Point) : (s.setPoint m c).records = s.records := rfl
@[simp] theorem State.setPoint_nextRecord (m : Index) (c : Point) : (s.setPoint m c).nextRecord = s.nextRecord := rfl
@[simp] theorem State.setPoint_incidentStart (m : Index) (c : Point) : (s.setPoint m c).incidentStart = s.incidentStart := rfl
@[simp] theorem State.setPoint_notices (m : Index) (c : Point) : (s.setPoint m c).notices = s.notices := rfl
@[simp] theorem State.setPoint_attention (m : Index) (c : Point) : (s.setPoint m c).attention = s.attention := rfl
@[simp] theorem State.setPoint_control (m : Index) (c : Point) : (s.setPoint m c).control = s.control := rfl
@[simp] theorem State.setPoint_health (m : Index) (c : Point) : (s.setPoint m c).health = s.health := rfl
@[simp] theorem State.setPoint_alarm (m : Index) (c : Point) : (s.setPoint m c).alarm = s.alarm := rfl
@[simp] theorem State.setPoint_settings (m : Index) (c : Point) : (s.setPoint m c).settings = s.settings := rfl
@[simp] theorem State.setPoint_store (m : Index) (c : Point) : (s.setPoint m c).store = s.store := rfl
@[simp] theorem State.setPoint_port (m : Index) (c : Point) : (s.setPoint m c).port = s.port := rfl
@[simp] theorem State.setPoint_sched (m : Index) (c : Point) : (s.setPoint m c).sched = s.sched := rfl
@[simp] theorem State.setPoint_freeIndex (m : Index) (c : Point) : (s.setPoint m c).freeIndex = s.freeIndex := rfl
@[simp] theorem State.setPoint_pending (m : Index) (c : Point) : (s.setPoint m c).pending = s.pending := rfl

/-! ### setPosition -/

@[simp] theorem State.setPosition_powered (p : Index) (c : Position) : (s.setPosition p c).powered = s.powered := rfl
@[simp] theorem State.setPosition_clock (p : Index) (c : Position) : (s.setPosition p c).clock = s.clock := rfl
@[simp] theorem State.setPosition_partTime (p : Index) (c : Position) : (s.setPosition p c).partTime = s.partTime := rfl
@[simp] theorem State.setPosition_msPhase (p : Index) (c : Position) : (s.setPosition p c).msPhase = s.msPhase := rfl
@[simp] theorem State.setPosition_light (p : Index) (c : Position) : (s.setPosition p c).light = s.light := rfl
@[simp] theorem State.setPosition_current (p : Index) (c : Position) : (s.setPosition p c).current = s.current := rfl
@[simp] theorem State.setPosition_zones (p : Index) (c : Position) : (s.setPosition p c).zones = s.zones := rfl
@[simp] theorem State.setPosition_orders (p : Index) (c : Position) : (s.setPosition p c).orders = s.orders := rfl
@[simp] theorem State.setPosition_outputs (p : Index) (c : Position) : (s.setPosition p c).outputs = s.outputs := rfl
@[simp] theorem State.setPosition_lockout (p : Index) (c : Position) : (s.setPosition p c).lockout = s.lockout := rfl
@[simp] theorem State.setPosition_lockoutContact (p : Index) (c : Position) : (s.setPosition p c).lockoutContact = s.lockoutContact := rfl
@[simp] theorem State.setPosition_button (p : Index) (c : Position) : (s.setPosition p c).button = s.button := rfl
@[simp] theorem State.setPosition_terminal (p : Index) (c : Position) : (s.setPosition p c).terminal = s.terminal := rfl
@[simp] theorem State.setPosition_link (p : Index) (c : Position) : (s.setPosition p c).link = s.link := rfl
@[simp] theorem State.setPosition_records (p : Index) (c : Position) : (s.setPosition p c).records = s.records := rfl
@[simp] theorem State.setPosition_nextRecord (p : Index) (c : Position) : (s.setPosition p c).nextRecord = s.nextRecord := rfl
@[simp] theorem State.setPosition_incidentStart (p : Index) (c : Position) : (s.setPosition p c).incidentStart = s.incidentStart := rfl
@[simp] theorem State.setPosition_notices (p : Index) (c : Position) : (s.setPosition p c).notices = s.notices := rfl
@[simp] theorem State.setPosition_attention (p : Index) (c : Position) : (s.setPosition p c).attention = s.attention := rfl
@[simp] theorem State.setPosition_control (p : Index) (c : Position) : (s.setPosition p c).control = s.control := rfl
@[simp] theorem State.setPosition_health (p : Index) (c : Position) : (s.setPosition p c).health = s.health := rfl
@[simp] theorem State.setPosition_alarm (p : Index) (c : Position) : (s.setPosition p c).alarm = s.alarm := rfl
@[simp] theorem State.setPosition_settings (p : Index) (c : Position) : (s.setPosition p c).settings = s.settings := rfl
@[simp] theorem State.setPosition_store (p : Index) (c : Position) : (s.setPosition p c).store = s.store := rfl
@[simp] theorem State.setPosition_port (p : Index) (c : Position) : (s.setPosition p c).port = s.port := rfl
@[simp] theorem State.setPosition_sched (p : Index) (c : Position) : (s.setPosition p c).sched = s.sched := rfl
@[simp] theorem State.setPosition_freeIndex (p : Index) (c : Position) : (s.setPosition p c).freeIndex = s.freeIndex := rfl
@[simp] theorem State.setPosition_pending (p : Index) (c : Position) : (s.setPosition p c).pending = s.pending := rfl

/-! ### setZone -/

@[simp] theorem State.setZone_powered (z : Index) (c : Zone) : (s.setZone z c).powered = s.powered := rfl
@[simp] theorem State.setZone_clock (z : Index) (c : Zone) : (s.setZone z c).clock = s.clock := rfl
@[simp] theorem State.setZone_partTime (z : Index) (c : Zone) : (s.setZone z c).partTime = s.partTime := rfl
@[simp] theorem State.setZone_msPhase (z : Index) (c : Zone) : (s.setZone z c).msPhase = s.msPhase := rfl
@[simp] theorem State.setZone_light (z : Index) (c : Zone) : (s.setZone z c).light = s.light := rfl
@[simp] theorem State.setZone_current (z : Index) (c : Zone) : (s.setZone z c).current = s.current := rfl
@[simp] theorem State.setZone_positions (z : Index) (c : Zone) : (s.setZone z c).positions = s.positions := rfl
@[simp] theorem State.setZone_orders (z : Index) (c : Zone) : (s.setZone z c).orders = s.orders := rfl
@[simp] theorem State.setZone_outputs (z : Index) (c : Zone) : (s.setZone z c).outputs = s.outputs := rfl
@[simp] theorem State.setZone_lockout (z : Index) (c : Zone) : (s.setZone z c).lockout = s.lockout := rfl
@[simp] theorem State.setZone_lockoutContact (z : Index) (c : Zone) : (s.setZone z c).lockoutContact = s.lockoutContact := rfl
@[simp] theorem State.setZone_button (z : Index) (c : Zone) : (s.setZone z c).button = s.button := rfl
@[simp] theorem State.setZone_terminal (z : Index) (c : Zone) : (s.setZone z c).terminal = s.terminal := rfl
@[simp] theorem State.setZone_link (z : Index) (c : Zone) : (s.setZone z c).link = s.link := rfl
@[simp] theorem State.setZone_records (z : Index) (c : Zone) : (s.setZone z c).records = s.records := rfl
@[simp] theorem State.setZone_nextRecord (z : Index) (c : Zone) : (s.setZone z c).nextRecord = s.nextRecord := rfl
@[simp] theorem State.setZone_incidentStart (z : Index) (c : Zone) : (s.setZone z c).incidentStart = s.incidentStart := rfl
@[simp] theorem State.setZone_notices (z : Index) (c : Zone) : (s.setZone z c).notices = s.notices := rfl
@[simp] theorem State.setZone_attention (z : Index) (c : Zone) : (s.setZone z c).attention = s.attention := rfl
@[simp] theorem State.setZone_control (z : Index) (c : Zone) : (s.setZone z c).control = s.control := rfl
@[simp] theorem State.setZone_health (z : Index) (c : Zone) : (s.setZone z c).health = s.health := rfl
@[simp] theorem State.setZone_alarm (z : Index) (c : Zone) : (s.setZone z c).alarm = s.alarm := rfl
@[simp] theorem State.setZone_settings (z : Index) (c : Zone) : (s.setZone z c).settings = s.settings := rfl
@[simp] theorem State.setZone_store (z : Index) (c : Zone) : (s.setZone z c).store = s.store := rfl
@[simp] theorem State.setZone_port (z : Index) (c : Zone) : (s.setZone z c).port = s.port := rfl
@[simp] theorem State.setZone_sched (z : Index) (c : Zone) : (s.setZone z c).sched = s.sched := rfl
@[simp] theorem State.setZone_freeIndex (z : Index) (c : Zone) : (s.setZone z c).freeIndex = s.freeIndex := rfl
@[simp] theorem State.setZone_pending (z : Index) (c : Zone) : (s.setZone z c).pending = s.pending := rfl

/-! ### mapPeer -/

@[simp] theorem State.mapPeer_powered (u : Index) (f : Peer → Peer) : (s.mapPeer u f).powered = s.powered := rfl
@[simp] theorem State.mapPeer_clock (u : Index) (f : Peer → Peer) : (s.mapPeer u f).clock = s.clock := rfl
@[simp] theorem State.mapPeer_partTime (u : Index) (f : Peer → Peer) : (s.mapPeer u f).partTime = s.partTime := rfl
@[simp] theorem State.mapPeer_msPhase (u : Index) (f : Peer → Peer) : (s.mapPeer u f).msPhase = s.msPhase := rfl
@[simp] theorem State.mapPeer_light (u : Index) (f : Peer → Peer) : (s.mapPeer u f).light = s.light := rfl
@[simp] theorem State.mapPeer_current (u : Index) (f : Peer → Peer) : (s.mapPeer u f).current = s.current := rfl
@[simp] theorem State.mapPeer_positions (u : Index) (f : Peer → Peer) : (s.mapPeer u f).positions = s.positions := rfl
@[simp] theorem State.mapPeer_zones (u : Index) (f : Peer → Peer) : (s.mapPeer u f).zones = s.zones := rfl
@[simp] theorem State.mapPeer_orders (u : Index) (f : Peer → Peer) : (s.mapPeer u f).orders = s.orders := rfl
@[simp] theorem State.mapPeer_outputs (u : Index) (f : Peer → Peer) : (s.mapPeer u f).outputs = s.outputs := rfl
@[simp] theorem State.mapPeer_lockout (u : Index) (f : Peer → Peer) : (s.mapPeer u f).lockout = s.lockout := rfl
@[simp] theorem State.mapPeer_lockoutContact (u : Index) (f : Peer → Peer) : (s.mapPeer u f).lockoutContact = s.lockoutContact := rfl
@[simp] theorem State.mapPeer_button (u : Index) (f : Peer → Peer) : (s.mapPeer u f).button = s.button := rfl
@[simp] theorem State.mapPeer_terminal (u : Index) (f : Peer → Peer) : (s.mapPeer u f).terminal = s.terminal := rfl
@[simp] theorem State.mapPeer_records (u : Index) (f : Peer → Peer) : (s.mapPeer u f).records = s.records := rfl
@[simp] theorem State.mapPeer_nextRecord (u : Index) (f : Peer → Peer) : (s.mapPeer u f).nextRecord = s.nextRecord := rfl
@[simp] theorem State.mapPeer_incidentStart (u : Index) (f : Peer → Peer) : (s.mapPeer u f).incidentStart = s.incidentStart := rfl
@[simp] theorem State.mapPeer_notices (u : Index) (f : Peer → Peer) : (s.mapPeer u f).notices = s.notices := rfl
@[simp] theorem State.mapPeer_attention (u : Index) (f : Peer → Peer) : (s.mapPeer u f).attention = s.attention := rfl
@[simp] theorem State.mapPeer_control (u : Index) (f : Peer → Peer) : (s.mapPeer u f).control = s.control := rfl
@[simp] theorem State.mapPeer_health (u : Index) (f : Peer → Peer) : (s.mapPeer u f).health = s.health := rfl
@[simp] theorem State.mapPeer_alarm (u : Index) (f : Peer → Peer) : (s.mapPeer u f).alarm = s.alarm := rfl
@[simp] theorem State.mapPeer_settings (u : Index) (f : Peer → Peer) : (s.mapPeer u f).settings = s.settings := rfl
@[simp] theorem State.mapPeer_store (u : Index) (f : Peer → Peer) : (s.mapPeer u f).store = s.store := rfl
@[simp] theorem State.mapPeer_port (u : Index) (f : Peer → Peer) : (s.mapPeer u f).port = s.port := rfl
@[simp] theorem State.mapPeer_sched (u : Index) (f : Peer → Peer) : (s.mapPeer u f).sched = s.sched := rfl
@[simp] theorem State.mapPeer_freeIndex (u : Index) (f : Peer → Peer) : (s.mapPeer u f).freeIndex = s.freeIndex := rfl
@[simp] theorem State.mapPeer_pending (u : Index) (f : Peer → Peer) : (s.mapPeer u f).pending = s.pending := rfl

/-! ### mapOrder -/

@[simp] theorem State.mapOrder_powered (p : Index) (f : Order → Order) : (s.mapOrder p f).powered = s.powered := rfl
@[simp] theorem State.mapOrder_clock (p : Index) (f : Order → Order) : (s.mapOrder p f).clock = s.clock := rfl
@[simp] theorem State.mapOrder_partTime (p : Index) (f : Order → Order) : (s.mapOrder p f).partTime = s.partTime := rfl
@[simp] theorem State.mapOrder_msPhase (p : Index) (f : Order → Order) : (s.mapOrder p f).msPhase = s.msPhase := rfl
@[simp] theorem State.mapOrder_light (p : Index) (f : Order → Order) : (s.mapOrder p f).light = s.light := rfl
@[simp] theorem State.mapOrder_current (p : Index) (f : Order → Order) : (s.mapOrder p f).current = s.current := rfl
@[simp] theorem State.mapOrder_positions (p : Index) (f : Order → Order) : (s.mapOrder p f).positions = s.positions := rfl
@[simp] theorem State.mapOrder_zones (p : Index) (f : Order → Order) : (s.mapOrder p f).zones = s.zones := rfl
@[simp] theorem State.mapOrder_outputs (p : Index) (f : Order → Order) : (s.mapOrder p f).outputs = s.outputs := rfl
@[simp] theorem State.mapOrder_lockout (p : Index) (f : Order → Order) : (s.mapOrder p f).lockout = s.lockout := rfl
@[simp] theorem State.mapOrder_lockoutContact (p : Index) (f : Order → Order) : (s.mapOrder p f).lockoutContact = s.lockoutContact := rfl
@[simp] theorem State.mapOrder_button (p : Index) (f : Order → Order) : (s.mapOrder p f).button = s.button := rfl
@[simp] theorem State.mapOrder_terminal (p : Index) (f : Order → Order) : (s.mapOrder p f).terminal = s.terminal := rfl
@[simp] theorem State.mapOrder_link (p : Index) (f : Order → Order) : (s.mapOrder p f).link = s.link := rfl
@[simp] theorem State.mapOrder_records (p : Index) (f : Order → Order) : (s.mapOrder p f).records = s.records := rfl
@[simp] theorem State.mapOrder_nextRecord (p : Index) (f : Order → Order) : (s.mapOrder p f).nextRecord = s.nextRecord := rfl
@[simp] theorem State.mapOrder_incidentStart (p : Index) (f : Order → Order) : (s.mapOrder p f).incidentStart = s.incidentStart := rfl
@[simp] theorem State.mapOrder_notices (p : Index) (f : Order → Order) : (s.mapOrder p f).notices = s.notices := rfl
@[simp] theorem State.mapOrder_attention (p : Index) (f : Order → Order) : (s.mapOrder p f).attention = s.attention := rfl
@[simp] theorem State.mapOrder_control (p : Index) (f : Order → Order) : (s.mapOrder p f).control = s.control := rfl
@[simp] theorem State.mapOrder_health (p : Index) (f : Order → Order) : (s.mapOrder p f).health = s.health := rfl
@[simp] theorem State.mapOrder_alarm (p : Index) (f : Order → Order) : (s.mapOrder p f).alarm = s.alarm := rfl
@[simp] theorem State.mapOrder_settings (p : Index) (f : Order → Order) : (s.mapOrder p f).settings = s.settings := rfl
@[simp] theorem State.mapOrder_store (p : Index) (f : Order → Order) : (s.mapOrder p f).store = s.store := rfl
@[simp] theorem State.mapOrder_port (p : Index) (f : Order → Order) : (s.mapOrder p f).port = s.port := rfl
@[simp] theorem State.mapOrder_sched (p : Index) (f : Order → Order) : (s.mapOrder p f).sched = s.sched := rfl
@[simp] theorem State.mapOrder_freeIndex (p : Index) (f : Order → Order) : (s.mapOrder p f).freeIndex = s.freeIndex := rfl
@[simp] theorem State.mapOrder_pending (p : Index) (f : Order → Order) : (s.mapOrder p f).pending = s.pending := rfl

/-! ### post -/

@[simp] theorem State.post_powered (k : NoticeKind) (a b : Nat) : (s.post k a b).powered = s.powered := rfl
@[simp] theorem State.post_clock (k : NoticeKind) (a b : Nat) : (s.post k a b).clock = s.clock := rfl
@[simp] theorem State.post_partTime (k : NoticeKind) (a b : Nat) : (s.post k a b).partTime = s.partTime := rfl
@[simp] theorem State.post_msPhase (k : NoticeKind) (a b : Nat) : (s.post k a b).msPhase = s.msPhase := rfl
@[simp] theorem State.post_light (k : NoticeKind) (a b : Nat) : (s.post k a b).light = s.light := rfl
@[simp] theorem State.post_current (k : NoticeKind) (a b : Nat) : (s.post k a b).current = s.current := rfl
@[simp] theorem State.post_positions (k : NoticeKind) (a b : Nat) : (s.post k a b).positions = s.positions := rfl
@[simp] theorem State.post_zones (k : NoticeKind) (a b : Nat) : (s.post k a b).zones = s.zones := rfl
@[simp] theorem State.post_orders (k : NoticeKind) (a b : Nat) : (s.post k a b).orders = s.orders := rfl
@[simp] theorem State.post_outputs (k : NoticeKind) (a b : Nat) : (s.post k a b).outputs = s.outputs := rfl
@[simp] theorem State.post_lockout (k : NoticeKind) (a b : Nat) : (s.post k a b).lockout = s.lockout := rfl
@[simp] theorem State.post_lockoutContact (k : NoticeKind) (a b : Nat) : (s.post k a b).lockoutContact = s.lockoutContact := rfl
@[simp] theorem State.post_button (k : NoticeKind) (a b : Nat) : (s.post k a b).button = s.button := rfl
@[simp] theorem State.post_terminal (k : NoticeKind) (a b : Nat) : (s.post k a b).terminal = s.terminal := rfl
@[simp] theorem State.post_link (k : NoticeKind) (a b : Nat) : (s.post k a b).link = s.link := rfl
@[simp] theorem State.post_records (k : NoticeKind) (a b : Nat) : (s.post k a b).records = s.records := rfl
@[simp] theorem State.post_nextRecord (k : NoticeKind) (a b : Nat) : (s.post k a b).nextRecord = s.nextRecord := rfl
@[simp] theorem State.post_incidentStart (k : NoticeKind) (a b : Nat) : (s.post k a b).incidentStart = s.incidentStart := rfl
@[simp] theorem State.post_attention (k : NoticeKind) (a b : Nat) : (s.post k a b).attention = s.attention := rfl
@[simp] theorem State.post_control (k : NoticeKind) (a b : Nat) : (s.post k a b).control = s.control := rfl
@[simp] theorem State.post_health (k : NoticeKind) (a b : Nat) : (s.post k a b).health = s.health := rfl
@[simp] theorem State.post_alarm (k : NoticeKind) (a b : Nat) : (s.post k a b).alarm = s.alarm := rfl
@[simp] theorem State.post_settings (k : NoticeKind) (a b : Nat) : (s.post k a b).settings = s.settings := rfl
@[simp] theorem State.post_store (k : NoticeKind) (a b : Nat) : (s.post k a b).store = s.store := rfl
@[simp] theorem State.post_port (k : NoticeKind) (a b : Nat) : (s.post k a b).port = s.port := rfl
@[simp] theorem State.post_sched (k : NoticeKind) (a b : Nat) : (s.post k a b).sched = s.sched := rfl
@[simp] theorem State.post_freeIndex (k : NoticeKind) (a b : Nat) : (s.post k a b).freeIndex = s.freeIndex := rfl
@[simp] theorem State.post_pending (k : NoticeKind) (a b : Nat) : (s.post k a b).pending = s.pending := rfl

/-! ### mapLink -/

@[simp] theorem State.mapLink_powered (f : Link → Link) : (s.mapLink f).powered = s.powered := rfl
@[simp] theorem State.mapLink_clock (f : Link → Link) : (s.mapLink f).clock = s.clock := rfl
@[simp] theorem State.mapLink_partTime (f : Link → Link) : (s.mapLink f).partTime = s.partTime := rfl
@[simp] theorem State.mapLink_msPhase (f : Link → Link) : (s.mapLink f).msPhase = s.msPhase := rfl
@[simp] theorem State.mapLink_light (f : Link → Link) : (s.mapLink f).light = s.light := rfl
@[simp] theorem State.mapLink_current (f : Link → Link) : (s.mapLink f).current = s.current := rfl
@[simp] theorem State.mapLink_positions (f : Link → Link) : (s.mapLink f).positions = s.positions := rfl
@[simp] theorem State.mapLink_zones (f : Link → Link) : (s.mapLink f).zones = s.zones := rfl
@[simp] theorem State.mapLink_orders (f : Link → Link) : (s.mapLink f).orders = s.orders := rfl
@[simp] theorem State.mapLink_outputs (f : Link → Link) : (s.mapLink f).outputs = s.outputs := rfl
@[simp] theorem State.mapLink_lockout (f : Link → Link) : (s.mapLink f).lockout = s.lockout := rfl
@[simp] theorem State.mapLink_lockoutContact (f : Link → Link) : (s.mapLink f).lockoutContact = s.lockoutContact := rfl
@[simp] theorem State.mapLink_button (f : Link → Link) : (s.mapLink f).button = s.button := rfl
@[simp] theorem State.mapLink_terminal (f : Link → Link) : (s.mapLink f).terminal = s.terminal := rfl
@[simp] theorem State.mapLink_records (f : Link → Link) : (s.mapLink f).records = s.records := rfl
@[simp] theorem State.mapLink_nextRecord (f : Link → Link) : (s.mapLink f).nextRecord = s.nextRecord := rfl
@[simp] theorem State.mapLink_incidentStart (f : Link → Link) : (s.mapLink f).incidentStart = s.incidentStart := rfl
@[simp] theorem State.mapLink_notices (f : Link → Link) : (s.mapLink f).notices = s.notices := rfl
@[simp] theorem State.mapLink_attention (f : Link → Link) : (s.mapLink f).attention = s.attention := rfl
@[simp] theorem State.mapLink_control (f : Link → Link) : (s.mapLink f).control = s.control := rfl
@[simp] theorem State.mapLink_health (f : Link → Link) : (s.mapLink f).health = s.health := rfl
@[simp] theorem State.mapLink_alarm (f : Link → Link) : (s.mapLink f).alarm = s.alarm := rfl
@[simp] theorem State.mapLink_settings (f : Link → Link) : (s.mapLink f).settings = s.settings := rfl
@[simp] theorem State.mapLink_store (f : Link → Link) : (s.mapLink f).store = s.store := rfl
@[simp] theorem State.mapLink_port (f : Link → Link) : (s.mapLink f).port = s.port := rfl
@[simp] theorem State.mapLink_sched (f : Link → Link) : (s.mapLink f).sched = s.sched := rfl
@[simp] theorem State.mapLink_freeIndex (f : Link → Link) : (s.mapLink f).freeIndex = s.freeIndex := rfl
@[simp] theorem State.mapLink_pending (f : Link → Link) : (s.mapLink f).pending = s.pending := rfl

/-! ### mapPort -/

@[simp] theorem State.mapPort_powered (f : Port → Port) : (s.mapPort f).powered = s.powered := rfl
@[simp] theorem State.mapPort_clock (f : Port → Port) : (s.mapPort f).clock = s.clock := rfl
@[simp] theorem State.mapPort_partTime (f : Port → Port) : (s.mapPort f).partTime = s.partTime := rfl
@[simp] theorem State.mapPort_msPhase (f : Port → Port) : (s.mapPort f).msPhase = s.msPhase := rfl
@[simp] theorem State.mapPort_light (f : Port → Port) : (s.mapPort f).light = s.light := rfl
@[simp] theorem State.mapPort_current (f : Port → Port) : (s.mapPort f).current = s.current := rfl
@[simp] theorem State.mapPort_positions (f : Port → Port) : (s.mapPort f).positions = s.positions := rfl
@[simp] theorem State.mapPort_zones (f : Port → Port) : (s.mapPort f).zones = s.zones := rfl
@[simp] theorem State.mapPort_orders (f : Port → Port) : (s.mapPort f).orders = s.orders := rfl
@[simp] theorem State.mapPort_outputs (f : Port → Port) : (s.mapPort f).outputs = s.outputs := rfl
@[simp] theorem State.mapPort_lockout (f : Port → Port) : (s.mapPort f).lockout = s.lockout := rfl
@[simp] theorem State.mapPort_lockoutContact (f : Port → Port) : (s.mapPort f).lockoutContact = s.lockoutContact := rfl
@[simp] theorem State.mapPort_button (f : Port → Port) : (s.mapPort f).button = s.button := rfl
@[simp] theorem State.mapPort_terminal (f : Port → Port) : (s.mapPort f).terminal = s.terminal := rfl
@[simp] theorem State.mapPort_link (f : Port → Port) : (s.mapPort f).link = s.link := rfl
@[simp] theorem State.mapPort_records (f : Port → Port) : (s.mapPort f).records = s.records := rfl
@[simp] theorem State.mapPort_nextRecord (f : Port → Port) : (s.mapPort f).nextRecord = s.nextRecord := rfl
@[simp] theorem State.mapPort_incidentStart (f : Port → Port) : (s.mapPort f).incidentStart = s.incidentStart := rfl
@[simp] theorem State.mapPort_notices (f : Port → Port) : (s.mapPort f).notices = s.notices := rfl
@[simp] theorem State.mapPort_attention (f : Port → Port) : (s.mapPort f).attention = s.attention := rfl
@[simp] theorem State.mapPort_control (f : Port → Port) : (s.mapPort f).control = s.control := rfl
@[simp] theorem State.mapPort_health (f : Port → Port) : (s.mapPort f).health = s.health := rfl
@[simp] theorem State.mapPort_alarm (f : Port → Port) : (s.mapPort f).alarm = s.alarm := rfl
@[simp] theorem State.mapPort_settings (f : Port → Port) : (s.mapPort f).settings = s.settings := rfl
@[simp] theorem State.mapPort_store (f : Port → Port) : (s.mapPort f).store = s.store := rfl
@[simp] theorem State.mapPort_sched (f : Port → Port) : (s.mapPort f).sched = s.sched := rfl
@[simp] theorem State.mapPort_freeIndex (f : Port → Port) : (s.mapPort f).freeIndex = s.freeIndex := rfl
@[simp] theorem State.mapPort_pending (f : Port → Port) : (s.mapPort f).pending = s.pending := rfl

/-! ### mapActive -/

@[simp] theorem State.mapActive_powered (f : Settings → Settings) : (s.mapActive f).powered = s.powered := rfl
@[simp] theorem State.mapActive_clock (f : Settings → Settings) : (s.mapActive f).clock = s.clock := rfl
@[simp] theorem State.mapActive_partTime (f : Settings → Settings) : (s.mapActive f).partTime = s.partTime := rfl
@[simp] theorem State.mapActive_msPhase (f : Settings → Settings) : (s.mapActive f).msPhase = s.msPhase := rfl
@[simp] theorem State.mapActive_light (f : Settings → Settings) : (s.mapActive f).light = s.light := rfl
@[simp] theorem State.mapActive_current (f : Settings → Settings) : (s.mapActive f).current = s.current := rfl
@[simp] theorem State.mapActive_positions (f : Settings → Settings) : (s.mapActive f).positions = s.positions := rfl
@[simp] theorem State.mapActive_zones (f : Settings → Settings) : (s.mapActive f).zones = s.zones := rfl
@[simp] theorem State.mapActive_orders (f : Settings → Settings) : (s.mapActive f).orders = s.orders := rfl
@[simp] theorem State.mapActive_outputs (f : Settings → Settings) : (s.mapActive f).outputs = s.outputs := rfl
@[simp] theorem State.mapActive_lockout (f : Settings → Settings) : (s.mapActive f).lockout = s.lockout := rfl
@[simp] theorem State.mapActive_lockoutContact (f : Settings → Settings) : (s.mapActive f).lockoutContact = s.lockoutContact := rfl
@[simp] theorem State.mapActive_button (f : Settings → Settings) : (s.mapActive f).button = s.button := rfl
@[simp] theorem State.mapActive_terminal (f : Settings → Settings) : (s.mapActive f).terminal = s.terminal := rfl
@[simp] theorem State.mapActive_link (f : Settings → Settings) : (s.mapActive f).link = s.link := rfl
@[simp] theorem State.mapActive_records (f : Settings → Settings) : (s.mapActive f).records = s.records := rfl
@[simp] theorem State.mapActive_nextRecord (f : Settings → Settings) : (s.mapActive f).nextRecord = s.nextRecord := rfl
@[simp] theorem State.mapActive_incidentStart (f : Settings → Settings) : (s.mapActive f).incidentStart = s.incidentStart := rfl
@[simp] theorem State.mapActive_notices (f : Settings → Settings) : (s.mapActive f).notices = s.notices := rfl
@[simp] theorem State.mapActive_attention (f : Settings → Settings) : (s.mapActive f).attention = s.attention := rfl
@[simp] theorem State.mapActive_control (f : Settings → Settings) : (s.mapActive f).control = s.control := rfl
@[simp] theorem State.mapActive_health (f : Settings → Settings) : (s.mapActive f).health = s.health := rfl
@[simp] theorem State.mapActive_alarm (f : Settings → Settings) : (s.mapActive f).alarm = s.alarm := rfl
@[simp] theorem State.mapActive_store (f : Settings → Settings) : (s.mapActive f).store = s.store := rfl
@[simp] theorem State.mapActive_port (f : Settings → Settings) : (s.mapActive f).port = s.port := rfl
@[simp] theorem State.mapActive_sched (f : Settings → Settings) : (s.mapActive f).sched = s.sched := rfl
@[simp] theorem State.mapActive_freeIndex (f : Settings → Settings) : (s.mapActive f).freeIndex = s.freeIndex := rfl
@[simp] theorem State.mapActive_pending (f : Settings → Settings) : (s.mapActive f).pending = s.pending := rfl

/-! ### mapPending -/

@[simp] theorem State.mapPending_powered (f : Settings → Settings) : (s.mapPending f).powered = s.powered := rfl
@[simp] theorem State.mapPending_clock (f : Settings → Settings) : (s.mapPending f).clock = s.clock := rfl
@[simp] theorem State.mapPending_partTime (f : Settings → Settings) : (s.mapPending f).partTime = s.partTime := rfl
@[simp] theorem State.mapPending_msPhase (f : Settings → Settings) : (s.mapPending f).msPhase = s.msPhase := rfl
@[simp] theorem State.mapPending_light (f : Settings → Settings) : (s.mapPending f).light = s.light := rfl
@[simp] theorem State.mapPending_current (f : Settings → Settings) : (s.mapPending f).current = s.current := rfl
@[simp] theorem State.mapPending_positions (f : Settings → Settings) : (s.mapPending f).positions = s.positions := rfl
@[simp] theorem State.mapPending_zones (f : Settings → Settings) : (s.mapPending f).zones = s.zones := rfl
@[simp] theorem State.mapPending_orders (f : Settings → Settings) : (s.mapPending f).orders = s.orders := rfl
@[simp] theorem State.mapPending_outputs (f : Settings → Settings) : (s.mapPending f).outputs = s.outputs := rfl
@[simp] theorem State.mapPending_lockout (f : Settings → Settings) : (s.mapPending f).lockout = s.lockout := rfl
@[simp] theorem State.mapPending_lockoutContact (f : Settings → Settings) : (s.mapPending f).lockoutContact = s.lockoutContact := rfl
@[simp] theorem State.mapPending_button (f : Settings → Settings) : (s.mapPending f).button = s.button := rfl
@[simp] theorem State.mapPending_terminal (f : Settings → Settings) : (s.mapPending f).terminal = s.terminal := rfl
@[simp] theorem State.mapPending_link (f : Settings → Settings) : (s.mapPending f).link = s.link := rfl
@[simp] theorem State.mapPending_records (f : Settings → Settings) : (s.mapPending f).records = s.records := rfl
@[simp] theorem State.mapPending_nextRecord (f : Settings → Settings) : (s.mapPending f).nextRecord = s.nextRecord := rfl
@[simp] theorem State.mapPending_incidentStart (f : Settings → Settings) : (s.mapPending f).incidentStart = s.incidentStart := rfl
@[simp] theorem State.mapPending_notices (f : Settings → Settings) : (s.mapPending f).notices = s.notices := rfl
@[simp] theorem State.mapPending_attention (f : Settings → Settings) : (s.mapPending f).attention = s.attention := rfl
@[simp] theorem State.mapPending_control (f : Settings → Settings) : (s.mapPending f).control = s.control := rfl
@[simp] theorem State.mapPending_health (f : Settings → Settings) : (s.mapPending f).health = s.health := rfl
@[simp] theorem State.mapPending_alarm (f : Settings → Settings) : (s.mapPending f).alarm = s.alarm := rfl
@[simp] theorem State.mapPending_store (f : Settings → Settings) : (s.mapPending f).store = s.store := rfl
@[simp] theorem State.mapPending_port (f : Settings → Settings) : (s.mapPending f).port = s.port := rfl
@[simp] theorem State.mapPending_sched (f : Settings → Settings) : (s.mapPending f).sched = s.sched := rfl
@[simp] theorem State.mapPending_freeIndex (f : Settings → Settings) : (s.mapPending f).freeIndex = s.freeIndex := rfl
@[simp] theorem State.mapPending_pending (f : Settings → Settings) : (s.mapPending f).pending = s.pending := rfl

/-! ### mapWaiting -/

@[simp] theorem State.mapWaiting_powered (f : Waiting → Waiting) : (s.mapWaiting f).powered = s.powered := rfl
@[simp] theorem State.mapWaiting_clock (f : Waiting → Waiting) : (s.mapWaiting f).clock = s.clock := rfl
@[simp] theorem State.mapWaiting_partTime (f : Waiting → Waiting) : (s.mapWaiting f).partTime = s.partTime := rfl
@[simp] theorem State.mapWaiting_msPhase (f : Waiting → Waiting) : (s.mapWaiting f).msPhase = s.msPhase := rfl
@[simp] theorem State.mapWaiting_light (f : Waiting → Waiting) : (s.mapWaiting f).light = s.light := rfl
@[simp] theorem State.mapWaiting_current (f : Waiting → Waiting) : (s.mapWaiting f).current = s.current := rfl
@[simp] theorem State.mapWaiting_positions (f : Waiting → Waiting) : (s.mapWaiting f).positions = s.positions := rfl
@[simp] theorem State.mapWaiting_zones (f : Waiting → Waiting) : (s.mapWaiting f).zones = s.zones := rfl
@[simp] theorem State.mapWaiting_orders (f : Waiting → Waiting) : (s.mapWaiting f).orders = s.orders := rfl
@[simp] theorem State.mapWaiting_outputs (f : Waiting → Waiting) : (s.mapWaiting f).outputs = s.outputs := rfl
@[simp] theorem State.mapWaiting_lockout (f : Waiting → Waiting) : (s.mapWaiting f).lockout = s.lockout := rfl
@[simp] theorem State.mapWaiting_lockoutContact (f : Waiting → Waiting) : (s.mapWaiting f).lockoutContact = s.lockoutContact := rfl
@[simp] theorem State.mapWaiting_button (f : Waiting → Waiting) : (s.mapWaiting f).button = s.button := rfl
@[simp] theorem State.mapWaiting_terminal (f : Waiting → Waiting) : (s.mapWaiting f).terminal = s.terminal := rfl
@[simp] theorem State.mapWaiting_link (f : Waiting → Waiting) : (s.mapWaiting f).link = s.link := rfl
@[simp] theorem State.mapWaiting_records (f : Waiting → Waiting) : (s.mapWaiting f).records = s.records := rfl
@[simp] theorem State.mapWaiting_nextRecord (f : Waiting → Waiting) : (s.mapWaiting f).nextRecord = s.nextRecord := rfl
@[simp] theorem State.mapWaiting_incidentStart (f : Waiting → Waiting) : (s.mapWaiting f).incidentStart = s.incidentStart := rfl
@[simp] theorem State.mapWaiting_notices (f : Waiting → Waiting) : (s.mapWaiting f).notices = s.notices := rfl
@[simp] theorem State.mapWaiting_attention (f : Waiting → Waiting) : (s.mapWaiting f).attention = s.attention := rfl
@[simp] theorem State.mapWaiting_control (f : Waiting → Waiting) : (s.mapWaiting f).control = s.control := rfl
@[simp] theorem State.mapWaiting_health (f : Waiting → Waiting) : (s.mapWaiting f).health = s.health := rfl
@[simp] theorem State.mapWaiting_alarm (f : Waiting → Waiting) : (s.mapWaiting f).alarm = s.alarm := rfl
@[simp] theorem State.mapWaiting_store (f : Waiting → Waiting) : (s.mapWaiting f).store = s.store := rfl
@[simp] theorem State.mapWaiting_port (f : Waiting → Waiting) : (s.mapWaiting f).port = s.port := rfl
@[simp] theorem State.mapWaiting_sched (f : Waiting → Waiting) : (s.mapWaiting f).sched = s.sched := rfl
@[simp] theorem State.mapWaiting_freeIndex (f : Waiting → Waiting) : (s.mapWaiting f).freeIndex = s.freeIndex := rfl
@[simp] theorem State.mapWaiting_pending (f : Waiting → Waiting) : (s.mapWaiting f).pending = s.pending := rfl

/-! ### mapOpen -/

@[simp] theorem State.mapOpen_powered (f : TripRecord → TripRecord) : (s.mapOpen f).powered = s.powered := rfl
@[simp] theorem State.mapOpen_clock (f : TripRecord → TripRecord) : (s.mapOpen f).clock = s.clock := rfl
@[simp] theorem State.mapOpen_partTime (f : TripRecord → TripRecord) : (s.mapOpen f).partTime = s.partTime := rfl
@[simp] theorem State.mapOpen_msPhase (f : TripRecord → TripRecord) : (s.mapOpen f).msPhase = s.msPhase := rfl
@[simp] theorem State.mapOpen_light (f : TripRecord → TripRecord) : (s.mapOpen f).light = s.light := rfl
@[simp] theorem State.mapOpen_current (f : TripRecord → TripRecord) : (s.mapOpen f).current = s.current := rfl
@[simp] theorem State.mapOpen_positions (f : TripRecord → TripRecord) : (s.mapOpen f).positions = s.positions := rfl
@[simp] theorem State.mapOpen_zones (f : TripRecord → TripRecord) : (s.mapOpen f).zones = s.zones := rfl
@[simp] theorem State.mapOpen_orders (f : TripRecord → TripRecord) : (s.mapOpen f).orders = s.orders := rfl
@[simp] theorem State.mapOpen_outputs (f : TripRecord → TripRecord) : (s.mapOpen f).outputs = s.outputs := rfl
@[simp] theorem State.mapOpen_lockout (f : TripRecord → TripRecord) : (s.mapOpen f).lockout = s.lockout := rfl
@[simp] theorem State.mapOpen_lockoutContact (f : TripRecord → TripRecord) : (s.mapOpen f).lockoutContact = s.lockoutContact := rfl
@[simp] theorem State.mapOpen_button (f : TripRecord → TripRecord) : (s.mapOpen f).button = s.button := rfl
@[simp] theorem State.mapOpen_terminal (f : TripRecord → TripRecord) : (s.mapOpen f).terminal = s.terminal := rfl
@[simp] theorem State.mapOpen_link (f : TripRecord → TripRecord) : (s.mapOpen f).link = s.link := rfl
@[simp] theorem State.mapOpen_nextRecord (f : TripRecord → TripRecord) : (s.mapOpen f).nextRecord = s.nextRecord := rfl
@[simp] theorem State.mapOpen_incidentStart (f : TripRecord → TripRecord) : (s.mapOpen f).incidentStart = s.incidentStart := rfl
@[simp] theorem State.mapOpen_notices (f : TripRecord → TripRecord) : (s.mapOpen f).notices = s.notices := rfl
@[simp] theorem State.mapOpen_attention (f : TripRecord → TripRecord) : (s.mapOpen f).attention = s.attention := rfl
@[simp] theorem State.mapOpen_control (f : TripRecord → TripRecord) : (s.mapOpen f).control = s.control := rfl
@[simp] theorem State.mapOpen_health (f : TripRecord → TripRecord) : (s.mapOpen f).health = s.health := rfl
@[simp] theorem State.mapOpen_alarm (f : TripRecord → TripRecord) : (s.mapOpen f).alarm = s.alarm := rfl
@[simp] theorem State.mapOpen_settings (f : TripRecord → TripRecord) : (s.mapOpen f).settings = s.settings := rfl
@[simp] theorem State.mapOpen_store (f : TripRecord → TripRecord) : (s.mapOpen f).store = s.store := rfl
@[simp] theorem State.mapOpen_port (f : TripRecord → TripRecord) : (s.mapOpen f).port = s.port := rfl
@[simp] theorem State.mapOpen_sched (f : TripRecord → TripRecord) : (s.mapOpen f).sched = s.sched := rfl
@[simp] theorem State.mapOpen_freeIndex (f : TripRecord → TripRecord) : (s.mapOpen f).freeIndex = s.freeIndex := rfl
@[simp] theorem State.mapOpen_pending (f : TripRecord → TripRecord) : (s.mapOpen f).pending = s.pending := rfl

/-! ### energise -/

@[simp] theorem State.energise_powered (p : Index) : (s.energise p).powered = s.powered := rfl
@[simp] theorem State.energise_clock (p : Index) : (s.energise p).clock = s.clock := rfl
@[simp] theorem State.energise_partTime (p : Index) : (s.energise p).partTime = s.partTime := rfl
@[simp] theorem State.energise_msPhase (p : Index) : (s.energise p).msPhase = s.msPhase := rfl
@[simp] theorem State.energise_light (p : Index) : (s.energise p).light = s.light := rfl
@[simp] theorem State.energise_current (p : Index) : (s.energise p).current = s.current := rfl
@[simp] theorem State.energise_positions (p : Index) : (s.energise p).positions = s.positions := rfl
@[simp] theorem State.energise_zones (p : Index) : (s.energise p).zones = s.zones := rfl
@[simp] theorem State.energise_orders (p : Index) : (s.energise p).orders = s.orders := rfl
@[simp] theorem State.energise_lockout (p : Index) : (s.energise p).lockout = s.lockout := rfl
@[simp] theorem State.energise_lockoutContact (p : Index) : (s.energise p).lockoutContact = s.lockoutContact := rfl
@[simp] theorem State.energise_button (p : Index) : (s.energise p).button = s.button := rfl
@[simp] theorem State.energise_terminal (p : Index) : (s.energise p).terminal = s.terminal := rfl
@[simp] theorem State.energise_link (p : Index) : (s.energise p).link = s.link := rfl
@[simp] theorem State.energise_records (p : Index) : (s.energise p).records = s.records := rfl
@[simp] theorem State.energise_nextRecord (p : Index) : (s.energise p).nextRecord = s.nextRecord := rfl
@[simp] theorem State.energise_incidentStart (p : Index) : (s.energise p).incidentStart = s.incidentStart := rfl
@[simp] theorem State.energise_notices (p : Index) : (s.energise p).notices = s.notices := rfl
@[simp] theorem State.energise_attention (p : Index) : (s.energise p).attention = s.attention := rfl
@[simp] theorem State.energise_control (p : Index) : (s.energise p).control = s.control := rfl
@[simp] theorem State.energise_health (p : Index) : (s.energise p).health = s.health := rfl
@[simp] theorem State.energise_alarm (p : Index) : (s.energise p).alarm = s.alarm := rfl
@[simp] theorem State.energise_settings (p : Index) : (s.energise p).settings = s.settings := rfl
@[simp] theorem State.energise_store (p : Index) : (s.energise p).store = s.store := rfl
@[simp] theorem State.energise_port (p : Index) : (s.energise p).port = s.port := rfl
@[simp] theorem State.energise_sched (p : Index) : (s.energise p).sched = s.sched := rfl
@[simp] theorem State.energise_freeIndex (p : Index) : (s.energise p).freeIndex = s.freeIndex := rfl
@[simp] theorem State.energise_pending (p : Index) : (s.energise p).pending = s.pending := rfl

/-! ### deenergise -/

@[simp] theorem State.deenergise_powered (p : Index) : (s.deenergise p).powered = s.powered := rfl
@[simp] theorem State.deenergise_clock (p : Index) : (s.deenergise p).clock = s.clock := rfl
@[simp] theorem State.deenergise_partTime (p : Index) : (s.deenergise p).partTime = s.partTime := rfl
@[simp] theorem State.deenergise_msPhase (p : Index) : (s.deenergise p).msPhase = s.msPhase := rfl
@[simp] theorem State.deenergise_light (p : Index) : (s.deenergise p).light = s.light := rfl
@[simp] theorem State.deenergise_current (p : Index) : (s.deenergise p).current = s.current := rfl
@[simp] theorem State.deenergise_positions (p : Index) : (s.deenergise p).positions = s.positions := rfl
@[simp] theorem State.deenergise_zones (p : Index) : (s.deenergise p).zones = s.zones := rfl
@[simp] theorem State.deenergise_orders (p : Index) : (s.deenergise p).orders = s.orders := rfl
@[simp] theorem State.deenergise_lockout (p : Index) : (s.deenergise p).lockout = s.lockout := rfl
@[simp] theorem State.deenergise_lockoutContact (p : Index) : (s.deenergise p).lockoutContact = s.lockoutContact := rfl
@[simp] theorem State.deenergise_button (p : Index) : (s.deenergise p).button = s.button := rfl
@[simp] theorem State.deenergise_terminal (p : Index) : (s.deenergise p).terminal = s.terminal := rfl
@[simp] theorem State.deenergise_link (p : Index) : (s.deenergise p).link = s.link := rfl
@[simp] theorem State.deenergise_records (p : Index) : (s.deenergise p).records = s.records := rfl
@[simp] theorem State.deenergise_nextRecord (p : Index) : (s.deenergise p).nextRecord = s.nextRecord := rfl
@[simp] theorem State.deenergise_incidentStart (p : Index) : (s.deenergise p).incidentStart = s.incidentStart := rfl
@[simp] theorem State.deenergise_notices (p : Index) : (s.deenergise p).notices = s.notices := rfl
@[simp] theorem State.deenergise_attention (p : Index) : (s.deenergise p).attention = s.attention := rfl
@[simp] theorem State.deenergise_control (p : Index) : (s.deenergise p).control = s.control := rfl
@[simp] theorem State.deenergise_health (p : Index) : (s.deenergise p).health = s.health := rfl
@[simp] theorem State.deenergise_alarm (p : Index) : (s.deenergise p).alarm = s.alarm := rfl
@[simp] theorem State.deenergise_settings (p : Index) : (s.deenergise p).settings = s.settings := rfl
@[simp] theorem State.deenergise_store (p : Index) : (s.deenergise p).store = s.store := rfl
@[simp] theorem State.deenergise_port (p : Index) : (s.deenergise p).port = s.port := rfl
@[simp] theorem State.deenergise_sched (p : Index) : (s.deenergise p).sched = s.sched := rfl
@[simp] theorem State.deenergise_freeIndex (p : Index) : (s.deenergise p).freeIndex = s.freeIndex := rfl
@[simp] theorem State.deenergise_pending (p : Index) : (s.deenergise p).pending = s.pending := rfl

/-! ### queueLockout -/

@[simp] theorem State.queueLockout_powered : (s.queueLockout).powered = s.powered := rfl
@[simp] theorem State.queueLockout_clock : (s.queueLockout).clock = s.clock := rfl
@[simp] theorem State.queueLockout_partTime : (s.queueLockout).partTime = s.partTime := rfl
@[simp] theorem State.queueLockout_msPhase : (s.queueLockout).msPhase = s.msPhase := rfl
@[simp] theorem State.queueLockout_light : (s.queueLockout).light = s.light := rfl
@[simp] theorem State.queueLockout_current : (s.queueLockout).current = s.current := rfl
@[simp] theorem State.queueLockout_positions : (s.queueLockout).positions = s.positions := rfl
@[simp] theorem State.queueLockout_zones : (s.queueLockout).zones = s.zones := rfl
@[simp] theorem State.queueLockout_orders : (s.queueLockout).orders = s.orders := rfl
@[simp] theorem State.queueLockout_outputs : (s.queueLockout).outputs = s.outputs := rfl
@[simp] theorem State.queueLockout_lockout : (s.queueLockout).lockout = s.lockout := rfl
@[simp] theorem State.queueLockout_lockoutContact : (s.queueLockout).lockoutContact = s.lockoutContact := rfl
@[simp] theorem State.queueLockout_button : (s.queueLockout).button = s.button := rfl
@[simp] theorem State.queueLockout_terminal : (s.queueLockout).terminal = s.terminal := rfl
@[simp] theorem State.queueLockout_link : (s.queueLockout).link = s.link := rfl
@[simp] theorem State.queueLockout_records : (s.queueLockout).records = s.records := rfl
@[simp] theorem State.queueLockout_nextRecord : (s.queueLockout).nextRecord = s.nextRecord := rfl
@[simp] theorem State.queueLockout_incidentStart : (s.queueLockout).incidentStart = s.incidentStart := rfl
@[simp] theorem State.queueLockout_notices : (s.queueLockout).notices = s.notices := rfl
@[simp] theorem State.queueLockout_attention : (s.queueLockout).attention = s.attention := rfl
@[simp] theorem State.queueLockout_control : (s.queueLockout).control = s.control := rfl
@[simp] theorem State.queueLockout_health : (s.queueLockout).health = s.health := rfl
@[simp] theorem State.queueLockout_alarm : (s.queueLockout).alarm = s.alarm := rfl
@[simp] theorem State.queueLockout_settings : (s.queueLockout).settings = s.settings := rfl
@[simp] theorem State.queueLockout_port : (s.queueLockout).port = s.port := rfl
@[simp] theorem State.queueLockout_sched : (s.queueLockout).sched = s.sched := rfl
@[simp] theorem State.queueLockout_freeIndex : (s.queueLockout).freeIndex = s.freeIndex := rfl
@[simp] theorem State.queueLockout_pending : (s.queueLockout).pending = s.pending := rfl

/-! ### queueRecord -/

@[simp] theorem State.queueRecord_powered (n : Nat) : (s.queueRecord n).powered = s.powered := rfl
@[simp] theorem State.queueRecord_clock (n : Nat) : (s.queueRecord n).clock = s.clock := rfl
@[simp] theorem State.queueRecord_partTime (n : Nat) : (s.queueRecord n).partTime = s.partTime := rfl
@[simp] theorem State.queueRecord_msPhase (n : Nat) : (s.queueRecord n).msPhase = s.msPhase := rfl
@[simp] theorem State.queueRecord_light (n : Nat) : (s.queueRecord n).light = s.light := rfl
@[simp] theorem State.queueRecord_current (n : Nat) : (s.queueRecord n).current = s.current := rfl
@[simp] theorem State.queueRecord_positions (n : Nat) : (s.queueRecord n).positions = s.positions := rfl
@[simp] theorem State.queueRecord_zones (n : Nat) : (s.queueRecord n).zones = s.zones := rfl
@[simp] theorem State.queueRecord_orders (n : Nat) : (s.queueRecord n).orders = s.orders := rfl
@[simp] theorem State.queueRecord_outputs (n : Nat) : (s.queueRecord n).outputs = s.outputs := rfl
@[simp] theorem State.queueRecord_lockout (n : Nat) : (s.queueRecord n).lockout = s.lockout := rfl
@[simp] theorem State.queueRecord_lockoutContact (n : Nat) : (s.queueRecord n).lockoutContact = s.lockoutContact := rfl
@[simp] theorem State.queueRecord_button (n : Nat) : (s.queueRecord n).button = s.button := rfl
@[simp] theorem State.queueRecord_terminal (n : Nat) : (s.queueRecord n).terminal = s.terminal := rfl
@[simp] theorem State.queueRecord_link (n : Nat) : (s.queueRecord n).link = s.link := rfl
@[simp] theorem State.queueRecord_records (n : Nat) : (s.queueRecord n).records = s.records := rfl
@[simp] theorem State.queueRecord_nextRecord (n : Nat) : (s.queueRecord n).nextRecord = s.nextRecord := rfl
@[simp] theorem State.queueRecord_incidentStart (n : Nat) : (s.queueRecord n).incidentStart = s.incidentStart := rfl
@[simp] theorem State.queueRecord_notices (n : Nat) : (s.queueRecord n).notices = s.notices := rfl
@[simp] theorem State.queueRecord_attention (n : Nat) : (s.queueRecord n).attention = s.attention := rfl
@[simp] theorem State.queueRecord_control (n : Nat) : (s.queueRecord n).control = s.control := rfl
@[simp] theorem State.queueRecord_health (n : Nat) : (s.queueRecord n).health = s.health := rfl
@[simp] theorem State.queueRecord_alarm (n : Nat) : (s.queueRecord n).alarm = s.alarm := rfl
@[simp] theorem State.queueRecord_settings (n : Nat) : (s.queueRecord n).settings = s.settings := rfl
@[simp] theorem State.queueRecord_port (n : Nat) : (s.queueRecord n).port = s.port := rfl
@[simp] theorem State.queueRecord_sched (n : Nat) : (s.queueRecord n).sched = s.sched := rfl
@[simp] theorem State.queueRecord_freeIndex (n : Nat) : (s.queueRecord n).freeIndex = s.freeIndex := rfl
@[simp] theorem State.queueRecord_pending (n : Nat) : (s.queueRecord n).pending = s.pending := rfl

/-! ### judgeContacts -/

@[simp] theorem State.judgeContacts_powered : (s.judgeContacts).powered = s.powered := rfl
@[simp] theorem State.judgeContacts_clock : (s.judgeContacts).clock = s.clock := rfl
@[simp] theorem State.judgeContacts_partTime : (s.judgeContacts).partTime = s.partTime := rfl
@[simp] theorem State.judgeContacts_msPhase : (s.judgeContacts).msPhase = s.msPhase := rfl
@[simp] theorem State.judgeContacts_light : (s.judgeContacts).light = s.light := rfl
@[simp] theorem State.judgeContacts_current : (s.judgeContacts).current = s.current := rfl
@[simp] theorem State.judgeContacts_positions : (s.judgeContacts).positions = s.positions := rfl
@[simp] theorem State.judgeContacts_zones : (s.judgeContacts).zones = s.zones := rfl
@[simp] theorem State.judgeContacts_orders : (s.judgeContacts).orders = s.orders := rfl
@[simp] theorem State.judgeContacts_outputs : (s.judgeContacts).outputs = s.outputs := rfl
@[simp] theorem State.judgeContacts_lockout : (s.judgeContacts).lockout = s.lockout := rfl
@[simp] theorem State.judgeContacts_button : (s.judgeContacts).button = s.button := rfl
@[simp] theorem State.judgeContacts_terminal : (s.judgeContacts).terminal = s.terminal := rfl
@[simp] theorem State.judgeContacts_link : (s.judgeContacts).link = s.link := rfl
@[simp] theorem State.judgeContacts_records : (s.judgeContacts).records = s.records := rfl
@[simp] theorem State.judgeContacts_nextRecord : (s.judgeContacts).nextRecord = s.nextRecord := rfl
@[simp] theorem State.judgeContacts_incidentStart : (s.judgeContacts).incidentStart = s.incidentStart := rfl
@[simp] theorem State.judgeContacts_notices : (s.judgeContacts).notices = s.notices := rfl
@[simp] theorem State.judgeContacts_control : (s.judgeContacts).control = s.control := rfl
@[simp] theorem State.judgeContacts_settings : (s.judgeContacts).settings = s.settings := rfl
@[simp] theorem State.judgeContacts_store : (s.judgeContacts).store = s.store := rfl
@[simp] theorem State.judgeContacts_port : (s.judgeContacts).port = s.port := rfl
@[simp] theorem State.judgeContacts_sched : (s.judgeContacts).sched = s.sched := rfl
@[simp] theorem State.judgeContacts_freeIndex : (s.judgeContacts).freeIndex = s.freeIndex := rfl
@[simp] theorem State.judgeContacts_pending : (s.judgeContacts).pending = s.pending := rfl

/-! ### advanceTo -/

/-- The clock never goes back. -/
theorem State.advanceTo_clock (t : Instant) : (s.advanceTo t).clock = max s.clock t := by
  unfold State.advanceTo
  split
  · next h => exact (Nat.max_eq_left h).symm
  · next h => exact (Nat.max_eq_right (Nat.le_of_lt (Nat.lt_of_not_le h))).symm

/-- Passing time changes the clock, part time and its phase alone. -/
theorem State.advanceTo_eq (t : Instant) :
    s.advanceTo t =
      { s with
        clock := (s.advanceTo t).clock, partTime := (s.advanceTo t).partTime, msPhase := (s.advanceTo t).msPhase } := by
  unfold State.advanceTo
  split <;> rfl

@[simp] theorem State.advanceTo_powered (t : Instant) : (s.advanceTo t).powered = s.powered := by rw [s.advanceTo_eq t]
@[simp] theorem State.advanceTo_light (t : Instant) : (s.advanceTo t).light = s.light := by rw [s.advanceTo_eq t]
@[simp] theorem State.advanceTo_current (t : Instant) : (s.advanceTo t).current = s.current := by rw [s.advanceTo_eq t]
@[simp] theorem State.advanceTo_positions (t : Instant) : (s.advanceTo t).positions = s.positions := by rw [s.advanceTo_eq t]
@[simp] theorem State.advanceTo_zones (t : Instant) : (s.advanceTo t).zones = s.zones := by rw [s.advanceTo_eq t]
@[simp] theorem State.advanceTo_orders (t : Instant) : (s.advanceTo t).orders = s.orders := by rw [s.advanceTo_eq t]
@[simp] theorem State.advanceTo_outputs (t : Instant) : (s.advanceTo t).outputs = s.outputs := by rw [s.advanceTo_eq t]
@[simp] theorem State.advanceTo_lockout (t : Instant) : (s.advanceTo t).lockout = s.lockout := by rw [s.advanceTo_eq t]
@[simp] theorem State.advanceTo_lockoutContact (t : Instant) : (s.advanceTo t).lockoutContact = s.lockoutContact := by rw [s.advanceTo_eq t]
@[simp] theorem State.advanceTo_button (t : Instant) : (s.advanceTo t).button = s.button := by rw [s.advanceTo_eq t]
@[simp] theorem State.advanceTo_terminal (t : Instant) : (s.advanceTo t).terminal = s.terminal := by rw [s.advanceTo_eq t]
@[simp] theorem State.advanceTo_link (t : Instant) : (s.advanceTo t).link = s.link := by rw [s.advanceTo_eq t]
@[simp] theorem State.advanceTo_records (t : Instant) : (s.advanceTo t).records = s.records := by rw [s.advanceTo_eq t]
@[simp] theorem State.advanceTo_nextRecord (t : Instant) : (s.advanceTo t).nextRecord = s.nextRecord := by rw [s.advanceTo_eq t]
@[simp] theorem State.advanceTo_incidentStart (t : Instant) : (s.advanceTo t).incidentStart = s.incidentStart := by rw [s.advanceTo_eq t]
@[simp] theorem State.advanceTo_notices (t : Instant) : (s.advanceTo t).notices = s.notices := by rw [s.advanceTo_eq t]
@[simp] theorem State.advanceTo_attention (t : Instant) : (s.advanceTo t).attention = s.attention := by rw [s.advanceTo_eq t]
@[simp] theorem State.advanceTo_control (t : Instant) : (s.advanceTo t).control = s.control := by rw [s.advanceTo_eq t]
@[simp] theorem State.advanceTo_health (t : Instant) : (s.advanceTo t).health = s.health := by rw [s.advanceTo_eq t]
@[simp] theorem State.advanceTo_alarm (t : Instant) : (s.advanceTo t).alarm = s.alarm := by rw [s.advanceTo_eq t]
@[simp] theorem State.advanceTo_settings (t : Instant) : (s.advanceTo t).settings = s.settings := by rw [s.advanceTo_eq t]
@[simp] theorem State.advanceTo_store (t : Instant) : (s.advanceTo t).store = s.store := by rw [s.advanceTo_eq t]
@[simp] theorem State.advanceTo_port (t : Instant) : (s.advanceTo t).port = s.port := by rw [s.advanceTo_eq t]
@[simp] theorem State.advanceTo_sched (t : Instant) : (s.advanceTo t).sched = s.sched := by rw [s.advanceTo_eq t]
@[simp] theorem State.advanceTo_freeIndex (t : Instant) : (s.advanceTo t).freeIndex = s.freeIndex := by rw [s.advanceTo_eq t]
@[simp] theorem State.advanceTo_pending (t : Instant) : (s.advanceTo t).pending = s.pending := by rw [s.advanceTo_eq t]

/-! ### noteContent -/

/-- Noting a change of content changes an IDLE transmitter alone (R127). -/
theorem State.noteContent_eq (t : State) :
    s.noteContent t = { t with link := { t.link with
      tx := if t.link.tx == .idle && s.content != t.content then .due else t.link.tx } } := by
  unfold State.noteContent
  split <;> rfl

@[simp] theorem State.noteContent_powered (t : State) : (s.noteContent t).powered = t.powered := by rw [State.noteContent_eq]
@[simp] theorem State.noteContent_clock (t : State) : (s.noteContent t).clock = t.clock := by rw [State.noteContent_eq]
@[simp] theorem State.noteContent_partTime (t : State) : (s.noteContent t).partTime = t.partTime := by rw [State.noteContent_eq]
@[simp] theorem State.noteContent_msPhase (t : State) : (s.noteContent t).msPhase = t.msPhase := by rw [State.noteContent_eq]
@[simp] theorem State.noteContent_light (t : State) : (s.noteContent t).light = t.light := by rw [State.noteContent_eq]
@[simp] theorem State.noteContent_current (t : State) : (s.noteContent t).current = t.current := by rw [State.noteContent_eq]
@[simp] theorem State.noteContent_positions (t : State) : (s.noteContent t).positions = t.positions := by rw [State.noteContent_eq]
@[simp] theorem State.noteContent_zones (t : State) : (s.noteContent t).zones = t.zones := by rw [State.noteContent_eq]
@[simp] theorem State.noteContent_orders (t : State) : (s.noteContent t).orders = t.orders := by rw [State.noteContent_eq]
@[simp] theorem State.noteContent_outputs (t : State) : (s.noteContent t).outputs = t.outputs := by rw [State.noteContent_eq]
@[simp] theorem State.noteContent_lockout (t : State) : (s.noteContent t).lockout = t.lockout := by rw [State.noteContent_eq]
@[simp] theorem State.noteContent_lockoutContact (t : State) : (s.noteContent t).lockoutContact = t.lockoutContact := by rw [State.noteContent_eq]
@[simp] theorem State.noteContent_button (t : State) : (s.noteContent t).button = t.button := by rw [State.noteContent_eq]
@[simp] theorem State.noteContent_terminal (t : State) : (s.noteContent t).terminal = t.terminal := by rw [State.noteContent_eq]
@[simp] theorem State.noteContent_records (t : State) : (s.noteContent t).records = t.records := by rw [State.noteContent_eq]
@[simp] theorem State.noteContent_nextRecord (t : State) : (s.noteContent t).nextRecord = t.nextRecord := by rw [State.noteContent_eq]
@[simp] theorem State.noteContent_incidentStart (t : State) : (s.noteContent t).incidentStart = t.incidentStart := by rw [State.noteContent_eq]
@[simp] theorem State.noteContent_notices (t : State) : (s.noteContent t).notices = t.notices := by rw [State.noteContent_eq]
@[simp] theorem State.noteContent_attention (t : State) : (s.noteContent t).attention = t.attention := by rw [State.noteContent_eq]
@[simp] theorem State.noteContent_control (t : State) : (s.noteContent t).control = t.control := by rw [State.noteContent_eq]
@[simp] theorem State.noteContent_health (t : State) : (s.noteContent t).health = t.health := by rw [State.noteContent_eq]
@[simp] theorem State.noteContent_alarm (t : State) : (s.noteContent t).alarm = t.alarm := by rw [State.noteContent_eq]
@[simp] theorem State.noteContent_settings (t : State) : (s.noteContent t).settings = t.settings := by rw [State.noteContent_eq]
@[simp] theorem State.noteContent_store (t : State) : (s.noteContent t).store = t.store := by rw [State.noteContent_eq]
@[simp] theorem State.noteContent_port (t : State) : (s.noteContent t).port = t.port := by rw [State.noteContent_eq]
@[simp] theorem State.noteContent_sched (t : State) : (s.noteContent t).sched = t.sched := by rw [State.noteContent_eq]
@[simp] theorem State.noteContent_freeIndex (t : State) : (s.noteContent t).freeIndex = t.freeIndex := by rw [State.noteContent_eq]
@[simp] theorem State.noteContent_pending (t : State) : (s.noteContent t).pending = t.pending := by rw [State.noteContent_eq]

/-- The link after noting a change of content: its transmitter alone may have become DUE (R127). -/
theorem State.noteContent_link (t : State) :
    (s.noteContent t).link = { t.link with
      tx := if t.link.tx == .idle && s.content != t.content then .due else t.link.tx } := by rw [State.noteContent_eq]

/-- The content does not see the transmitter (R126). -/
@[simp] theorem State.noteContent_content (t : State) : (s.noteContent t).content = t.content := by
  unfold State.noteContent
  split <;> rfl

/-- A change noted once is noted (R127). -/
@[simp] theorem State.noteContent_noteContent (t : State) : s.noteContent (s.noteContent t) = s.noteContent t := by
  rw [State.noteContent_eq s (s.noteContent t), State.noteContent_content, State.noteContent_link, State.noteContent_eq]
  cases h : t.link.tx <;> cases h' : s.content != t.content <;> simp_all

/-- A change noted before the end of a command is noted at its end (R127). -/
@[simp] theorem settle_noteContent (t : State) : settle s (s.noteContent t) = settle s t := by simp [settle]

end Sys2Proof.Machine
end

