-- ==== Sys2Proof/Laws/Apart.lean ====
section
/-! SUPPORT. The frame of the decision path: every shared operation of the record unit, the order unit, the zone logic
and the topology unit, and the end of a command, leaves `State.apart` as it was. A proof about a command cites these
and unfolds none of the operations. -/

namespace Sys2Proof.Machine

open Wire

/-- An operation that leaves everything but the decision path's own records as it was. -/
def KeepsApart (f : State → State) : Prop := ∀ s, (f s).apart = s.apart

variable (s : State)

/-- Repeated operations that keep `apart` keep it together. -/
theorem foldl_apart {α : Type} (f : State → α → State) (h : ∀ t x, (f t x).apart = t.apart) (l : List α) :
    (l.foldl f s).apart = s.apart := by
  induction l generalizing s with
  | nil => rfl
  | cons x l ih => exact (ih (f s x)).trans (h s x)

/-! ### Single updates -/

@[simp] theorem State.post_apart (k : NoticeKind) (a b : Nat) : (s.post k a b).apart = s.apart := rfl
@[simp] theorem State.setZone_apart (z : Index) (c : Zone) : (s.setZone z c).apart = s.apart := rfl
@[simp] theorem State.mapOrder_apart (p : Index) (f : Order → Order) : (s.mapOrder p f).apart = s.apart := rfl
@[simp] theorem State.mapOpen_apart (f : TripRecord → TripRecord) : (s.mapOpen f).apart = s.apart := rfl
@[simp] theorem State.energise_apart (p : Index) : (s.energise p).apart = s.apart := rfl
@[simp] theorem State.deenergise_apart (p : Index) : (s.deenergise p).apart = s.apart := rfl
@[simp] theorem State.queueLockout_apart : s.queueLockout.apart = s.apart := rfl
@[simp] theorem State.queueRecord_apart (n : Nat) : (s.queueRecord n).apart = s.apart := rfl
@[simp] theorem State.judgeContacts_apart : s.judgeContacts.apart = s.apart := rfl
@[simp] theorem State.replaceSets_apart : s.replaceSets.apart = s.apart := rfl

@[simp] theorem State.noteContent_apart (t : State) : (s.noteContent t).apart = t.apart := by
  unfold State.noteContent
  split
  · next h =>
    have h1 : t.link.tx = .idle := eq_of_beq (Bool.and_eq_true_iff.mp h).1
    simp [State.apart, h1]
  · rfl

/-! ### Record unit -/

/-- Changing incident peaks alone keeps `apart`. -/
theorem State.peaks_apart (f : Point → Option Nat) :
    ({ s with current := { s.current with points := s.current.points.map fun (p : Point) => { p with peak := f p } } } :
      State).apart = s.apart := by
  simp [State.apart, List.map_map, Function.comp_def]

@[simp] theorem State.makeRoom_apart : s.makeRoom.apart = s.apart := by
  unfold State.makeRoom
  split <;> rfl

@[simp] theorem State.openRecord_apart (o : Order) (c : Cause) : (s.openRecord o c).apart = s.apart :=
  (State.peaks_apart s.makeRoom fun p => some p.largest).trans s.makeRoom_apart

@[simp] theorem State.recordCreation_apart (b : Bool) (o : Order) (c : Cause) :
    (s.recordCreation b o c).apart = s.apart := by
  unfold State.recordCreation
  split <;> simp

@[simp] theorem State.recordUpgrade_apart (p : Index) : (s.recordUpgrade p).apart = s.apart := rfl
@[simp] theorem State.recordConfirmation_apart (p : Index) : (s.recordConfirmation p).apart = s.apart := rfl
@[simp] theorem State.recordStage_apart (p : Index) (g : EntryStage) : (s.recordStage p g).apart = s.apart := rfl
@[simp] theorem State.recordRelease_apart (p : Index) : (s.recordRelease p).apart = s.apart := rfl
@[simp] theorem State.recordWithdrawal_apart (p : Index) : (s.recordWithdrawal p).apart = s.apart := rfl

@[simp] theorem State.closeRecord_apart : s.closeRecord.apart = s.apart := by
  unfold State.closeRecord
  split
  · rfl
  · have h := State.peaks_apart s fun _ => none
    dsimp only
    split
    · split <;> simpa using h
    · simpa using h

/-! ### Order unit -/

@[simp] theorem State.setLockout_apart (p : Index) : (s.setLockout p).apart = s.apart := by
  unfold State.setLockout
  split <;> rfl

@[simp] theorem State.clearLockouts_apart (ps : List Index) : (s.clearLockouts ps).apart = s.apart := by
  unfold State.clearLockouts
  split <;> rfl

/-- A departure keeps `apart` if what it tells the record unit does. -/
theorem State.depart_apart (p : Index) (f : State → State) (h : KeepsApart f) : (s.depart p f).apart = s.apart := by
  unfold State.depart
  have h' := h (({ s with orders := s.orders.filter fun o => o.position != p } : State).deenergise p)
  dsimp only
  rw [State.noteContent_apart]
  split
  · exact (State.closeRecord_apart _).trans h'
  · exact h'

@[simp] theorem State.release_apart (p : Index) : (s.release p).apart = s.apart :=
  s.depart_apart p _ fun t => t.recordRelease_apart p

@[simp] theorem State.confirm_apart (o : Order) : (s.confirm o).apart = s.apart := by
  unfold State.confirm
  dsimp only
  split <;> simp

@[simp] theorem State.judgeOrder_apart (p : Index) : (s.judgeOrder p).apart = s.apart := by
  unfold State.judgeOrder
  split
  · rfl
  · dsimp only
    split
    · simp
    · split
      · split <;> simp
      · split <;> simp

@[simp] theorem State.judgeAttached_apart (o : Option Index) : (s.judgeAttached o).apart = s.apart := by
  cases o <;> simp [State.judgeAttached]

@[simp] theorem State.createOrder_apart (p : Index) (c : Cause) (a : Attribute) :
    (s.createOrder p c a).apart = s.apart := by
  unfold State.createOrder
  dsimp only
  rw [State.judgeOrder_apart, State.recordCreation_apart]
  split
  · rw [State.setLockout_apart, State.energise_apart]; rfl
  · rfl

@[simp] theorem State.upgradeOrder_apart (p : Index) : (s.upgradeOrder p).apart = s.apart := by
  simp [State.upgradeOrder]

@[simp] theorem State.requestOrder_apart (p : Index) (c : Cause) (a : Attribute) :
    (s.requestOrder p c a).apart = s.apart := by
  unfold State.requestOrder
  split
  · simp
  · dsimp only
    split <;> simp

@[simp] theorem State.requestAll_apart (ps : List Index) (c : Cause) (a : Attribute) :
    (s.requestAll ps c a).apart = s.apart :=
  foldl_apart s _ (fun t p => t.requestOrder_apart p c a) ps

@[simp] theorem State.escalate_apart (o : Order) : (s.escalate o).apart = s.apart := by
  unfold State.escalate
  dsimp only
  split
  · simp
  · split <;> simp

@[simp] theorem State.failOrder_apart (o : Order) : (s.failOrder o).apart = s.apart := by simp [State.failOrder]

@[simp] theorem State.stallOrder_apart (o : Order) : (s.stallOrder o).apart = s.apart := rfl

@[simp] theorem State.withdrawDry_apart : s.withdrawDry.apart = s.apart :=
  foldl_apart s _ (fun t p => t.depart_apart p _ fun u => u.recordWithdrawal_apart p) _

@[simp] theorem State.requestEdge_apart (u p : Index) : (s.requestEdge u p).apart = s.apart := by
  unfold State.requestEdge
  split <;> simp

/-! ### Zone logic and topology unit -/

@[simp] theorem State.requestClearing_apart (z : Index) (a : Attribute) : (s.requestClearing z a).apart = s.apart := by
  unfold State.requestClearing
  dsimp only
  split <;> simp

@[simp] theorem State.enterAlert_apart (z : Index) (q : Zone) (r : AlertReason) :
    (s.enterAlert z q r).apart = s.apart := by
  unfold State.enterAlert
  dsimp only
  split <;> simp

@[simp] theorem State.enterQuiet_apart (z : Index) (q : Zone) : (s.enterQuiet z q).apart = s.apart := rfl

@[simp] theorem State.enterTripped_apart (z : Index) (q : Zone) (a : Attribute) :
    (s.enterTripped z q a).apart = s.apart := by simp [State.enterTripped]

@[simp] theorem State.upgradeZone_apart (z : Index) (q : Zone) : (s.upgradeZone z q).apart = s.apart := by
  simp [State.upgradeZone]

@[simp] theorem State.downgradeZone_apart (z : Index) (q : Zone) : (s.downgradeZone z q).apart = s.apart := rfl

@[simp] theorem State.growZone_apart (z : Index) (e : List Index) : (s.growZone z e).apart = s.apart := by
  unfold State.growZone
  split
  · split <;> simp
  · rfl

@[simp] theorem State.evaluate_apart (z : Index) (e : List Index) : (s.evaluate z e).apart = s.apart := by
  unfold State.evaluate
  split
  · rfl
  · dsimp only
    split <;> try simp
    split
    · simp
    · split <;> simp

@[simp] theorem State.evaluateNoted_apart (z : Index) (e : List Index) : (s.evaluateNoted z e).apart = s.apart := by
  simp [State.evaluateNoted]

@[simp] theorem State.evaluateWhere_apart (w : Index → Bool) : (s.evaluateWhere w).apart = s.apart :=
  foldl_apart s _ (fun t z => t.evaluateNoted_apart z []) _

@[simp] theorem State.evaluateAll_apart : s.evaluateAll.apart = s.apart := s.evaluateWhere_apart _
@[simp] theorem State.evaluateMember_apart (n : Index) : (s.evaluateMember n).apart = s.apart := s.evaluateWhere_apart _
@[simp] theorem State.evaluatePoint_apart (m : Index) : (s.evaluatePoint m).apart = s.apart := s.evaluateWhere_apart _

@[simp] theorem State.handOver_apart (t : State) : (s.handOver t).apart = t.apart :=
  foldl_apart t _ (fun u z => u.evaluateNoted_apart z _) _

@[simp] theorem State.recompute_apart : s.recompute.apart = s.apart := by simp [State.recompute]

@[simp] theorem State.reconfirm_apart : s.reconfirm.apart = s.apart := by
  unfold State.reconfirm
  rw [State.handOver_apart]
  rfl

@[simp] theorem State.handLinkInputs_apart (t : State) : (s.handLinkInputs t).apart = t.apart :=
  t.evaluateWhere_apart _

@[simp] theorem State.handChannel_apart (t : State) (n : Index) : (s.handChannel t n).apart = t.apart := by
  unfold State.handChannel
  split <;> simp

@[simp] theorem State.handPoint_apart (t : State) (m : Index) : (s.handPoint t m).apart = t.apart := by
  unfold State.handPoint
  dsimp only
  split <;> split <;> simp

@[simp] theorem State.noteSteady_apart (t : State) (n l : Nat) : (s.noteSteady t n l).apart = t.apart := by
  unfold State.noteSteady
  split <;> simp

/-- Beyond the position's own record, a derivation reaches the decision path alone (R59). -/
theorem State.derivePosition_apart (p : Index) : (s.derivePosition p).apart = (s.derive p).apart := by
  unfold State.derivePosition
  dsimp only
  split
  · rfl
  · split <;> simp

/-! ### The end of a command -/

@[simp] theorem settle_apart (t : State) : (settle s t).apart = t.apart := by simp [settle]

end Sys2Proof.Machine
end

