-- ==== Sys2Proof/Laws/Link.lean ====
section
/-! SUPPORT. The cross link's bit times and what a start bit seen does, said once (R128, R129, R132). -/

namespace Sys2Proof.Machine

/-- A start bit is driven at the beginning of a bit time, neither before `now` nor before eight recessive ones have passed,
and at the first such (R128). -/
theorem Link.startFrom_spec (l : Link) (now : Instant) :
    now ≤ l.startFrom now ∧ l.recessive + 96 ≤ l.startFrom now ∧ (∃ k, l.startFrom now = l.recessive + k * 12) ∧
      (l.startFrom now = l.recessive + 96 ∨ l.startFrom now < now + 12) := by
  have key : ∀ r t : Nat, t ≤ r + max 8 ((t - r + 11) / 12) * 12 ∧ r + 96 ≤ r + max 8 ((t - r + 11) / 12) * 12 ∧
      (r + max 8 ((t - r + 11) / 12) * 12 = r + 96 ∨ r + max 8 ((t - r + 11) / 12) * 12 < t + 12) := by omega
  obtain ⟨h1, h2, h3⟩ := key l.recessive now
  exact ⟨h1, h2, ⟨_, rfl⟩, h3⟩

/-- An ARMED unit's own start bit is in the present bit time (R128). -/
theorem State.ownStart_some {s : State} {start : Instant} {c : Content} (h : s.ownStart = some (start, c)) :
    s.link.tx = .armed ∧ s.link.snapshot = some c ∧ start ≤ s.clock ∧ s.clock < start + 12 := by
  unfold State.ownStart at h
  split at h
  · dsimp only at h
    split at h
    · simp_all [Config.bitTime]
    · cases h
  · cases h

/-- A start bit seen starts the unit too, or voids its attempt, or is taken by a unit that is not ARMED (R129, R132). -/
theorem State.startBit_cases (s : State) :
    (∃ start c, s.toStartBit.ownStart = some (start, c) ∧
        s.startBit = s.toStartBit.mapLink fun l => l.startSending c start) ∨
      (s.toStartBit.ownStart = none ∧
        s.startBit.link.tx = (if s.toStartBit.link.tx = .armed then .due else s.toStartBit.link.tx) ∧
        s.startBit.link.telegram = some s.toStartBit.clock ∧ s.startBit.link.holdOff = none) := by
  unfold State.startBit
  cases h : s.toStartBit.ownStart with
  | some x => exact .inl ⟨x.1, x.2, rfl, by simp [h]⟩
  | none =>
    refine .inr ⟨rfl, ?_⟩
    simp only [h, beq_iff_eq]
    split <;> simp_all [State.mapLink, State.countLink, Link.backToDue]

end Sys2Proof.Machine
end

