-- ==== Sys2Proof/Laws/Step.lean ====
section
/-! SUPPORT. What a command answers, said once: with the supply present its effect, settled; and what settling does. -/

namespace Sys2Proof.Machine

open Wire

variable (s : State)

/-- With the supply present a command answers its effect, settled. -/
theorem conclude_powered (f : State → State) (h : s.powered = true) : conclude s f = .next (settle s (f s)) := by
  simp [conclude, h]

/-- Without supply nothing happens. -/
theorem conclude_unpowered (f : State → State) (h : s.powered = false) : conclude s f = .next s := by
  simp [conclude, h]

/-- A concluded command always answers a next state. -/
theorem conclude_next (f : State → State) : ∃ t, conclude s f = .next t := by
  unfold conclude
  split <;> exact ⟨_, rfl⟩

/-- Every command answers a next state: nothing stops the block. -/
theorem exec_next (c : Instr) : ∃ t, exec c s = .next t := by
  cases c with
  | powerOn =>
    show ∃ t, execPowerOn s = .next t
    unfold execPowerOn
    split
    · exact conclude_next s _
    · exact ⟨_, rfl⟩
  | powerLoss =>
    show ∃ t, execPowerLoss s = .next t
    unfold execPowerLoss
    split <;> exact ⟨_, rfl⟩
  | restartTerminalChange b =>
    show ∃ t, execRestartTerminalChange b s = .next t
    unfold execRestartTerminalChange
    split
    · exact conclude_next s _
    · exact ⟨_, rfl⟩
  | lockoutButtonChange b =>
    show ∃ t, execLockoutButtonChange b s = .next t
    unfold execLockoutButtonChange
    split
    · exact conclude_next s _
    · exact ⟨_, rfl⟩
  | contactRawChange p c b =>
    show ∃ t, execContactRawChange p c b s = .next t
    unfold execContactRawChange
    split
    · exact conclude_next s _
    · exact ⟨_, rfl⟩
  | _ =>
    simp only [exec, execRestartTerminalPress, execStartingEnd, execTestTimeout, execLightSample, execBackgroundUpdate,
      execSupervisionSlot, execBurstEnd, execCaptureBurstStart, execCaptureEnd, execCurrentSample, execOcHoldExpiry,
      execCpClear, execDebounceExpiry, execDiscrepancyExpiry, execMinPulseExpiry, execBfDeadline, execDriveTimeout,
      execLockoutResetPress, execHeartbeatDue, execSendDecide, execTelegramStart, execAttemptVoided,
      execArbitrationLost, execBitError, execTelegramCompleted, execTelegramReceived, execLineDisturbance,
      execPeerSilenceExpiry, execSuspensionEnd, execDuplicateAlarmExpiry, execChannelGroupApply, execPointGroupApply,
      execTopologyGroupApply, execLinkGroupApply, execStoreWriteBegin, execStoreWriteEnd, execFrameGapTimeout,
      execFramingDiscard, execFrameCheckFailure, execForeignFrame, execOverrunDiscard, execIgnoredBroadcast,
      execUnknownKind, execReplySent, execIdentify, execStatus, execReadChannel, execReadPoint, execReadPosition,
      execReadZone, execReadOrders, execReadPeers, execReadRecord, execAckRecord, execFetchNotices, execReadSetting,
      execWriteSetting, execDiscard, execCommit, execSetState, execChannelOut, execChannelIn, execCaptureReference,
      execSimulateLight, execSimulateCurrent, execTestTrip, execCancelOrder, execResetLockout, execTimeSet,
      execRestart, execLockoutButtonRelease, execRestartTerminalRelease, execReplyStart, execStartBitSeen]
    exact conclude_next s _

/-- Settling changes the four judged outputs and makes an IDLE transmitter DUE when the content changed. -/
theorem settle_eq (t : State) :
    settle s t =
      { t with
        lockoutContact := t.powered && !t.lockout.isEmpty
        attention := t.powered && !t.notices.isEmpty
        health := t.powered && t.healthCondition
        alarm := t.powered && t.alarmCondition
        link := { t.link with
          tx := if t.link.tx == .idle && s.content != t.content then .due else t.link.tx } } := by
  unfold settle State.noteContent
  split <;> rfl

@[simp] theorem settle_powered (t : State) : (settle s t).powered = t.powered := by rw [settle_eq]
@[simp] theorem settle_clock (t : State) : (settle s t).clock = t.clock := by rw [settle_eq]
@[simp] theorem settle_partTime (t : State) : (settle s t).partTime = t.partTime := by rw [settle_eq]
@[simp] theorem settle_light (t : State) : (settle s t).light = t.light := by rw [settle_eq]
@[simp] theorem settle_current (t : State) : (settle s t).current = t.current := by rw [settle_eq]
@[simp] theorem settle_positions (t : State) : (settle s t).positions = t.positions := by rw [settle_eq]
@[simp] theorem settle_zones (t : State) : (settle s t).zones = t.zones := by rw [settle_eq]
@[simp] theorem settle_orders (t : State) : (settle s t).orders = t.orders := by rw [settle_eq]
@[simp] theorem settle_outputs (t : State) : (settle s t).outputs = t.outputs := by rw [settle_eq]
@[simp] theorem settle_lockout (t : State) : (settle s t).lockout = t.lockout := by rw [settle_eq]
@[simp] theorem settle_records (t : State) : (settle s t).records = t.records := by rw [settle_eq]
@[simp] theorem settle_notices (t : State) : (settle s t).notices = t.notices := by rw [settle_eq]
@[simp] theorem settle_control (t : State) : (settle s t).control = t.control := by rw [settle_eq]
@[simp] theorem settle_settings (t : State) : (settle s t).settings = t.settings := by rw [settle_eq]
@[simp] theorem settle_store (t : State) : (settle s t).store = t.store := by rw [settle_eq]
@[simp] theorem settle_port (t : State) : (settle s t).port = t.port := by rw [settle_eq]
@[simp] theorem settle_button (t : State) : (settle s t).button = t.button := by rw [settle_eq]
@[simp] theorem settle_terminal (t : State) : (settle s t).terminal = t.terminal := by rw [settle_eq]
@[simp] theorem settle_pending (t : State) : (settle s t).pending = t.pending := by rw [settle_eq]

/-- The link after settling: its transmitter alone may have become DUE. -/
theorem settle_link (t : State) :
    (settle s t).link = { t.link with
      tx := if t.link.tx == .idle && s.content != t.content then .due else t.link.tx } := by rw [settle_eq]

/-! ### The notice queue (R150) -/

/-- A posting to a queue with room and no LOST marker stands at its end. -/
theorem enqueue_room (q : List Notice) (n : Notice) (h : ∀ m ∈ q, m.kind ≠ .lost) (l : q.length < 31) :
    enqueue q n = q ++ [n] := by
  have h' : (q.any fun m => m.kind == .lost) = false := by simpa using h
  simp [enqueue, h', l]

/-- A posting never shortens the queue. -/
theorem enqueue_length (q : List Notice) (n : Notice) : q.length ≤ (enqueue q n).length := by
  unfold enqueue
  split
  · simp
  · split <;> simp

/-! ### Reset -/

/-- `State.reset` is what a POWER_ON reset makes of a blank store and wiring that is all off. -/
theorem reset_is_restart : { State.reset with store := Store.blank }.restart .powerOn = State.reset := by decide

end Sys2Proof.Machine
end

