-- ==== Sys2Proof/Laws/Notices.lean ====
section
/-! SUPPORT. Notices already posted stay where they stand: every shared operation of the record unit, the order unit,
the zone logic and the topology unit keeps what the queue began with, as long as no LOST marker is in it (R150). These
lemmas take a proof of `Posted` past everything a command posts later. -/

namespace Sys2Proof.Machine

open Wire

/-- The queue of `s` begins with `q`, which holds no LOST marker. -/
def State.holds (s : State) (q : List Notice) : Prop := (∀ n ∈ q, n.kind ≠ .lost) ∧ q <+: s.notices

/-- An operation that keeps what the queue begins with. -/
def KeepsNotices (f : State → State) : Prop := ∀ s q, s.holds q → (f s).holds q

/-- A posting keeps a beginning of the queue that holds no LOST marker. -/
theorem enqueue_prefix {q r : List Notice} (n : Notice) (hq : ∀ m ∈ q, m.kind ≠ .lost) (h : q <+: r) :
    q <+: enqueue r n := by
  obtain ⟨e, rfl⟩ := h
  unfold enqueue
  split
  · rw [List.map_append]
    have : (q.map fun m => if m.kind == .lost then { m with value := bump m.value } else m) = q := by
      conv_rhs => rw [← List.map_id q]
      exact List.map_congr_left fun m hm => by simp [hq m hm]
    rw [this]
    exact List.prefix_append _ _
  · split
    · rw [List.append_assoc]; exact List.prefix_append _ _
    · rw [List.append_assoc]; exact List.prefix_append _ _

variable {s t : State} {q : List Notice}

/-- The same queue begins with the same. -/
theorem State.holds.same (h : s.holds q) (e : t.notices = s.notices) : t.holds q := ⟨h.1, e ▸ h.2⟩

theorem State.holds.post (h : s.holds q) (k : NoticeKind) (a b : Nat) : (s.post k a b).holds q :=
  ⟨h.1, enqueue_prefix _ h.1 h.2⟩

theorem State.holds.noteContent (h : t.holds q) (s : State) : (s.noteContent t).holds q :=
  h.same (s.noteContent_notices t)

theorem State.holds.foldl {α : Type} {f : State → α → State} (h : s.holds q)
    (hf : ∀ t x, t.holds q → (f t x).holds q) (l : List α) : (l.foldl f s).holds q := by
  induction l generalizing s with
  | nil => exact h
  | cons x l ih => exact ih (hf s x h)

/-! ### Record unit -/

theorem State.holds.recordCreation (h : s.holds q) (b : Bool) (o : Order) (c : Cause) :
    (s.recordCreation b o c).holds q := by
  unfold State.recordCreation
  split
  · refine h.same ?_
    simp only [State.openRecord, State.makeRoom]
    split <;> rfl
  · exact h.same rfl

theorem State.holds.closeRecord (h : s.holds q) : s.closeRecord.holds q := by
  unfold State.closeRecord
  split
  · exact h
  next r _ =>
    dsimp only
    have p : ∀ u : State, u.holds q → (u.post .recordClosed r.kind.code r.number).holds q := fun u hu => hu.post _ _ _
    split
    · split
      · exact State.holds.post (State.holds.same (p _ (h.same rfl)) rfl) _ _ _
      · exact State.holds.same (p _ (h.same rfl)) rfl
    · exact p _ (h.same rfl)

/-! ### Order unit -/

theorem State.holds.setLockout (h : s.holds q) (p : Index) : (s.setLockout p).holds q := by
  unfold State.setLockout
  split
  · exact h
  · exact h.same rfl

theorem State.holds.clearLockouts (h : s.holds q) (ps : List Index) : (s.clearLockouts ps).holds q := by
  unfold State.clearLockouts
  split
  · exact h.same rfl
  · exact h

theorem State.holds.depart (h : s.holds q) (p : Index) {f : State → State} (hf : KeepsNotices f) :
    (s.depart p f).holds q := by
  have h' := hf (({ s with orders := s.orders.filter fun o => o.position != p } : State).deenergise p) q (by exact h.same rfl)
  unfold State.depart
  dsimp only
  refine State.holds.noteContent ?_ s
  split
  · exact h'.closeRecord
  · exact h'

theorem State.holds.release (h : s.holds q) (p : Index) : (s.release p).holds q :=
  h.depart p fun _ _ h => h.same rfl

theorem State.holds.confirm (h : s.holds q) (o : Order) : (s.confirm o).holds q := by
  unfold State.confirm
  dsimp only
  split
  · exact State.holds.release (by exact h.same rfl) _
  · exact h.same rfl

theorem State.holds.judgeOrder (h : s.holds q) (p : Index) : (s.judgeOrder p).holds q := by
  unfold State.judgeOrder
  split
  · exact h
  · dsimp only
    split
    · exact h.same rfl
    · split
      · split
        · exact State.holds.confirm (by exact h.same rfl) _
        · exact h.same rfl
      · split
        · exact State.holds.confirm (by exact h.same rfl) _
        · exact h.same rfl

theorem State.holds.judgeAttached (h : s.holds q) (o : Option Index) : (s.judgeAttached o).holds q := by
  cases o with
  | none => exact h
  | some p => exact h.judgeOrder p

theorem State.holds.createOrder (h : s.holds q) (p : Index) (c : Cause) (a : Attribute) :
    (s.createOrder p c a).holds q := by
  unfold State.createOrder
  refine State.holds.judgeOrder (State.holds.recordCreation ?_ _ _ _) p
  split
  · exact State.holds.setLockout (by exact h.same rfl) p
  · exact h.same rfl

theorem State.holds.upgradeOrder (h : s.holds q) (p : Index) : (s.upgradeOrder p).holds q := by
  unfold State.upgradeOrder
  apply State.holds.judgeOrder
  refine State.holds.same (s := State.setLockout _ p) (State.holds.setLockout (by exact h.same rfl) p) rfl

theorem State.holds.requestOrder (h : s.holds q) (p : Index) (c : Cause) (a : Attribute) :
    (s.requestOrder p c a).holds q := by
  unfold State.requestOrder
  split
  · exact h.createOrder p c a
  · dsimp only
    split
    · exact State.holds.upgradeOrder (by exact h.same rfl) p
    · exact h.same rfl

theorem State.holds.requestAll (h : s.holds q) (ps : List Index) (c : Cause) (a : Attribute) :
    (s.requestAll ps c a).holds q :=
  h.foldl (fun _ p h => h.requestOrder p c a) ps

theorem State.holds.escalate (h : s.holds q) (o : Order) : (s.escalate o).holds q := by
  unfold State.escalate
  dsimp only
  split
  · exact State.holds.post (by exact h.same rfl) _ _ _
  · split
    · refine State.holds.same (s := State.requestAll _ _ _ _) (State.holds.requestAll (State.holds.post (by exact h.same rfl) _ _ _) _ _ _) rfl
    · exact State.holds.requestAll (State.holds.post (by exact h.same rfl) _ _ _) _ _ _

theorem State.holds.failOrder (h : s.holds q) (o : Order) : (s.failOrder o).holds q := (h.escalate o).noteContent s

theorem State.holds.withdrawDry (h : s.holds q) : s.withdrawDry.holds q :=
  h.foldl (fun _ p h => h.depart p fun _ _ h => State.holds.same h (by rfl)) _

theorem State.holds.requestEdge (h : s.holds q) (u p : Index) : (s.requestEdge u p).holds q := by
  unfold State.requestEdge
  split
  · exact h.requestOrder p _ _
  · exact h.post _ _ _

/-! ### Zone logic and topology unit -/

theorem State.holds.requestClearing (h : s.holds q) (z : Index) (a : Attribute) : (s.requestClearing z a).holds q := by
  unfold State.requestClearing
  dsimp only
  split
  · exact h.post _ _ _
  · exact h.requestAll _ _ _

theorem State.holds.enterAlert (h : s.holds q) (z : Index) (c : Zone) (r : AlertReason) :
    (s.enterAlert z c r).holds q := by
  unfold State.enterAlert
  dsimp only
  split
  · exact h.same rfl
  · exact State.holds.post (by exact h.same rfl) _ _ _

theorem State.holds.enterTripped (h : s.holds q) (z : Index) (c : Zone) (a : Attribute) :
    (s.enterTripped z c a).holds q := by
  unfold State.enterTripped
  exact State.holds.requestClearing (State.holds.post (by exact h.same rfl) _ _ _) z a

theorem State.holds.upgradeZone (h : s.holds q) (z : Index) (c : Zone) : (s.upgradeZone z c).holds q := by
  unfold State.upgradeZone
  exact State.holds.requestClearing (State.holds.post (by exact h.same rfl) _ _ _) z .live

theorem State.holds.growZone (h : s.holds q) (z : Index) (e : List Index) : (s.growZone z e).holds q := by
  unfold State.growZone
  split
  · split
    · exact h.requestAll _ _ _
    · exact h
  · exact h

theorem State.holds.evaluate (h : s.holds q) (z : Index) (e : List Index) : (s.evaluate z e).holds q := by
  unfold State.evaluate
  split
  · exact h
  · dsimp only
    split
    · exact h.same rfl
    · exact h.same rfl
    · exact h.same rfl
    · exact h.same rfl
    · exact h.enterAlert _ _ _
    · exact h.enterAlert _ _ _
    · exact h.enterTripped _ _ _
    · exact h.enterTripped _ _ _
    · apply State.holds.growZone
      split
      · exact h.same rfl
      · split
        · exact h.upgradeZone _ _
        · exact h.same rfl

theorem State.holds.evaluateNoted (h : s.holds q) (z : Index) (e : List Index) : (s.evaluateNoted z e).holds q :=
  (h.evaluate z e).noteContent s

theorem State.holds.evaluateWhere (h : s.holds q) (w : Index → Bool) : (s.evaluateWhere w).holds q :=
  h.foldl (fun _ z h => h.evaluateNoted z []) _

theorem State.holds.evaluateAll (h : s.holds q) : s.evaluateAll.holds q := h.evaluateWhere _

theorem State.holds.handOver (h : t.holds q) (s : State) : (s.handOver t).holds q :=
  State.holds.foldl h (fun _ z h => h.evaluateNoted z _) _

theorem State.holds.recompute (h : s.holds q) : s.recompute.holds q :=
  State.holds.handOver (t := s.replaceSets) (by exact h.same rfl) s

theorem State.holds.reconfirm (h : s.holds q) : s.reconfirm.holds q :=
  State.holds.handOver (by exact h.same rfl) s

theorem State.holds.handLinkInputs (h : t.holds q) (s : State) : (s.handLinkInputs t).holds q := h.evaluateWhere _

theorem State.holds.handChannel (h : t.holds q) (s : State) (n : Index) : (s.handChannel t n).holds q := by
  unfold State.handChannel
  split
  · exact (h.noteContent s).evaluateWhere _
  · exact h

theorem State.holds.handPoint (h : t.holds q) (s : State) (m : Index) : (s.handPoint t m).holds q := by
  unfold State.handPoint
  dsimp only
  split
  · split
    · exact (h.judgeAttached _).evaluateWhere _
    · exact h.evaluateWhere _
  · split
    · exact h.judgeAttached _
    · exact h

/-- A change of state begins with STATE_CHANGE and keeps it. -/
theorem State.holds.changeState (h : (({ s with control := c } : State).post .stateChange a b).holds q)
    (hc : c = { s.control with
      state := new, since := s.partTime
      testDeadline := if new = Protection.test then some (s.clock + Config.testSpan) else none })
    (ha : a = s.control.state.code) (hb : b = new.code) : (s.changeState new).holds q := by
  subst hc ha hb
  unfold State.changeState
  dsimp only
  split
  · exact State.holds.evaluateAll (State.holds.withdrawDry (by exact h.same rfl))
  · exact State.holds.evaluateAll h

/-! ### From `holds` to `Posted` -/

/-- What a queue with room begins with after postings: what it held, then the postings in order. -/
theorem holds_enqueued (ns : List Notice) (hs : ∀ n ∈ s.notices, n.kind ≠ .lost) (hn : ∀ n ∈ ns, n.kind ≠ .lost)
    (l : s.notices.length + ns.length ≤ 31) : ns.foldl enqueue s.notices = s.notices ++ ns := by
  induction ns generalizing s with
  | nil => simp
  | cons n ns ih =>
    have e := enqueue_room s.notices n hs (by simp at l; omega)
    rw [List.foldl_cons, e]
    have := ih (s := { s with notices := s.notices ++ [n] })
      (by simp only [List.mem_append, List.mem_singleton]; rintro m (hm | rfl); exacts [hs m hm, hn m (by simp)])
      (fun m hm => hn m (by simp [hm])) (by simp at l ⊢; omega)
    simpa using this

/-- Notices put first in the queue are posted in the command if everything after keeps them. -/
theorem posted_of_holds {ns : List Notice}
    (h : s.notices.length + ns.length ≤ 31 → (∀ n ∈ s.notices, n.kind ≠ .lost) → t.holds (s.notices ++ ns)) :
    Posted s ns t := fun hs hl => (h hl hs).2

end Sys2Proof.Machine
end

