-- ==== Sys2Proof/Laws/PerInstr.lean ====
section
/-! SUPPORT. A family over all commands: the kind and body of an addressed request name that request again (R182). -/

namespace Sys2Proof.Laws

/-- An addressed request's kind is 1 to 26, and the request of its kind and body is itself (R182). -/
def ReadBack.Statement (i : Instr) : Prop :=
  ∀ kind body, i.requestParts = some (kind, body) → 1 ≤ kind ∧ kind ≤ 26 ∧ requestOf kind body = i

/-- A command that is no addressed request. -/
theorem ReadBack.of_none {i : Instr} (h : i.requestParts = none) : ReadBack.Statement i := by
  intro k b e
  rw [h] at e
  cases e

/-- An addressed request of a known kind. -/
theorem ReadBack.of_some {i : Instr} {k : Nat} {b : List Byte} (h : i.requestParts = some (k, b)) (l : 1 ≤ k)
    (u : k ≤ 26) (r : requestOf k b = i) : ReadBack.Statement i := by
  intro k' b' e
  rw [h] at e
  cases e
  exact ⟨l, u, r⟩

theorem ReadBack.powerOn : Statement .powerOn := of_none rfl
theorem ReadBack.powerLoss : Statement .powerLoss := of_none rfl
theorem ReadBack.restartTerminalChange (closed : Bool) : Statement (.restartTerminalChange closed) := of_none rfl
theorem ReadBack.restartTerminalPress : Statement .restartTerminalPress := of_none rfl
theorem ReadBack.startingEnd : Statement .startingEnd := of_none rfl
theorem ReadBack.testTimeout : Statement .testTimeout := of_none rfl
theorem ReadBack.lightSample (raw : List Nat) : Statement (.lightSample raw) := of_none rfl
theorem ReadBack.backgroundUpdate : Statement .backgroundUpdate := of_none rfl
theorem ReadBack.supervisionSlot (channel : Index) : Statement (.supervisionSlot channel) := of_none rfl
theorem ReadBack.burstEnd (channel : Index) : Statement (.burstEnd channel) := of_none rfl
theorem ReadBack.captureBurstStart (channel : Index) : Statement (.captureBurstStart channel) := of_none rfl
theorem ReadBack.captureEnd (channel : Index) : Statement (.captureEnd channel) := of_none rfl
theorem ReadBack.currentSample (samples : List Int) : Statement (.currentSample samples) := of_none rfl
theorem ReadBack.ocHoldExpiry (point : Index) : Statement (.ocHoldExpiry point) := of_none rfl
theorem ReadBack.cpClear (point : Index) : Statement (.cpClear point) := of_none rfl
theorem ReadBack.contactRawChange (position : Index) (contact : Contact) (on : Bool) : Statement (.contactRawChange position contact on) := of_none rfl
theorem ReadBack.debounceExpiry (position : Index) (contact : Contact) : Statement (.debounceExpiry position contact) := of_none rfl
theorem ReadBack.discrepancyExpiry (position : Index) : Statement (.discrepancyExpiry position) := of_none rfl
theorem ReadBack.minPulseExpiry (position : Index) : Statement (.minPulseExpiry position) := of_none rfl
theorem ReadBack.bfDeadline (position : Index) : Statement (.bfDeadline position) := of_none rfl
theorem ReadBack.driveTimeout (position : Index) : Statement (.driveTimeout position) := of_none rfl
theorem ReadBack.lockoutButtonChange (closed : Bool) : Statement (.lockoutButtonChange closed) := of_none rfl
theorem ReadBack.lockoutResetPress : Statement .lockoutResetPress := of_none rfl
theorem ReadBack.heartbeatDue : Statement .heartbeatDue := of_none rfl
theorem ReadBack.sendDecide : Statement .sendDecide := of_none rfl
theorem ReadBack.telegramStart : Statement .telegramStart := of_none rfl
theorem ReadBack.attemptVoided : Statement .attemptVoided := of_none rfl
theorem ReadBack.arbitrationLost : Statement .arbitrationLost := of_none rfl
theorem ReadBack.bitError (onStartBit : Bool) : Statement (.bitError onStartBit) := of_none rfl
theorem ReadBack.telegramCompleted : Statement .telegramCompleted := of_none rfl
theorem ReadBack.telegramReceived (bits : List Bit) : Statement (.telegramReceived bits) := of_none rfl
theorem ReadBack.lineDisturbance : Statement .lineDisturbance := of_none rfl
theorem ReadBack.peerSilenceExpiry (unit : Index) : Statement (.peerSilenceExpiry unit) := of_none rfl
theorem ReadBack.suspensionEnd : Statement .suspensionEnd := of_none rfl
theorem ReadBack.duplicateAlarmExpiry : Statement .duplicateAlarmExpiry := of_none rfl
theorem ReadBack.channelGroupApply (channel : Index) : Statement (.channelGroupApply channel) := of_none rfl
theorem ReadBack.pointGroupApply (point : Index) : Statement (.pointGroupApply point) := of_none rfl
theorem ReadBack.topologyGroupApply : Statement .topologyGroupApply := of_none rfl
theorem ReadBack.linkGroupApply : Statement .linkGroupApply := of_none rfl
theorem ReadBack.storeWriteBegin : Statement .storeWriteBegin := of_none rfl
theorem ReadBack.storeWriteEnd (outcome : WriteOutcome) : Statement (.storeWriteEnd outcome) := of_none rfl
theorem ReadBack.frameGapTimeout : Statement .frameGapTimeout := of_none rfl
theorem ReadBack.framingDiscard (cause : FramingCause) : Statement (.framingDiscard cause) := of_none rfl
theorem ReadBack.frameCheckFailure : Statement .frameCheckFailure := of_none rfl
theorem ReadBack.foreignFrame (address kind : Byte) : Statement (.foreignFrame address kind) := of_none rfl
theorem ReadBack.overrunDiscard : Statement .overrunDiscard := of_none rfl
theorem ReadBack.ignoredBroadcast (kind : Byte) : Statement (.ignoredBroadcast kind) := of_none rfl
theorem ReadBack.unknownKind (kind : Byte) : Statement (.unknownKind kind) := of_none rfl
theorem ReadBack.replySent : Statement .replySent := of_none rfl
theorem ReadBack.identify (body : List Byte) : Statement (.identify body) :=
  of_some rfl (by decide) (by decide) rfl
theorem ReadBack.status (body : List Byte) : Statement (.status body) :=
  of_some rfl (by decide) (by decide) rfl
theorem ReadBack.readChannel (body : List Byte) : Statement (.readChannel body) :=
  of_some rfl (by decide) (by decide) rfl
theorem ReadBack.readPoint (body : List Byte) : Statement (.readPoint body) :=
  of_some rfl (by decide) (by decide) rfl
theorem ReadBack.readPosition (body : List Byte) : Statement (.readPosition body) :=
  of_some rfl (by decide) (by decide) rfl
theorem ReadBack.readZone (body : List Byte) : Statement (.readZone body) :=
  of_some rfl (by decide) (by decide) rfl
theorem ReadBack.readOrders (body : List Byte) : Statement (.readOrders body) :=
  of_some rfl (by decide) (by decide) rfl
theorem ReadBack.readPeers (body : List Byte) : Statement (.readPeers body) :=
  of_some rfl (by decide) (by decide) rfl
theorem ReadBack.readRecord (body : List Byte) : Statement (.readRecord body) :=
  of_some rfl (by decide) (by decide) rfl
theorem ReadBack.ackRecord (body : List Byte) : Statement (.ackRecord body) :=
  of_some rfl (by decide) (by decide) rfl
theorem ReadBack.fetchNotices (body : List Byte) : Statement (.fetchNotices body) :=
  of_some rfl (by decide) (by decide) rfl
theorem ReadBack.readSetting (body : List Byte) : Statement (.readSetting body) :=
  of_some rfl (by decide) (by decide) rfl
theorem ReadBack.writeSetting (body : List Byte) : Statement (.writeSetting body) :=
  of_some rfl (by decide) (by decide) rfl
theorem ReadBack.discard (body : List Byte) : Statement (.discard body) :=
  of_some rfl (by decide) (by decide) rfl
theorem ReadBack.commit (body : List Byte) : Statement (.commit body) :=
  of_some rfl (by decide) (by decide) rfl
theorem ReadBack.setState (body : List Byte) : Statement (.setState body) :=
  of_some rfl (by decide) (by decide) rfl
theorem ReadBack.channelOut (body : List Byte) : Statement (.channelOut body) :=
  of_some rfl (by decide) (by decide) rfl
theorem ReadBack.channelIn (body : List Byte) : Statement (.channelIn body) :=
  of_some rfl (by decide) (by decide) rfl
theorem ReadBack.captureReference (body : List Byte) : Statement (.captureReference body) :=
  of_some rfl (by decide) (by decide) rfl
theorem ReadBack.simulateLight (body : List Byte) : Statement (.simulateLight body) :=
  of_some rfl (by decide) (by decide) rfl
theorem ReadBack.simulateCurrent (body : List Byte) : Statement (.simulateCurrent body) :=
  of_some rfl (by decide) (by decide) rfl
theorem ReadBack.testTrip (body : List Byte) : Statement (.testTrip body) :=
  of_some rfl (by decide) (by decide) rfl
theorem ReadBack.cancelOrder (body : List Byte) : Statement (.cancelOrder body) :=
  of_some rfl (by decide) (by decide) rfl
theorem ReadBack.resetLockout (body : List Byte) : Statement (.resetLockout body) :=
  of_some rfl (by decide) (by decide) rfl
theorem ReadBack.timeSet (broadcast : Bool) (body : List Byte) : Statement (.timeSet broadcast body) := by
  cases broadcast
  · exact of_some rfl (by decide) (by decide) rfl
  · exact of_none rfl
theorem ReadBack.restart (body : List Byte) : Statement (.restart body) :=
  of_some rfl (by decide) (by decide) rfl
theorem ReadBack.lockoutButtonRelease : Statement .lockoutButtonRelease := of_none rfl
theorem ReadBack.restartTerminalRelease : Statement .restartTerminalRelease := of_none rfl
theorem ReadBack.replyStart : Statement .replyStart := of_none rfl
theorem ReadBack.startBitSeen : Statement .startBitSeen := of_none rfl

end Sys2Proof.Laws
end

