-- ==== Sys2Proof/Laws/Port.lean ====
section
/-! SUPPORT. What the station port makes of an addressed request, said once (R174, R175): discarded while transmitting
or answering, refused by steps 2 to 4, or handed to the owning block and answered. -/

namespace Sys2Proof.Machine

open Wire

variable {s : State} {kind : Nat} {body : List Byte} {act : State → Handled}

/-- While the reply is on the line the receiver reads nothing (R173). -/
theorem State.request_transmitting (h : s.port.transmitting = true) : s.request kind body act = s := by
  simp [State.request, State.takeFrame, h]

/-- In ANSWERING a complete frame is discarded and counted (R174). -/
theorem State.request_answering (h : s.port.transmitting = false) (h' : s.port.answering = true) :
    s.request kind body act = s.overrun := by
  simp [State.request, State.takeFrame, h, h']

/-- In READY a request is judged and answered (R174, R175). -/
theorem State.request_ready (h : s.ready) :
    s.request kind body act = (s.beginHandling.judgeRequest kind body act).compose kind := by
  simp [State.request, State.takeFrame, h.2.1, h.2.2]

/-- A refusal answers its code and changes nothing else (R175). -/
theorem refuse_compose (r : Result) : (refuse s.beginHandling r).compose kind = s.answered kind [byte r.code] := by
  simp only [refuse, Handled.compose, State.beginHandling, State.countHandled, State.countPort, State.moveDeadline, State.mapPort,
    State.answered, bump, Config.testSpan]

/-- A request that only reads answers what it read (R174). -/
theorem accept_compose (b : List Byte) : (accept s.beginHandling b).compose kind = s.answered kind (0 :: b) := by
  simp only [accept, Handled.compose, State.beginHandling, State.countHandled, State.countPort, State.moveDeadline, State.mapPort,
    State.answered, bump, Config.testSpan, Result.code]
  rfl

/-- A request refused by steps 2 to 4 of R175. -/
theorem State.request_refused {r : Result} (h : s.ready) (hr : judgeBody s.control.state kind body = some r) :
    s.request kind body act = s.answered kind [byte r.code] := by
  rw [State.request_ready h, State.judgeRequest, show s.beginHandling.control.state = s.control.state from rfl, hr]
  exact refuse_compose r

/-- A request that reaches the owning block. -/
theorem State.request_taken (h : s.ready) (hr : judgeBody s.control.state kind body = none) :
    s.request kind body act = (act s.beginHandling).compose kind := by
  rw [State.request_ready h, State.judgeRequest, show s.beginHandling.control.state = s.control.state from rfl, hr]

/-- Outside STARTING a body of the right length whose index and choice bytes are in range reaches the owning block. -/
theorem judgeBody_none {st : Protection} {fs : List Field} (hk : kindFields kind = some fs) (hs : st ≠ .starting)
    (hl : body.length = bodyLength fs) (hb : bodyRefusal body 0 fs = none) : judgeBody st kind body = none := by
  simp [judgeBody, hk, hl, hb, hs]

/-- STARTING refuses every request but IDENTIFY and STATUS (R155, R175). -/
theorem judgeBody_starting {fs : List Field} (hk : kindFields kind = some fs) (hl : body.length = bodyLength fs)
    (h1 : kind ≠ 1) (h2 : kind ≠ 2) : judgeBody .starting kind body = some .wrongState := by
  simp [judgeBody, hk, hl, h1, h2]

/-! ### What handling begins with -/

/-- Handling touches the test deadline and the port alone. -/
theorem State.beginHandling_eq : s.beginHandling =
    { s with
      control :=
        { s.control with testDeadline := s.control.testDeadline.map fun _ => s.clock + Config.testSpan }
      port :=
        { s.port with
          answering := true, transmitting := false, handledAt := s.clock
          counters := { s.port.counters with handled := bump s.port.counters.handled } } } := by
  simp only [State.beginHandling, State.countHandled, State.countPort, State.moveDeadline, State.mapPort]

@[simp] theorem State.beginHandling_powered : s.beginHandling.powered = s.powered := by rw [State.beginHandling_eq]
@[simp] theorem State.beginHandling_clock : s.beginHandling.clock = s.clock := by rw [State.beginHandling_eq]
@[simp] theorem State.beginHandling_partTime : s.beginHandling.partTime = s.partTime := by rw [State.beginHandling_eq]
@[simp] theorem State.beginHandling_light : s.beginHandling.light = s.light := by rw [State.beginHandling_eq]
@[simp] theorem State.beginHandling_current : s.beginHandling.current = s.current := by rw [State.beginHandling_eq]
@[simp] theorem State.beginHandling_positions : s.beginHandling.positions = s.positions := by rw [State.beginHandling_eq]
@[simp] theorem State.beginHandling_zones : s.beginHandling.zones = s.zones := by rw [State.beginHandling_eq]
@[simp] theorem State.beginHandling_orders : s.beginHandling.orders = s.orders := by rw [State.beginHandling_eq]
@[simp] theorem State.beginHandling_lockout : s.beginHandling.lockout = s.lockout := by rw [State.beginHandling_eq]
@[simp] theorem State.beginHandling_records : s.beginHandling.records = s.records := by rw [State.beginHandling_eq]
@[simp] theorem State.beginHandling_notices : s.beginHandling.notices = s.notices := by rw [State.beginHandling_eq]
@[simp] theorem State.beginHandling_settings : s.beginHandling.settings = s.settings := by rw [State.beginHandling_eq]
@[simp] theorem State.beginHandling_store : s.beginHandling.store = s.store := by rw [State.beginHandling_eq]
@[simp] theorem State.beginHandling_state : s.beginHandling.control.state = s.control.state := by rw [State.beginHandling_eq]

end Sys2Proof.Machine
end

