-- ==== Sys2Proof/Laws/Receiver.lean ====
section
/-! SUPPORT. What the receiver makes of a run of characters, said once (R173): runs in succession, characters passed
over while hunting, and characters of a frame that is not yet whole. -/

namespace Sys2Proof.Machine

open Wire

/-- Two runs in succession. -/
theorem Receiver.hearAll_append (r : Receiver) (a b : List Character) :
    r.hearAll (a ++ b) =
      (((r.hearAll a).1.hearAll b).1, (r.hearAll a).2 ++ ((r.hearAll a).1.hearAll b).2) := by
  induction a generalizing r with
  | nil => rfl
  | cons c a ih => simp [Receiver.hearAll, ih, List.append_assoc]

/-- Hunting passes over whole characters that are no sync byte, and counts none of them. -/
theorem Receiver.hearAll_passedOver (bs : List Byte) (h : ∀ b ∈ bs, b ≠ 195) :
    Receiver.hunting.hearAll (bs.map Character.good) = (.hunting, []) := by
  induction bs with
  | nil => rfl
  | cons b bs ih =>
    have hn : b ≠ 195 := h b (by simp)
    have hb : hunt (Character.good b) = .hunting := by
      rw [hunt, beq_eq_false_iff_ne.mpr (show (Character.good b).byte ≠ 195 from hn)]
      rfl
    simp [Receiver.hearAll, Receiver.hear, hb, ih fun x hx => h x (by simp [hx])]

/-- A character in time that leaves the frame unfinished is kept. -/
theorem Receiver.hear_unfinished {read : List Byte} {c : Character} (hg : c.gap ≤ Config.threeChars)
    (hs : c.stopGood = true) (h : progress (read ++ [c.byte]) = .unfinished) :
    (Receiver.reading read).hear c = (.reading (read ++ [c.byte]), none) := by
  simp [Receiver.hear, Nat.not_lt.mpr hg, hs, h]

/-- A character in time that makes the frame whole ends it. -/
theorem Receiver.hear_whole {read : List Byte} {c : Character} {good : Bool} (hg : c.gap ≤ Config.threeChars)
    (hs : c.stopGood = true) (h : progress (read ++ [c.byte]) = .whole good) :
    (Receiver.reading read).hear c = (.hunting, some (.frame (read ++ [c.byte]) good)) := by
  simp [Receiver.hear, Nat.not_lt.mpr hg, hs, h]

/-- Characters in time, none of which ends the frame, are all kept. -/
theorem Receiver.hearAll_unfinished (bs : List Byte) (read : List Byte)
    (h : ∀ k, 0 < k → k ≤ bs.length → progress (read ++ bs.take k) = .unfinished) :
    (Receiver.reading read).hearAll (bs.map Character.good) = (.reading (read ++ bs), []) := by
  induction bs generalizing read with
  | nil => simp [Receiver.hearAll]
  | cons b bs ih =>
    have h1 : progress (read ++ [b]) = .unfinished := by simpa using h 1 (by omega) (by simp)
    have h2 := ih (read ++ [b]) fun k _ hk => by simpa using h (k + 1) (by omega) (by simpa using hk)
    simp only [List.map_cons, Receiver.hearAll]
    rw [Receiver.hear_unfinished (Nat.zero_le _) rfl h1]
    simpa [Character.good] using h2

/-- Fewer than four characters are never a whole frame. -/
theorem progress_short {l : List Byte} (h : l.length < 4) : progress l = .unfinished := by
  match l, h with
  | [], _ | [_], _ | [_, _], _ | [_, _, _], _ => rfl

/-- The progress of four characters and more, by the length field (R173). -/
theorem progress_long {a k n : Byte} {rest : List Byte} (s : Byte) (hn : n.toNat ≤ 200) :
    progress (s :: a :: k :: n :: rest) =
      if rest.length < n.toNat + 2 then .unfinished
      else
        .whole (at2 rest n.toNat == (check (bitsOfBytes (a :: k :: n :: rest.take n.toNat))).toNat) := by
  simp [progress, Nat.not_lt.mpr hn]

end Sys2Proof.Machine
end

