-- ==== Sys2Proof/Laws/Shape.lean ====
section
/-! SUPPORT. The lists of records keep their lengths (R1): what `put` does to a list, and the shape of a state in which one
record, or a field of another block, has been replaced. -/

namespace Sys2Proof.Machine

variable {s : State}

/-- Replacing one entry keeps the length. -/
@[simp] theorem put_length {α : Type} (l : List α) (n : Index) (v : α) : (put l n v).length = l.length := by
  cases n <;> simp [put]

/-- An entry replaced is read back where the list has it. -/
theorem item_put_same {α : Type} (l : List α) (d v : α) {n : Index} (h0 : 0 < n) (h : n ≤ l.length) :
    item (put l n v) d n = v := by
  cases n with
  | zero => exact absurd h0 (Nat.lt_irrefl 0)
  | succ k => simp [put, item, Nat.lt_of_succ_le h]

/-- Every other entry reads as before. -/
theorem item_put_other {α : Type} (l : List α) (d v : α) {n m : Index} (h : m ≠ n) :
    item (put l n v) d m = item l d m := by
  cases n with
  | zero => rfl
  | succ k =>
    cases m with
    | zero => rfl
    | succ j =>
      have hk : k ≠ j := fun e => h (by rw [e])
      simp [put, item, List.getElem?_set_ne hk]

/-- The shape depends on the four lists and the last light sample instant alone. -/
theorem State.shaped.same (h : s.shaped) {t : State} (hl : t.light.channels.length = s.light.channels.length)
    (hc : t.current.points.length = s.current.points.length) (hp : t.positions.length = s.positions.length)
    (hz : t.zones.length = s.zones.length) (hs : t.light.lastSample = s.light.lastSample) : t.shaped := by
  obtain ⟨h1, h2, h3, h4, h5⟩ := h
  exact ⟨hl.trans h1, hc.trans h2, hp.trans h3, hz.trans h4, by rw [hs]; exact h5⟩

theorem State.shaped.setChannel (h : s.shaped) (n : Index) (c : Channel) : (s.setChannel n c).shaped :=
  h.same (by simp [State.setChannel]) rfl rfl rfl rfl

theorem State.shaped.setPoint (h : s.shaped) (m : Index) (c : Point) : (s.setPoint m c).shaped :=
  h.same rfl (by simp [State.setPoint]) rfl rfl rfl

theorem State.shaped.setPosition (h : s.shaped) (p : Index) (c : Position) : (s.setPosition p c).shaped :=
  h.same rfl rfl (by simp [State.setPosition]) rfl rfl

theorem State.shaped.setZone (h : s.shaped) (z : Index) (c : Zone) : (s.setZone z c).shaped :=
  h.same rfl rfl rfl (by simp [State.setZone]) rfl

end Sys2Proof.Machine
end

