-- ==== Sys2Proof/Laws/Store.lean ====
section
/-! SUPPORT. The record places of the store after a write, said once (R148). -/

namespace Sys2Proof.Machine

variable {later : List Nat} {places : List StoredRecord}

/-- A place goes behind the others when none of them belongs to a later record. -/
theorem insertPlace_last (e : StoredRecord) (h : ∀ p ∈ places, p.number ∉ later) :
    insertPlace later e places = places ++ [e] := by
  unfold insertPlace
  induction places with
  | nil => rfl
  | cons p places ih =>
    have ih := ih fun q hq => h q (by simp [hq])
    have hp : later.contains p.number = false := by simpa using h p (by simp)
    simpa [List.takeWhile, List.dropWhile, h p (by simp)] using ih

/-- Inserting takes one place more. -/
theorem insertPlace_length (e : StoredRecord) : (insertPlace later e places).length = places.length + 1 := by
  have := congrArg List.length (List.takeWhile_append_dropWhile (p := fun p => !later.contains p.number) (l := places))
  simp only [List.length_append] at this
  simp only [insertPlace, List.length_append, List.length_cons]
  omega

/-- Before a first write at most fifteen places stand (R148). -/
theorem placesLeft_length (r : TripRecord) (h : places.length ≤ 16) : (placesLeft places r).length ≤ 15 := by
  have : (places.eraseP fun p => r.replaces == some p.number).length ≤ places.length := List.length_eraseP_le
  unfold placesLeft
  dsimp only
  split
  · omega
  · simp only [List.length_drop]; omega

/-- No write makes more than sixteen places (R148). -/
theorem placeRecord_length (r : TripRecord) (c : Option TripRecord) (h : places.length ≤ 16) :
    (placeRecord later places r c).length ≤ 16 := by
  unfold placeRecord
  split
  · simpa using h
  · rw [insertPlace_length]
    have := placesLeft_length r h
    omega

/-- A record written again keeps its place (R148). -/
theorem placeRecord_again {r : TripRecord} (c : Option TripRecord) (h : rewrites places r = true) :
    placeRecord later places r c = places.map fun p => if p.number == r.number then { number := r.number, content := c } else p := by
  simp [placeRecord, h]

/-- A record written for the first time takes the place after the others that stand, none of them of a later record
(R143, R148). -/
theorem placeRecord_first {r : TripRecord} (c : Option TripRecord) (hw : rewrites places r = false)
    (h : ∀ p ∈ placesLeft places r, p.number ∉ later) :
    placeRecord later places r c = placesLeft places r ++ [{ number := r.number, content := c }] := by
  simp [placeRecord, hw, insertPlace_last _ h]

/-- A record's cut write leaves the other kinds alone, and the stored copy it was to overwrite (R148, R172). -/
theorem State.cutOff_record (s : State) (r : TripRecord) (k : Nat) :
    (s.cutOff (.record r k)).store.image = s.store.image ∧ (s.cutOff (.record r k)).store.lockout = s.store.lockout ∧
      (s.cutOff (.record r k)).store.records =
        if freePlace s.store.records r then s.placesAfter r none else s.store.records := by
  unfold State.cutOff
  dsimp only
  split <;> simp_all [State.storeBad, State.cutNumber, State.markWritten]

end Sys2Proof.Machine
end

