-- ==== Sys2Proof/Tests/Slice0.lean ====
section
/-! SUPPORT. The model's own checks: ill-formed commands refused, the spec's worked values, and for each statement with
hypotheses a concrete state and operands that meet them. The room is the double-ended room worked in
05_switchgear_topology_and_clearing_sets.md. -/

namespace Sys2Proof.Tests

set_option maxRecDepth 20000

open Machine Wire

/-! ## WellFormed refuses -/

theorem test_wellFormed_light_length : (Instr.lightSample (List.replicate 15 0)).wellFormed = false := by decide
theorem test_wellFormed_light_range : (Instr.lightSample (4096 :: List.replicate 15 0)).wellFormed = false := by decide
theorem test_wellFormed_light_top : (Instr.lightSample (List.replicate 16 4095)).wellFormed = true := by decide
theorem test_wellFormed_current_length : (Instr.currentSample (List.replicate 11 0)).wellFormed = false := by decide
theorem test_wellFormed_current_high : (Instr.currentSample (32768 :: List.replicate 11 0)).wellFormed = false := by decide
theorem test_wellFormed_current_low : (Instr.currentSample (-32769 :: List.replicate 11 0)).wellFormed = false := by decide
theorem test_wellFormed_current_bottom : (Instr.currentSample (List.replicate 12 (-32768))).wellFormed = true := by decide
theorem test_wellFormed_channels : ∀ n ∈ [0, 17], (Instr.supervisionSlot n).wellFormed = false ∧
    (Instr.burstEnd n).wellFormed = false ∧ (Instr.captureBurstStart n).wellFormed = false ∧
    (Instr.captureEnd n).wellFormed = false ∧ (Instr.channelGroupApply n).wellFormed = false := by decide
theorem test_wellFormed_points : ∀ n ∈ [0, 5], (Instr.ocHoldExpiry n).wellFormed = false ∧
    (Instr.cpClear n).wellFormed = false ∧ (Instr.pointGroupApply n).wellFormed = false ∧
    (Instr.peerSilenceExpiry n).wellFormed = false := by decide
theorem test_wellFormed_positions : ∀ n ∈ [0, 9], (Instr.contactRawChange n .cl true).wellFormed = false ∧
    (Instr.debounceExpiry n .op).wellFormed = false ∧ (Instr.discrepancyExpiry n).wellFormed = false ∧
    (Instr.minPulseExpiry n).wellFormed = false ∧ (Instr.bfDeadline n).wellFormed = false ∧
    (Instr.driveTimeout n).wellFormed = false := by decide
theorem test_wellFormed_telegram : (Instr.telegramReceived (List.replicate 72 true)).wellFormed = false := by decide
theorem test_wellFormed_broadcast : (Instr.ignoredBroadcast 128).wellFormed = false := by decide
theorem test_wellFormed_unknown : (Instr.unknownKind 26).wellFormed = false ∧ (Instr.unknownKind 27).wellFormed = true ∧
    (Instr.unknownKind 128).wellFormed = false := by decide
theorem test_wellFormed_run : (Instr.lineDisturbance 0).wellFormed = false ∧ (Instr.lineDisturbance 9).wellFormed = true := by
  decide
theorem test_wellFormed_read : ∀ l ∈ [[], [194], 195 :: List.replicate 205 0],
    (Instr.frameGapTimeout l).wellFormed = false ∧ (Instr.framingDiscard .stopBit l).wellFormed = false := by decide
theorem test_wellFormed_body : (Instr.status (List.replicate 201 0)).wellFormed = false := by decide

/-! ## The spec's worked values -/

/-- R184: over the nine bytes of the text characters 1 to 9. -/
theorem test_check_worked : check (bitsOfBytes [49, 50, 51, 52, 53, 54, 55, 56, 57]) = 0x29B1#16 := by decide
/-- R6's table. -/
theorem test_threshold_worked :
    [(300, 600, 1200), (800, 600, 1200), (3700, 600, 1200), (0, 600, 200), (0, 0, 200)].map (fun x : Nat × Nat × Nat =>
      let θ := ({ ChannelSettings.factory with margin := x.2.1, pickup := x.2.2 } : ChannelSettings).threshold x.1
      (θ, dropLevel θ)) = [(1200, 1050), (1400, 1225), (4000, 3500), (600, 525), (200, 175)] := by decide
/-- R32's table. -/
theorem test_gain_worked :
    [(ChannelKind.loop, 1201), (.loop, 500), (.loop, 499), (.point, 1100), (.point, 990), (.point, 2050)].map
      (fun x => (classify x.1 2000 x.2, gainOf x.1 2000 x.2)) =
    [(.pass, 426), (.pass, 1024), (.failDim, 1024), (.pass, 465), (.failDim, 512), (.pass, 256)] := by decide
theorem test_broken_worked : classify .loop 2000 12 = .failBroken ∧ classify .loop 2000 15 = .failBroken := by decide
/-- R44's examples. -/
theorem test_magnitude_worked : [10300, -10300, 0, -32768, 32767].map magnitude = [10300, 10300, 0, 32767, 32767] := by
  decide
/-- R45: k = 75 gives 30720. -/
theorem test_level_worked : ({ PointSettings.factory with pickup := 75 } : PointSettings).pickupLevel = 30720 := by decide

/-! ## The room -/

/-- A used position of the room. -/
def join (a b : Node) (wired : Bool) (backups : List Index) : PositionSettings :=
  { PositionSettings.factory with nodeA := a, nodeB := b, wired, backups }

/-- The room's settings; its zones' modes and members, the channels and the link are the tests' own. -/
def roomSettings : Settings :=
  { Settings.factory with
    channels := List.replicate 8 { ChannelSettings.factory with kind := .loop } ++ List.replicate 8 .factory
    points := [2, 3, 5, 6].map fun p => { PointSettings.factory with attached := some p }
    topology :=
      { positions :=
          [{ join (.source 1) (.zone 1) false [] with remoteBackups := [some ⟨2, 4⟩, none, none, none] },
            { join (.zone 1) (.zone 3) true [] with accept := [2] }, join (.zone 2) (.zone 4) true [],
            join (.source 2) (.zone 2) true [], join (.zone 3) (.zone 4) true [2, 3],
            join (.zone 4) (.source 3) true [], .factory, .factory]
        sources := [true, true, true, false]
        zones :=
          [{ ZoneSettings.factory with mode := .lightOnly, members := [1, 2], exportZone := some 1 },
            { ZoneSettings.factory with mode := .checked, members := [3] },
            { ZoneSettings.factory with mode := .checked, members := [4] },
            { ZoneSettings.factory with mode := .checked, members := [5, 6], importZones := [2] }] ++
          List.replicate 4 .factory }
    link := { unit := 1, peers := [2], owners := List.replicate 8 none }
    station := { address := 7, frequency := .hz50 } }

/-- A closed breaker. -/
def closed : Position := { Position.blank with cl := { raw := true, taken := true, timer := none }, derived := .closed }

/-- An open breaker. -/
def opened : Position := { Position.blank with op := { raw := true, taken := true, timer := none }, derived := .opened }

/-- The room in service with every breaker closed, after a POWER_ON reset, nothing lit and no current. -/
def room : State :=
  { State.reset with
    light := { State.reset.light with channels := List.replicate 8 (.fresh true) ++ List.replicate 8 (.fresh false) }
    positions := Position.blank :: List.replicate 5 closed ++ List.replicate 2 Position.blank
    zones := [.fresh [1, 2] [1], .fresh [3, 4] [2], .fresh [2, 5] [1, 3], .fresh [3, 5, 6] [2, 3, 4]] ++
      List.replicate 4 (.fresh [] [])
    lockout := [], notices := []
    link := .fresh 1 [2], store := .blank
    control := { State.reset.control with state := .inService, imageGood := true }
    settings := { State.reset.settings with active := roomSettings, pending := roomSettings } }

/-- The clearing and confirmation sets of Z1 to Z4. -/
def sets (s : State) : List (List Index × List Index) :=
  [1, 2, 3, 4].map fun z => (s.clearingSet z, s.confirmationSet (s.clearingSet z))

/-- The room's first table. -/
theorem test_room_closed : sets room = [([1, 2], [1]), ([3, 4], [2]), ([2, 5], [1, 3]), ([3, 5, 6], [2, 3, 4])] := by decide
/-- The room's table with the coupler open. -/
theorem test_room_coupler_open :
    sets (room.setPosition 5 opened) = [([1], []), ([3, 4], [2]), ([2], [1]), ([3, 6], [2, 4])] := by decide
/-- The room's table with incomer 1 open. -/
theorem test_room_incomer_open :
    sets (room.setPosition 2 opened) = [([1], []), ([3, 4], [2]), ([5], [3]), ([3, 6], [2, 4])] := by decide
/-- The checks of R78 pass, and a cycle of backups is found (R82). -/
theorem test_room_checks : roomSettings.firstFailure = none := by decide

/-- The request and the reply of the STATUS exchange worked in 13_frame_and_record_formats.md. -/
theorem test_status_body : (({ room with
    settings := { room.settings with serial := 18 }
    notices := List.replicate 3 { kind := .positionChange, subject := 1, value := 0, time := 0 }
    port := { room.port with
      counters := { framing := 0, checks := 1, foreign := 4, overruns := 0, broadcasts := 0, handled := 212 } }
    link := { room.link with peers := [{ Peer.fresh 2 with state := .live }] } } : State).statusBody).map (fun b => b.toNat) =
    [1, 0, 0, 18, 0, 3, 0, 0, 0, 0, 0, 0, 1, 0, 4, 0, 0, 0, 0, 0, 212, 7] := by decide
/-- Its request frame, at unit 7 and at another (R173, R182). -/
theorem test_status_frame :
    (requestFrame 7 (.status [])).map (fun f => f.take 4) = some [195, 7, 2, 0] ∧
      (requestFrame 7 (.status [])).bind (readFrame 7) = some (.status []) ∧
      (requestFrame 7 (.status [])).bind (readFrame 8) = some (.foreignFrame 7 2) := by decide
/-- A length of 201, a failed check, and characters without a sync (R173). -/
theorem test_frame_refused : readFrame 7 [195, 7, 2, 201] = some (.framingDiscard .length [195, 7, 2, 201]) ∧
    readFrame 7 [195, 7, 2, 0, 0, 0] = some .frameCheckFailure ∧ readFrame 7 [194, 7, 2, 0, 0, 0] = none := by decide
/-- The receiver hunts past what stands before a sync, and again after a frame given up (R173). -/
theorem test_line_hunts : readLine 7 ([1, 2, 195, 7, 2, 201, 5, 195, 7, 2, 0, 0, 0].map Machine.Character.good) =
    [.framingDiscard .length [195, 7, 2, 201], .frameCheckFailure] := by decide
/-- Three character times, 3125 ticks, are not too long (R173); a sync after the gap begins a frame. -/
theorem test_line_gap : (let line := fun gap => [.good 195, .good 7, ⟨195, true, gap⟩] ++ [7, 2, 0, 0, 0].map Character.good
    (readLine 7 (line 3126), readLine 7 (line 3125))) =
    ([.frameGapTimeout [195, 7], .frameCheckFailure], []) := by decide

/-! ## Witnesses: for each statement with hypotheses, states and operands that meet them -/

/-- The room in TEST, its deadline running. -/
def roomTest : State :=
  { room with control := { room.control with state := .test, testDeadline := some 12000 } }
/-- A LIVE order for incomer 1, one that the room's Z3 asked for. -/
def order2 : Order :=
  { position := 2, attr := .live, stage := .driving, causes := [⟨.zone, 3⟩], further := 0, testOnly := false, startedAt := 0,
    deadline := 1440000, supervised := true, escalated := none, remoteHeld := false }
/-- The room with that order standing, in its record. -/
def roomOrder (o : Order) : State :=
  { room with
    orders := [o], outputs := [o.position], lockout := [o.position]
    records := [{
      number := 1, kind := .live, state := .opened, openedAt := 0, cause := ⟨.zone, 3⟩, light := [], zones := [3]
      peaks := none, lost := 0, olderLost := false, written := false, replaces := none
      entries := [{ position := o.position, cause := ⟨.zone, 3⟩, live := true, stage := .driving, created := 0
                    confirmed := none, released := none }] }]
    nextRecord := 2 }
/-- The room with one channel's record changed. -/
def roomChannel (n : Index) (f : Channel → Channel) : State := room.setChannel n (f (room.channel n))
/-- The room with its link changed. -/
def roomLink (f : Link → Link) : State := { room with link := f room.link }
/-- The room with its port changed. -/
def roomPort (f : Port → Port) : State := { room with port := f room.port }
/-- A content that unit 2 might send, asking unit 1 for position 2. -/
def content2 : Content := { unit := 2, state := .inService, zones := [2, 8], currents := [1], requests := [⟨1, 2⟩] }

theorem test_witness_StepRunsTheFrontCommand :
    ({ room with pending := [.powerOn, .powerLoss] } : State).pending = .powerOn :: [.powerLoss] ∧
      (room.pending = [] ∧ room.powered = true) ∧
      (({ room with powered := false } : State).pending = [] ∧ ({ room with powered := false } : State).powered = false) := by
  decide
/-- Every invariant holds after reset, and a step with a command in front answers a next state. -/
theorem test_witness_invariants :
    let s : State := { State.reset with pending := [.startingEnd] }
    (s.contactsAgree ∧ queueOk s.notices ∧ s.ordersAgree ∧ s.channelsWithin ∧ s.linkAgrees ∧ s.zonesAgree ∧ s.zonesJudged ∧
      s.topologyCurrent ∧ s.ordersJudged) ∧ ∃ t, step s = .next t := by
  refine ⟨⟨?_, ?_, ⟨?_, ?_, ?_, ?_⟩, ?_, ?_, ?_, ?_, ?_, ?_⟩, _, rfl⟩
  · unfold State.contactsAgree; decide
  · unfold queueOk; decide
  · unfold State.oneOrderEach; decide
  · unfold State.outputsBacked; decide
  · unfold State.liveLocked; decide
  · unfold State.openAgrees; decide
  · unfold State.channelsWithin Settings.channelsBounded Channel.within; decide
  · unfold State.linkAgrees; decide
  · unfold State.zonesAgree; decide
  · unfold State.zonesJudged State.shaped State.judged; decide
  · unfold State.topologyCurrent State.shaped; decide
  · unfold State.ordersJudged State.oneOrderEach; decide
/-- Queues with room, with 31 entries, and with a marker. -/
theorem test_witness_NoticeQueueKeepsItsShape :
    let n : Notice := { kind := .zoneTrip, subject := 1, value := 1, time := 0 }
    let full := List.replicate 31 n
    ((∀ m ∈ List.replicate 30 n, m.kind ≠ .lost) ∧ (List.replicate 30 n).length < 31) ∧
      ((∀ m ∈ full, m.kind ≠ .lost) ∧ 31 ≤ full.length) ∧
      ({ n with kind := .lost, value := 65535 } : Notice).kind = .lost := by decide
theorem test_witness_SupplyComesAndGoes :
    let cut := { room with store := { room.store with busy := some ⟨.record default 2, 120000⟩ } }
    cut.store.busy.bind (fun w => w.content.recordState) ≠ none ∧
    room.store.busy.bind (fun w => w.content.recordState) = none ∧
    ({ room with powered := false } : State).powered = false ∧ room.powered = true ∧
      Instr.startingEnd ≠ .powerOn ∧ (∀ b, Instr.startingEnd ≠ .restartTerminalChange b) ∧
      (∀ b, Instr.startingEnd ≠ .lockoutButtonChange b) ∧ ∀ p k b, Instr.startingEnd ≠ .contactRawChange p k b := by
  refine ⟨by decide, by decide, by decide, by decide, by decide, ?_, ?_, ?_⟩ <;> intros <;> exact Instr.noConfusion
theorem test_witness_ButtonsAndTerminalDebounce :
    let pressed : Button := { raw := true, taken := false, timer := some 48000 }
    let s := { room with terminal := pressed, button := pressed, store := { room.store with waitLockout := true } }
    let u := { room with store := { room.store with busy := some ⟨.lockout [1], 60000⟩ } }
    let v := { room with store := { room.store with busy := some ⟨.settings ⟨roomSettings, 1⟩, 480000⟩ } }
    let w := { room with store := { room.store with busy := some ⟨.record default 2, 120000⟩ } }
    (s.powered = true ∧ s.terminal.raw = true ∧ s.terminal.taken = false ∧ s.terminal.timer.isSome = true ∧
      s.store.waitLockout = true) ∧
    (u.store.busy = some ⟨.lockout [1], 60000⟩ ∧ u.store.waitLockout = false) ∧
    v.store.busy = some ⟨.settings ⟨roomSettings, 1⟩, 480000⟩ ∧ w.store.busy = some ⟨.record default 2, 120000⟩ ∧
    (room.store.busy = none ∧ room.store.waitLockout = false) ∧
    (room.terminal.timer = some 48000 ∧ room.terminal.raw = false ∧ room.terminal.taken = true ∧
      true ≠ room.terminal.raw ∧ true ≠ room.button.raw ∧
      room.button.timer = some 48000 ∧ room.button.raw = false ∧ room.button.taken = true) := by decide
theorem test_witness_StartingAndTestEnd :
    (State.reset.powered = true ∧ State.reset.control.state = .starting) ∧ room.control.state ≠ .starting ∧
      (roomTest.powered = true ∧ roomTest.control.state = .test ∧ roomTest.control.testDeadline = some 12000) ∧
      room.control.state ≠ .test ∧
      (({ roomTest with orders := [order2] } : State).orders.map fun o => o.position).Nodup ∧ order2.attr = .live ∧
      (let s := roomOrder { order2 with attr := .dry }
       (s.orders.map fun o => o.position).Nodup ∧ s.openAgrees ∧ (∀ q ∈ upTo 8, 0 < (s.positionSet q).minPulse) ∧
        (∃ r ∈ s.records, r.state = .opened) ∧ ∀ o ∈ s.orders, o.attr = .dry) := by
  unfold State.openAgrees; decide
theorem test_witness_SetStateFollowsItsTable :
    (room.powered = true ∧ room.port.answering = false ∧ room.port.transmitting = false) ∧
      (4 < (5 : Byte).toNat ∧ room.control.state ≠ .starting) ∧ State.reset.control.state = .starting ∧
      (State.reset.powered = true ∧ State.reset.port.answering = false ∧ State.reset.port.transmitting = false) ∧
      ((4 : Byte).toNat ≤ 4 ∧ ¬(room.control.state = .inService ∧ ((4 : Byte).toNat = 2 ∨ (4 : Byte).toNat = 3)) ∧
        ¬(room.control.state = .test ∧ (4 : Byte).toNat = 1) ∧
        ¬(room.control.state = .outOfService ∧ (4 : Byte).toNat = 1)) ∧
      ((roomOrder order2).control.state = .inService ∧ (3 : Byte).toNat = 3 ∧ (roomOrder order2).orders ≠ [] ∧
        ∀ o ∈ (roomOrder order2).orders, o.startedAt = (roomOrder order2).clock ∧
          ∃ c, o.causes.head? = some c ∧ c.origin = .zone) ∧
      (∃ o ∈ (roomOrder { order2 with startedAt := 5 }).orders, o.startedAt ≠ room.clock) ∧
      (room.control.state = .inService ∧ room.orders = []) ∧ (roomTest.control.state = .test ∧ (1 : Byte).toNat = 1) := by
  decide
theorem test_witness_LightSamplesAreTaken :
    let s := { room with light := { room.light with lastSample := some 1200 }, clock := 1300 }
    let out := roomChannel 1 fun c => { c with detection := .out }
    let burst := roomChannel 1 fun c => { c with burst := some ⟨3, 30⟩ }
    (room.powered = true ∧ room.lightOwes = false ∧ room.light.channels.length = 16) ∧
    ({ room with light := { room.light with interval := 100 } } : State).lightOwes = true ∧
    (s.lightOwes = false ∧ s.light.lastSample = some 1200 ∧ 1200 ∣ 1200 ∧ s.clock ≤ 1200 + 1200) ∧
    (room.light.lastSample = none ∧ room.clock = 0) ∧ (9 ∈ upTo 16 ∧ room.usedChannel 9 = false) ∧
    (out.lightOwes = false ∧ out.usedChannel 1 = true ∧ (out.channel 1).capture = none ∧ (out.channel 1).burst = none ∧
      (out.channel 1).detection = .out) ∧
    (burst.lightOwes = false ∧ burst.light.channels.length = 16 ∧ (burst.channel 1).burst = some ⟨3, 30⟩ ∧
      (burst.channel 1).capture = none) := by decide
/-- θ is 1200 and K is 3: a reading of 1199 is dark, 1200 is light. -/
theorem test_witness_LightSampleQualifies :
    let pick := roomChannel 1 fun c => { c with detection := .pickup, pickupCount := 2 }
    let lit := roomChannel 1 fun c => { c with detection := .lit, litSince := some 4294965296, drops := 9 }
    (∀ s ∈ [room, pick, lit], s.powered = true ∧ s.lightOwes = false ∧ s.light.channels.length = 16 ∧
      s.usedChannel 1 = true ∧ (s.channel 1).capture = none ∧ (s.channel 1).burst = none ∧
      (s.channel 1).detection ∈ [Detection.dark, .pickup, .lit, .steady]) ∧
    (room.channel 1).gain = 256 ∧ min 4000 (max 1200 ((room.channel 1).background + 600)) = 1200 ∧
    (room.channelSet 1).qualify ≤ (pick.channel 1).pickupCount + 1 ∧ 10 ≤ (lit.channel 1).drops + 1 ∧
    2000 ≤ (lit.partTime + 4294967296 - 4294965296) % 4294967296 := by decide
theorem test_witness_BackgroundUpdates :
    room.light.interval ≠ 100 ∧
      ({ room with light := { room.light with interval := 100 } } : State).light.interval = 100 ∧ room.powered = true := by
  decide
/-- Channel 2's slot comes 63 ms into the second; channel 1's at once. -/
theorem test_witness_SupervisionSlotsAct :
    (room.powered = true ∧ room.usedChannel 9 = false) ∧
    (∀ d ∈ [Detection.dark, .lit, .referencing],
      let s := roomChannel 1 fun c => { c with detection := d }
      s.powered = true ∧ s.lightOwes = false ∧ s.usedChannel 1 = true ∧ 0 ≤ (s.toSlot 1).partTime % 1000 ∧
        (s.channel 1).slotMark ≠ some ((s.toSlot 1).partTime / 1000)) ∧
    (room.partTime < 4294967296 ∧ room.msPhase < 12000 ∧ (room.toSlot 2).slotComes 2 = true ∧ room.nextLight ≤ 1200 * 629 ∧
      1200 * 629 < (room.toSlot 2).clock) := by decide
/-- Four returns whose mean is 16 on a LOOP fail DIM, 15 BROKEN; a third strike changes the health. -/
theorem test_witness_BurstEndClassifies :
    let s := roomChannel 1 fun c => { c with burst := some ⟨4, 63⟩, strikeKind := .broken, strikeCount := 2 }
    ((room.channel 1).burst.all fun b => b.pulses != 4) = true ∧
    (s.powered = true ∧ (s.channel 1).burst = some ⟨4, 63⟩ ∧ s.light.channels.length = 16 ∧ 63 / 4 < 16 ∧
      ¬64 / 4 < 16 ∧ (s.channel 1).health ≠ .broken ∧ (s.channel 1).simulated = false) := by decide
/-- The candidate 2006 of R38's example; 256 and 4000 are taken, 255 and 4095 are not. -/
theorem test_witness_CaptureRuns :
    let cap := fun k : Capture => roomChannel 1 fun c => { c with detection := .referencing, capture := some k }
    let mid : Capture := { begun := 3, samples := 300, pulses := 4, sum := 4000, means := 3000 }
    (room.channel 1).capture = none ∧ room.powered = true ∧
    (((cap mid).channel 1).capture = some mid ∧ 1 ≤ mid.begun ∧ mid.begun < 16 ∧ mid.samples = 100 * mid.begun ∧
      mid.samples ≠ 1600) ∧
    (∀ m ∈ [(32104, 2006), (4096, 256), (64000, 4000), (4095, 255), (65520, 4095)],
      let k : Capture := { begun := 16, samples := 1600, pulses := 4, sum := 0, means := m.1 }
      ((cap k).channel 1).capture = some k ∧ k.means ≤ 65520 ∧ k.means / 16 = m.2) := by decide
theorem test_witness_CurrentSampleIsTaken :
    let owed := room.setPoint 1 { Point.fresh with cp := true, quiet := 32 }
    (room.powered = true ∧ room.currentOwes = false ∧ room.clock ≤ room.current.next ∧
      (room.point 4).armed.length ≤ 3 ∧ (∀ q ∈ upTo 8, 0 < (room.positionSet q).minPulse) ∧
      (∃ t, exec (.currentSample []) room = .next t ∧
        (t.orders.map fun o => (o.position, o.startedAt)) = room.orders.map fun o => (o.position, o.startedAt))) ∧
    (owed.powered = true ∧ owed.currentOwes = true) := by
  refine ⟨⟨by decide, by decide, by decide, by decide, by decide, _, rfl, by decide⟩, by decide⟩
/-- An OC whose hold has run, of a point that confirms a zone and of one that confirms none. -/
theorem test_witness_CurrentFlagsClear :
    let ran := room.setPoint 1 { Point.fresh with oc := true, holdOver := true }
    let quiet := room.setPoint 1 { Point.fresh with cp := true, quiet := 32 }
    (ran.powered = true ∧ ran.current.points.length = 4 ∧ (ran.point 1).oc = true ∧
      (ran.point 1).holdOver = true) ∧
    (∀ z ∈ upTo 8, 1 ∉ (({ ran with zones := [] } : State).zone z).confirmation) ∧
    (quiet.powered = true ∧ (quiet.point 1).cp = true ∧ (quiet.point 1).quiet = 32 ∧ (quiet.pointSet 1).attached = some 2) ∧
    (room.point 1).oc = false ∧ (State.reset.pointSet 1).attached = none := by decide
theorem test_witness_ContactTimersRun :
    let s := room.setPosition 2 { Position.blank with derived := .travel, travelStart := some 0 }
    (room.powered = true ∧ 2 ∈ upTo 8 ∧ room.positions.length = 8 ∧ false ≠ (room.position 2).cl.raw ∧
      true ≠ (room.position 2).op.raw ∧ (room.position 2).derived ≠ .travel) ∧
    ((s.position 2).derived = .travel ∧ s.usedPosition 2 = true ∧ (s.positionSet 2).wired = true ∧
      (s.position 2).cl.taken = false ∧ (s.position 2).op.taken = false ∧ (s.position 2).travelStart = some 0) := by decide
theorem test_witness_DebounceDerives :
    let s := room.setPosition 2 { closed with cl := { raw := false, taken := true, timer := some 48000 } }
    (room.powered = true ∧ 2 ∈ upTo 8 ∧ room.positions.length = 8 ∧ ((room.position 2).contact .cl).timer = none) ∧
      (s.positions.length = 8 ∧ ((s.position 2).contact .cl).timer = some 48000 ∧ (s.position 2).cl.raw = false ∧
        (s.position 2).op.taken = false ∧ Derived.travel ≠ (s.position 2).derived) := by decide
theorem test_witness_clearing_set : 1 ∈ upTo 8 ∧ 2 ∈ room.clearingSet 1 := by decide
/-- Z1 is LIGHT_ONLY: lit, its target is TRIPPED; Z3 lit without current is ALERT; the others are QUIET. -/
theorem test_witness_evaluations :
    let lit := roomChannel 1 fun c => { c with detection := .lit }
    let alert := roomChannel 4 fun c => { c with detection := .lit }
    (∀ s ∈ [lit, alert], s.zones.length = 8 ∧ s.control.state.evaluates = true ∧ s.usedZone 1 = true ∧
      s.usedZone 3 = true) ∧
    lit.target 1 (lit.readings 1) = .tripped .live ∧ alert.target 3 (alert.readings 3) = .alert .noCurrent ∧
      room.target 2 (room.readings 2) = .quiet := by decide
theorem test_witness_RequestCreatesAnOrder :
    (3 ∈ upTo 8 ∧ room.orderAt 3 = none ∧ 0 < (room.positionSet 3).minPulse ∧ room.orders = [] ∧
      ∀ r ∈ room.records, r.state ≠ .opened) ∧
    ((roomOrder order2).orderAt 3 = none ∧ (roomOrder order2).orders ≠ [] ∧
      ∀ r ∈ (roomOrder order2).records, r.state = .opened → ∀ e ∈ r.entries, e.position = 3 → e.released.isSome) := by decide
theorem test_witness_RequestMergesOrUpgrades :
    let dry := roomOrder { order2 with attr := .dry, causes := List.replicate 4 ⟨.zone, 3⟩ }
    (((roomOrder order2).orders.map fun o => o.position).Nodup ∧ order2 ∈ (roomOrder order2).orders ∧
      0 < ((roomOrder order2).positionSet 2).minPulse ∧ order2.position ∈ upTo 8) ∧
    ((dry.orders.map fun o => o.position).Nodup ∧ ∀ o ∈ dry.orders, o.attr = .dry ∧ ¬o.causes.length < 4) := by decide
theorem test_witness_ReleaseDeparts :
    let two := { roomOrder order2 with orders := [order2, { order2 with position := 3 }] }
    (2 ∈ upTo 8 ∧ (roomOrder order2).outputs ⊆ upTo 8 ∧ ((roomOrder order2).orders.filter fun o => o.position != 2) = [] ∧
      ((roomOrder order2).records.find? fun r => r.state == .opened).isSome) ∧
    (two.outputs ⊆ upTo 8 ∧ (two.orders.filter fun o => o.position != 2) ≠ []) := by decide
theorem test_witness_OrderTimersRun :
    (∀ o ∈ [order2, { order2 with stage := .confirmed }, { order2 with stage := .failed },
        { order2 with stage := .stalled }, { order2 with supervised := false }],
      (roomOrder o).powered = true ∧ (roomOrder o).orderAt 2 = some o) ∧ room.orderAt 2 = none ∧
    -- the evidence: open and without current, closed, and neither wired nor measured
    (let s := roomOrder order2
     let lone := roomOrder { order2 with position := 1 }
     (s.setPosition 2 opened).unsupervised 2 = false ∧ (s.setPosition 2 opened).cleared 2 = true ∧ s.cleared 2 = false ∧
      order2.stage ≠ .confirmed ∧ ¬(order2.startedAt + (s.positionSet 2).minPulse * Config.ms ≤ s.clock) ∧
      (lone.setPosition 1 { Position.blank with derived := .none }).unsupervised 1 = true) := by decide
theorem test_witness_DeadlineFails :
    let o := { order2 with position := 5 }
    let s := roomOrder o
    -- an unsupervised order whose deadline comes before, or at, the end of its minimum pulse
    let lone := { order2 with position := 1, supervised := false, deadline := 100 }
    let due := { lone with deadline := 1800000 }
    (s.powered = true ∧ (s.orders.map fun q => q.position).Nodup ∧ (∀ q ∈ upTo 8, 0 < (s.positionSet q).minPulse) ∧
      s.orderAt 5 = some o ∧ o.stage = .driving ∧ s.unsupervised 5 = false ∧ s.cleared 5 = false ∧ o.supervised = true ∧
      5 ∉ (s.positionSet 5).backups ∧ o.testOnly = false ∧ 2 ∈ (s.positionSet 5).backups ∧ s.usedPosition 2 = true ∧
      o.attr = .live ∧ ∀ q ∈ s.orders, q.attr = .live → q.position ∈ s.lockout) ∧
    (∀ q ∈ [lone, due], let v := roomOrder q
      (v.powered = true ∧ (v.orders.map fun r => r.position).Nodup ∧ v.orderAt 1 = some q ∧ q.stage = .driving ∧
        q.supervised = !v.unsupervised 1 ∧ 1 ∉ (v.positionSet 1).backups ∧
        q.deadline ≤ q.startedAt + (v.positionSet 1).minPulse * Config.ms)) ∧
    ((roomOrder due).advanceTo due.deadline).clock = due.startedAt + ((roomOrder due).positionSet 1).minPulse * Config.ms ∧
    (roomOrder { order2 with stage := .confirmed }).orderAt 2 = some { order2 with stage := .confirmed } := by decide
theorem test_witness_LockoutsReset :
    let pressed : Button := { raw := true, taken := false, timer := some 48000 }
    let s := { roomOrder order2 with button := pressed, lockout := [2, 3] }
    (s.powered = true ∧ s.button.timer = some 48000 ∧ s.button.raw = true ∧ s.button.taken = false ∧
      s.port.answering = false ∧ s.port.transmitting = false ∧ s.control.state ≠ .starting ∧
      membersOf 8 (6 : Byte).toNat = [2, 3]) ∧ ¬(room.button.raw = true) := by decide
theorem test_witness_TestTripAndCancelOrder :
    let stalled := roomOrder { order2 with stage := .stalled }
    (roomTest.powered = true ∧ roomTest.port.answering = false ∧ roomTest.port.transmitting = false ∧
      roomTest.control.state = .test ∧ membersOf 8 (2 : Byte).toNat = [2] ∧ roomTest.usedPosition 2 = true ∧
      roomTest.orderAt 2 = none ∧ (membersOf 8 (3 : Byte).toNat).length ≠ 1 ∧ roomTest.usedPosition 7 = false ∧
      membersOf 8 (64 : Byte).toNat = [7] ∧ room.control.state ≠ .test) ∧
    (stalled.port.answering = false ∧ stalled.control.state ≠ .starting ∧ (2 : Byte).toNat ∈ upTo 8 ∧
      stalled.orderAt 2 = some { order2 with stage := .stalled } ∧
      ∀ o ∈ (roomOrder order2).orderAt 2, o.stage ≠ .stalled) ∧
    ¬(1 ≤ (9 : Byte).toNat ∧ (9 : Byte).toNat ≤ 8) := by decide
theorem test_witness_TelegramReadsBack : content2.canonical := by unfold Content.canonical; decide
theorem test_witness_SendingCycleRuns :
    (∀ t ∈ [Transmitter.idle, .due, .armed, .sending],
      let s := roomLink fun l => { l with tx := t, snapshot := some content2, sendStart := some 96 }
      s.powered = true ∧ s.link.tx = t ∧ s.link.suspended = none ∧ s.link.telegram = none ∧
        s.link.snapshot = some content2 ∧ s.link.sendStart = some 96) ∧ State.reset.link.tx = .off := by decide
theorem test_witness_AttemptsAreGivenUp :
    (∀ t ∈ [Transmitter.idle, .armed, .sending],
      let s := roomLink fun l => { l with tx := t }
      s.powered = true ∧ s.link.tx = t ∧ s.link.telegram = none ∧ s.settings.active.link.unit ≠ 0) ∧
    (∀ d ∈ [0, 100], let s := roomLink fun l => { l with tx := .armed, decided := some d, snapshot := some content2 }
      s.link.decided = some d ∧ s.link.snapshot = some content2 ∧
        (s.toStartBit.ownStart.isSome ↔ d = 0)) ∧
    ¬(State.reset.settings.active.link.unit ≠ 0) := by decide
theorem test_witness_TelegramIsJudged :
    let s := roomLink fun l => { l with telegram := some 96 }
    let own : Content := { content2 with unit := 1 }
    let other : Content := { content2 with unit := 3 }
    room.link.telegram = none ∧ (s.powered = true ∧ s.link.telegram = some 96 ∧ s.link.tx ≠ .sending) ∧
    endBitsGood (List.replicate 73 false) = false ∧
    (endBitsGood (List.replicate 73 true) = true ∧ telegramCheckGood (List.replicate 73 true) = false) ∧
    (∀ c ∈ [own, other], endBitsGood c.afterStart = true ∧ telegramCheckGood c.afterStart = true ∧
      Content.ofBits (c.afterStart.take 53) = c) ∧
    own.unit = s.settings.active.link.unit ∧ other.unit ≠ s.settings.active.link.unit ∧
      ∀ p ∈ s.link.peers, p.unit ≠ other.unit := by decide
theorem test_witness_PeerTelegramIsTaken :
    let s := roomLink fun l => { l with telegram := some 96 }
    let live := roomLink fun l => { l with
      telegram := some 96
      peers := [{ Peer.fresh 2 with
        state := .live, reported := some .inService, light := [2, 8], current := [1], requests := [2], silence := some 1 }] }
    (s.powered = true ∧ s.link.tx ≠ .sending ∧ s.link.telegram = some 96 ∧ endBitsGood content2.afterStart = true ∧
      telegramCheckGood content2.afterStart = true ∧ Content.ofBits (content2.afterStart.take 53) = content2 ∧
      content2.unit ≠ s.settings.active.link.unit ∧ s.peer content2.unit = some (Peer.fresh 2) ∧
      (Peer.fresh 2).state ≠ .live ∧ (s.positionSet 2).accept = [2] ∧ s.usedPosition 2 = true ∧
      (∀ b ∈ upTo 8, 0 < (s.positionSet b).minPulse)) ∧
    (live.peer 2).isSome = true ∧ (∀ p ∈ live.peer 2, p.state = .live ∧ p.requests = [2]) := by decide
theorem test_witness_LinkTimersRun :
    let s := roomLink fun l => { l with
      suspended := some 50, duplicateAlarm := true, lastDuplicate := some 40
      peers := [{ Peer.fresh 2 with state := .live, silence := some 180000 }] }
    let dominant := roomLink fun l => { l with recessive := 600, disturbed := some 600 }
    (room.powered = true ∧ room.settings.active.link.unit ≠ 0 ∧ room.link.telegram = none ∧ room.link.disturbed = none ∧
      room.clock < room.link.recessive + 96 ∧ dominant.link.disturbed = some 600 ∧
      (dominant.advanceTo 612).clock < dominant.link.recessive + 96 ∧
      ¬(roomLink fun l => { l with telegram := some 0 }).link.telegram = none ∧ room.link.suspended = none ∧ room.link.duplicateAlarm = false ∧
      ∀ p ∈ room.peer 2, p.state ≠ .live) ∧
    (s.powered = true ∧ (s.peer 2).isSome = true ∧ (∀ p ∈ s.peer 2, p.state = .live ∧ p.silence = some 180000) ∧
      s.link.suspended = some 50 ∧ s.link.duplicateAlarm = true ∧ s.link.lastDuplicate = some 40) := by decide
/-- The room with every group of it waiting. -/
def roomWaiting : State :=
  { room with settings := { room.settings with
      image := some { roomSettings with link := { roomSettings.link with unit := 0 } }
      waiting := { channels := [1, 16], points := [1, 4], topology := true, link := true, station := true } } }
theorem test_witness_ChannelGroupApplies :
    let lit := { roomWaiting with light := (roomChannel 1 fun c => { c with detection := .lit }).light }
    (roomWaiting.powered = true ∧ (∀ n ∈ [1, 16], n ∈ upTo 16 ∧ n ∈ roomWaiting.settings.waiting.channels) ∧
      roomWaiting.light.channels.length = 16 ∧
      (roomWaiting.channel 1).detection ≠ .referencing ∧
      (roomWaiting.channel 1).detection ∉ [Detection.pickup, .lit, .steady]) ∧ 1 ∉ room.settings.waiting.channels ∧
    ¬(lit.control.state = .setupFault ∨ (lit.channel 1).detection ∉ [Detection.pickup, .lit, .steady]) ∧
    ((roomChannel 1 fun c => { c with detection := .referencing }).channel 1).detection = .referencing := by decide
theorem test_witness_PointGroupApplies :
    roomWaiting.powered = true ∧ roomWaiting.current.points.length = 4 ∧
      (∀ m ∈ [1, 4], m ∈ upTo 4 ∧ m ∈ roomWaiting.settings.waiting.points ∧ (roomWaiting.point m).oc = false ∧
        (roomWaiting.point m).cp = false) ∧ 1 ∉ room.settings.waiting.points ∧ roomWaiting.control.state ≠ .setupFault ∧
      ({ roomWaiting with control := { room.control with state := .setupFault } } : State).control.state = .setupFault := by
  decide
theorem test_witness_TopologyAndLinkGroupsApply :
    roomWaiting.powered = true ∧ roomWaiting.settings.waiting.topology = true ∧ roomWaiting.positions.length = 8 ∧
      (∀ z ∈ upTo 8, (roomWaiting.zone z).state = .quiet) ∧ roomWaiting.orders = [] ∧
      roomWaiting.settings.waiting.link = true ∧ roomWaiting.link.telegram = none ∧ roomWaiting.link.tx ≠ .armed ∧
      roomWaiting.link.tx ≠ .sending ∧ room.settings.waiting.topology = false ∧ room.settings.waiting.link = false := by
  decide
/-- Busy, orders standing, an unread LIVE record, a failing pending set, and one that passes. -/
theorem test_witness_CommitIsJudgedAndStaged :
    let failing := { room with settings := { room.settings with
      pending := { roomSettings with topology := { roomSettings.topology with sources := List.replicate 4 false } } } }
    (room.powered = true ∧ room.port.answering = false ∧ room.port.transmitting = false ∧
      room.control.state ≠ .starting ∧ room.settings.waiting.count = 0 ∧
      (∀ n ∈ upTo 16, (room.channel n).detection ≠ .referencing) ∧ room.orders = [] ∧ room.records = [] ∧
      room.settings.pending.firstFailure = none ∧ room.settings.active.channels.length = 16 ∧
      room.settings.active.points.length = 4 ∧ room.light.channels.length = 16) ∧
    (∀ n ∈ upTo 16, item room.settings.active.channels .factory n = item room.settings.pending.channels .factory n) ∧
    (∀ m ∈ upTo 4, item room.settings.active.points .factory m = item room.settings.pending.points .factory m) ∧
    0 < roomWaiting.settings.waiting.count ∧ (roomOrder order2).orders ≠ [] ∧
    failing.settings.pending.firstFailure = some (1, 1) := by decide
theorem test_witness_CommitChecksAreExact : roomSettings.topology.positions.length ≤ 8 ∧
    ({ roomSettings with topology := { roomSettings.topology with
      positions := roomSettings.topology.positions.set 0 { PositionSettings.factory with nodeA := .zone 1 } } } :
        Settings).firstFailure = some (1, 1) := by decide
theorem test_witness_SettingsAreReadAndWritten :
    (room.powered = true ∧ room.control.state ≠ .starting) ∧ itemForm 1 17 1 = none ∧ (itemForm 1 16 2).isSome = true ∧
      ((itemForm 1 16 2).bind fun f => f.stored 65535).isSome = true ∧ ((itemForm 1 16 1).map fun f => f.stored 3) = some none ∧
      room.settings.waiting.count = 0 ∧ 0 < roomWaiting.settings.waiting.count := by decide
theorem test_witness_SettingReadsBack :
    roomSettings.channels.length = 16 ∧ roomSettings.points.length = 4 ∧ roomSettings.topology.positions.length = 8 ∧
      roomSettings.topology.sources.length = 4 ∧ roomSettings.topology.zones.length = 8 ∧
      roomSettings.link.owners.length = 8 ∧ (∀ p ∈ roomSettings.topology.positions, p.remoteBackups.length = 4) ∧
      (∀ z ∈ roomSettings.topology.zones, z.remoteList.length = 4) ∧
      (itemForm 1 16 2).bind (fun f => f.stored 65535) = some 4000 ∧ (itemForm 2 4 1).isSome = true ∧
      ((2, 4, 1) : Nat × Nat × Nat) ≠ (1, 16, 2) := by decide
theorem test_witness_StoreWritesOneAtATime :
    let r := ((roomOrder order2).records.map fun q => { q with state := .unread }).headD default
    let waits := { room with records := [r], store := { room.store with waitRecords := [1], waitSettings := true } }
    (room.powered = true ∧ room.store.busy = none ∧ room.store.waitLockout = false ∧ room.store.waitSettings = false ∧
      room.store.waitRecords = []) ∧
    (r.written = false ∧ ∀ q ∈ waits.store.records.eraseP fun q => r.replaces == some q.number,
      q.number ∉ numbersAfter r.number waits.records) ∧
    (∃ q ∈ [(⟨r.number, none⟩ : StoredRecord)], q.number = ({ r with written := true } : TripRecord).number) ∧
    (waits.store.busy = none ∧ waits.store.waitLockout = false ∧
      (waits.store.waitRecords.filterMap fun n =>
        waits.records.find? fun q => q.number == n && q.state != .opened).head? = some r) ∧
    (∀ c ∈ [WriteContent.lockout [1], .record r 2, .settings ⟨roomSettings, 1⟩],
      ({ room with store := { room.store with busy := some ⟨c, 60000⟩ } } : State).store.busy = some ⟨c, 60000⟩) := by decide
theorem test_witness_FramesAreCounted :
    let answering := roomPort fun p => { p with answering := true }
    (room.powered = true ∧ room.port.transmitting = false ∧ room.port.answering = false ∧ (127 : Byte).toNat < 128 ∧
      128 ≤ (128 : Byte).toNat ∧ (8 : Byte).toNat ≠ 0 ∧ (8 : Byte).toNat ≠ room.settings.active.station.address ∧
      (24 : Byte).toNat ≠ 25 ∧ State.reset.control.state = .starting) ∧
    (room.port.receiver = .hunting ∧ room.port.receiver.after [195, 7, 2, 1, 9, 9] ≠ .hunting ∧
      room.port.receiver.after [194, 7] = .hunting ∧ room.port.receiver.overLong [195, 7, 2, 201] = true) ∧
    (answering.powered = true ∧ answering.port.transmitting = false ∧ answering.port.answering = true) ∧
    (roomPort fun p => { p with answering := true, transmitting := true }).port.transmitting = true := by decide
theorem test_witness_RequestsAreRefusedInOrder :
    (room.powered = true ∧ room.port.answering = false ∧ room.port.transmitting = false ∧ room.control.state ≠ .starting) ∧
      (26 ∈ upTo 26 ∧ 1 ∈ upTo 26 ∧ 27 < 128 ∧ (27 = 0 ∨ 26 < 27)) ∧ ([0, 0] : List Byte).length ≠ 1 ∧
      ¬(1 ≤ at0 [0] 0 ∧ at0 [0] 0 ≤ 16) ∧ ¬(1 ≤ at0 [17] 0 ∧ at0 [17] 0 ≤ 16) ∧ ¬(1 ≤ at0 [5] 0 ∧ at0 [5] 0 ≤ 4) ∧
      ¬(1 ≤ at0 [9] 0 ∧ at0 [9] 0 ≤ 8) ∧ 1 < at0 [16, 2] 1 ∧ 1 < at0 [2, 0, 0] 0 ∧ 1 < at0 [1, 1, 1, 2] 3 ∧
      4 < at0 [5] 0 ∧ State.reset.control.state = .starting := by decide
theorem test_witness_ReadsAreAnswered :
    let held := fun k : RecordState =>
      ({ room with records := (roomOrder order2).records.map fun r => { r with state := k } } : State)
    (room.powered = true ∧ room.port.answering = false ∧ room.port.transmitting = false ∧ room.control.state ≠ .starting ∧
      (16 : Byte).toNat ∈ upTo 16 ∧ (4 : Byte).toNat ∈ upTo 4 ∧ (8 : Byte).toNat ∈ upTo 8) ∧
    (room.records.find? fun r => r.state == .unread) = none ∧ (1 : Byte).toNat ≠ 0 ∧
    (∀ k ∈ [RecordState.opened, .unread, .read],
      (((held k).records.find? fun r => r.number == (0 : Byte).toNat * 256 + (1 : Byte).toNat).map fun r => r.state) =
        some k) ∧
    ((held .unread).records.find? fun r => r.state == .unread).isSome = true := by decide
theorem test_witness_RepliesAndTimeFollow :
    let answering := roomPort fun p => { p with answering := true, reply := List.replicate 29 0 }
    let restarting := roomPort fun p => { p with answering := true, transmitting := true, restartAfter := true }
    let staged := { roomWaiting with port := answering.port }
    let owed := { answering with settings := { answering.settings with doneOwed := true } }
    (answering.powered = true ∧ answering.port.answering = true ∧ answering.port.transmitting = false ∧
      answering.port.restartAfter = false ∧ answering.settings.waiting.station = false ∧ answering.settings.doneOwed = false) ∧
    (restarting.port.answering = true ∧ restarting.port.restartAfter = true) ∧
    (staged.port.answering = true ∧ staged.settings.waiting.station = true ∧ staged.settings.doneOwed = false) ∧
    (owed.settings.waiting.count = 0 ∧ owed.settings.doneOwed = true) ∧
    (room.port.answering = false ∧ room.port.transmitting = false ∧ room.control.state ≠ .starting ∧
      ([0, 0, 0, 1] : List Byte).length = 4 ∧ ([] : List Byte).length ≠ 4 ∧ State.reset.control.state = .starting ∧
      State.reset.port.answering = false) := by decide
theorem test_witness_ChannelRequestsAct :
    (∀ d ∈ [Detection.unused, .referencing, .out, .suspended, .steady],
      let s := { roomTest with light := (roomChannel 4 fun c => { c with detection := d }).light }
      s.powered = true ∧ s.port.answering = false ∧ s.port.transmitting = false ∧ s.control.state = .test ∧
        s.light.channels.length = 16 ∧ s.current.points.length = 4 ∧ (s.channel (4 : Byte).toNat).detection = d ∧
        (s.channel 4).burst = none) ∧
    (4 : Byte).toNat ∈ upTo 4 ∧ (16 : Byte).toNat ∈ upTo 16 ∧ room.control.state ≠ .test ∧
      (room.point 4).simulated = false := by decide
theorem test_witness_FrameReadsBack :
    (Instr.testTrip [5]).requestParts = some (22, [5]) ∧ ([5] : List Byte).length ≤ 200 ∧ 30 ∈ upTo 30 ∧ 1 ∈ upTo 30 ∧
      (requestFrame 30 (.testTrip [5])).isSome = true ∧ (1 : Nat) ≠ 30 ∧
      (∀ f ∈ requestFrame 30 (.testTrip [5]), 0 < 6 ∧ 6 < f.length) := by decide

/-! ## Single steps -/

/-- The state a command answers. -/
def after (c : Instr) (s : State) : State :=
  match exec c s with
  | .next t => t
  | .fault _ | .refused _ => s

/-- R8, R9: the third sample at θ lights the channel; Z1, LIGHT_ONLY, trips and orders its clearing set (R93). -/
theorem test_step_trip :
    let t := after (.lightSample (1200 :: List.replicate 15 0))
      (roomChannel 1 fun c => { c with detection := .pickup, pickupCount := 2 })
    (t.channel 1).detection = .lit ∧ (t.zone 1).state = .tripped ∧ (t.orders.map fun o => o.position) = [1, 2] ∧
      t.outputs = [1, 2] ∧ t.lockout = [1, 2] := by decide
/-- A sample one below θ leaves the channel dark (R8). -/
theorem test_step_dark :
    ((after (.lightSample (1199 :: List.replicate 15 0)) room).channel 1).detection = .dark := by decide
/-- R32's first row: T_ref 2000 and a mean return of 1201. -/
theorem test_step_burst :
    let t := after (.burstEnd 1) (roomChannel 1 fun c => { c with burst := some ⟨4, 4804⟩ })
    (t.channel 1).gain = 426 ∧ (t.channel 1).lastResult = some .pass := by decide
/-- R38's example. -/
theorem test_step_capture :
    let t := after (.captureEnd 1) (roomChannel 1 fun c => { c with
      detection := .referencing, capture := some { begun := 16, samples := 1600, pulses := 4, sum := 0, means := 32104 } })
    (t.channel 1).captured = some 2006 ∧ (t.channel 1).detection = .out := by decide
/-- R46, R49: the second sample at P = 10240 sets OC, the first only arms; CP sets at once. -/
theorem test_step_current :
    let first := after (.currentSample (10240 :: List.replicate 11 0)) room
    let second := after (.currentSample (-10240 :: List.replicate 11 0)) first
    (first.point 1).oc = false ∧ (first.point 1).cp = true ∧ (second.point 1).oc = true := by decide
/-- R110: the coupler fails, and both incomers are ordered. -/
theorem test_step_backup :
    let t := after (.bfDeadline 5) (roomOrder { order2 with position := 5 })
    (t.orders.map fun o => (o.position, o.stage)) = [(5, .failed), (2, .driving), (3, .driving)] := by decide
/-- R57: both contacts off is TRAVEL; R115: a failed order stalls. -/
theorem test_step_travel :
    ((after (.debounceExpiry 2 .cl) (room.setPosition 2
      { closed with cl := { raw := false, taken := true, timer := some 48000 } })).position 2).derived = .travel := by decide
theorem test_step_stall :
    (after (.driveTimeout 2) (roomOrder { order2 with stage := .failed })).outputs = [] := by decide
/-- R157, R162: TEST is entered, health stays and alarm comes. -/
theorem test_step_set_state :
    let t := after (.setState [2]) room
    t.control.state = .test ∧ t.health = true ∧ t.alarm = true ∧ (t.port.reply.take 6).map (fun b => b.toNat) =
      [195, 7, 144, 2, 0, 2] := by decide
/-- The head of the STATUS reply worked in 13_frame_and_record_formats.md. -/
theorem test_step_status :
    ((after (.status []) room).port.reply.take 7).map (fun b => b.toNat) = [195, 7, 130, 23, 0, 1, 0] := by decide
/-- R137: unit 2's telegram asks position 2 to open, which its accept set allows. -/
theorem test_step_remote :
    let t := after (.telegramReceived content2.afterStart) (roomLink fun l => { l with telegram := some 96 })
    (t.orders.map fun o => (o.position, o.causes)) = [(2, [⟨.remote, 2⟩])] ∧ (t.link.peers.map fun p => p.state) = [.live] := by
  decide
/-- R156 with no good image: SETUP_FAULT. -/
theorem test_step_starting_end : (after .startingEnd State.reset).control.state = .setupFault := by decide
/-- A bit error on the start bit, then another unit's telegram: the unit decides at that telegram's end (R130). -/
theorem test_step_hold_off :
    let s := roomLink fun l => { l with tx := .sending, snapshot := some content2, telegram := some 0, sendStart := some 0 }
    let t := after (.telegramReceived content2.afterStart) (after .startBitSeen (after (.bitError true) s))
    (after .sendDecide t).clock = t.clock ∧ (after .sendDecide t).link.tx = .armed := by decide
/-- A start bit of this unit that was read recessive is no telegram: another unit's in the next bit time is taken at once
(R130, R132). -/
theorem test_step_start_bit_error :
    let s := { roomLink fun l => { l with tx := .sending, snapshot := some content2, telegram := some 96 } with clock := 108 }
    (after .startBitSeen (after (.bitError true) s)).link.telegram = some 108 := by decide
/-- ARMED when the eighth recessive bit time ends, the unit starts together with the one whose start bit it sees (R129). -/
theorem test_step_start_together :
    let t := after .startBitSeen (after .sendDecide room)
    (t.link.tx, t.link.sendStart, t.link.telegram, t.link.counters.voidedStarts) = (.sending, some 96, some 96, 0) := by
  decide
/-- ARMED within a bit time of a long idle line, the unit sees another's start bit before it has driven its own (R129). -/
theorem test_step_attempt_voided :
    let s := after .sendDecide { room with clock := 125 }
    let t := after .attemptVoided s
    ((after .telegramStart s).link.sendStart, t.link.tx, t.link.counters.voidedStarts) = (some 132, .due, 1) := by decide
/-- A DRY order is withdrawn from the list and in the record, which closes (R119, R144). -/
theorem test_step_withdrawal :
    let s := roomOrder { order2 with attr := .dry }
    let t := after .testTimeout { s with outputs := [], control := roomTest.control }
    t.orders = [] ∧ (t.records.map fun r => (r.state, r.entries.map fun e => (e.stage, e.released))) =
      [(.unread, [(.withdrawn, some 10)])] := by decide
/-- A STALLED order whose current goes is confirmed and released, and its entry stays STALLED (R107, R108, R144). -/
theorem test_step_late_confirmation :
    let s := { roomOrder { order2 with stage := .stalled } with
      clock := 24000 * Config.ms, positions := room.positions.set 1 opened, outputs := [] }
    let e := { (s.records.headD default).entries.headD default with stage := .stalled }
    let r := { s.records.headD default with entries := [e] }
    let t := after (.cpClear 1) ({ s with records := [r] }.setPoint 1 { Point.fresh with cp := true, quiet := 32 })
    t.orders = [] ∧ (t.records.map fun r => r.entries.map fun e => (e.stage, e.confirmed, e.released)) =
      [[(.stalled, some 65535, some 65535)]] := by decide
/-- A discrepancy time shortened while in TRAVEL and already passed makes the position INVALID at the application (R63). -/
theorem test_step_topology_expires :
    let q : Position := { Position.blank with derived := .travel, travelStart := some 0 }
    let topology := { roomSettings.topology with
      positions := roomSettings.topology.positions.map fun k => { k with discrepancy := 50 } }
    let s := { roomWaiting.setPosition 2 q with clock := 60 * Config.ms }
    let t := after .topologyGroupApply { s with settings := { s.settings with
      image := some { roomSettings with topology } } }
    (t.position 2).derived = .invalid ∧ (t.position 2).expired = true ∧ (t.position 2).changes = 1 := by decide
/-- A run of nine dominant bits counts once; eight recessive bit times after it the line is free (R132). -/
theorem test_step_dominant_run :
    let t := after (.lineDisturbance 9) room
    (t.link.counters.framingErrors, t.link.recessive, (after .startBitSeen t).clock) = (1, 108, 204) := by decide
/-- A trip of the request's own instant may stand in OUT_OF_SERVICE (R160). -/
theorem test_step_leaves_service :
    let t := after (.setState [3]) { roomOrder order2 with sched := { room.sched with tripsAfterRequest := true } }
    t.control.state = .outOfService ∧ t.outputs = [2] := by decide
/-- Flags raised at the deadline of an unsupervised order make a send due, though it is released at once (R113, R127). -/
theorem test_step_flags_sent :
    let o := { order2 with position := 1, supervised := false, deadline := 1800000 }
    let t := after (.bfDeadline 1) { roomOrder o with link := { room.link with tx := .idle } }
    t.link.tx = .due ∧ t.content.requests = [] := by decide
/-- The rewrite of an acknowledged record is cut off: the record returns UNREAD (R148). -/
theorem test_step_cut_rewrite :
    let r : TripRecord := { (default : TripRecord) with number := 1, kind := .live, state := .unread, written := true }
    let s := { room with
      records := [{ r with state := .read }]
      store := { room.store with
        records := [⟨1, some r⟩], busy := some ⟨.record { r with state := .read } 2, 120000⟩ } }
    (after .powerOn (after .powerLoss s)).records = [r] := by decide
/-- The first write of a record overwrites the copy of the one discarded at its opening (R143). -/
theorem test_step_discarded_copy :
    let r : TripRecord := { (default : TripRecord) with number := 17, state := .unread, replaces := some 1 }
    let s := { room with store := { room.store with
      records := [⟨1, none⟩, ⟨2, none⟩], busy := some ⟨.record r 18, 120000⟩ } }
    (after (.storeWriteEnd .verified) s).store.records.map (fun q => q.number) = [2, 17] := by decide
/-- A restart in a capture: the pending set is a copy of the active one (R164), or its T_ref keeps what it held (R39). -/
theorem test_step_reference_kept :
    let s := { roomChannel 1 fun c => { c with detection := .referencing } with
      powered := false
      store := { room.store with image := .good ⟨roomSettings, 3⟩ }
      settings := { room.settings with pending := roomSettings.set 1 1 5 3000 } }
    let u := after .powerOn s
    let t := after .powerOn { s with sched := { s.sched with referenceKept := true } }
    (t.settings.pending.get 1 1 5, t.settings.active.get 1 1 5, u.settings.pending == u.settings.active) =
      (3000, roomSettings.get 1 1 5, true) ∧ t.settings.serial = 3 := by decide
/-- The commit image goes when its write begins with nothing waiting, be APPLY_DONE owed or not (R169). -/
theorem test_step_image_dropped :
    (after .storeWriteBegin { room with
      settings := { room.settings with image := some roomSettings, doneOwed := true }
      store := { room.store with waitSettings := true } }).settings.image = none := by decide
/-- A command put in the queue is the next one run; an empty queue lets a tick pass. -/
theorem test_step_queue : (match step State.reset with
    | .next t => t.clock
    | .fault _ | .refused _ => 0) = 1 := by decide

end Sys2Proof.Tests
end

section
/-! What the zones stand on, apart from everything else: the inputs of an evaluation, the zones themselves and the lists'
lengths. A command that leaves `State.seen` alone keeps every rule about zones at once. -/

namespace Sys2Proof.Machine

open Wire

/-! ### Records by number -/

/-- Reading a mapped list by number is mapping what is read, where the default is mapped to the default. -/
theorem item_map {α β : Type} (f : α → β) (l : List α) (d : α) (n : Index) : item (l.map f) (f d) n = f (item l d n) := by
  cases n with
  | zero => rfl
  | succ k => simp only [item, List.getD_eq_getElem?_getD, List.getElem?_map, Option.getD_map]

/-- Mapping a list with one entry replaced replaces the mapped entry. -/
theorem put_map {α β : Type} (f : α → β) (l : List α) (n : Index) (v : α) : (put l n v).map f = put (l.map f) n (f v) := by
  cases n with
  | zero => rfl
  | succ k => exact List.map_set

/-- Replacing an entry by itself changes nothing. -/
theorem put_item_self {α : Type} (l : List α) (d : α) (n : Index) : put l n (item l d n) = l := by
  cases n with
  | zero => rfl
  | succ k =>
    rcases Nat.lt_or_ge k l.length with hk | hk
    · simp [put, item, hk]
    · exact List.set_eq_of_length_le hk

/-- Replacing an entry by one that a function does not tell from it changes nothing that the function tells. -/
theorem put_map_same {α β : Type} {f : α → β} {l : List α} {n : Index} {v : α} (d : α) (h : f v = f (item l d n)) :
    (put l n v).map f = l.map f := by
  rw [put_map, h, ← item_map f, put_item_self]

/-- After a replacement an entry reads as before, or it is the one replaced and reads as the new value. -/
theorem item_put_cases {α : Type} (l : List α) (d v : α) (n m : Index) :
    item (put l n v) d m = item l d m ∨ m = n ∧ item (put l n v) d m = v := by
  rcases eq_or_ne m n with rfl | hne
  · cases m with
    | zero => exact .inl rfl
    | succ k =>
      rcases Nat.lt_or_ge k l.length with hk | hk
      · exact .inr ⟨rfl, item_put_same l d v (Nat.succ_pos k) hk⟩
      · exact .inl (by rw [put, List.set_eq_of_length_le hk])
  · exact .inl (item_put_other l d v hne)

/-- A number in a range. -/
theorem mem_upTo {n k : Nat} : n ∈ upTo k ↔ 1 ≤ n ∧ n ≤ k := by
  simp only [upTo, List.mem_range'_1]
  omega

/-- A number beyond the list reads as the default. -/
theorem item_beyond {α : Type} {l : List α} (d : α) {k n : Nat} (hl : l.length = k) (h : n ∉ upTo k) : item l d n = d := by
  cases n with
  | zero => rfl
  | succ j =>
    have hj : l.length ≤ j := by rw [hl]; rw [mem_upTo] at h; omega
    simp [item, hj]

/-- A list rebuilt by number is mapped. -/
theorem map_upTo_item {α β : Type} (f : α → β) {l : List α} (d : α) {k : Nat} (h : l.length = k) :
    ((upTo k).map fun n => f (item l d n)) = l.map f := by
  subst h
  refine List.ext_getElem (by simp [upTo]) fun i hi _ => ?_
  have hl : i < l.length := by simpa [upTo] using hi
  simp [upTo, Nat.add_comm 1 i, item, hl]

/-- An entry of a list built by number. -/
theorem item_map_upTo {α : Type} (f : Index → α) (d : α) {k n : Nat} (h : n ∈ upTo k) : item ((upTo k).map f) d n = f n := by
  obtain ⟨h1, h2⟩ := mem_upTo.mp h
  obtain ⟨j, rfl⟩ : ∃ j, n = j + 1 := ⟨n - 1, by omega⟩
  have hj : j < k := by omega
  simp [item, upTo, hj, Nat.add_comm 1 j]

/-! ### The inputs -/

/-- What of a channel the zones and the rule on captures read: detection state, simulation, whether a capture runs. -/
def Channel.input (c : Channel) : Channel :=
  { Channel.fresh false with
    detection := c.detection, simulated := c.simulated, capture := c.capture.map fun _ => default }

/-- What of a point the zones read: its OC and its simulation. -/
def Point.input (p : Point) : Point := { Point.fresh with oc := p.oc, simulated := p.simulated }

/-- The state with the zones and everything but the inputs of their evaluation blanked (R86, R87, R97), the lists' lengths
and the last light sample instant (R1, R4) kept. -/
def State.inputs (s : State) : State :=
  { State.reset with
    powered := s.powered
    light := { lastSample := s.light.lastSample, interval := 0, channels := s.light.channels.map Channel.input }
    current := { State.reset.current with points := s.current.points.map Point.input }
    positions := s.positions.map fun _ => .blank
    zones := []
    link := { Link.fresh 0 [] with peers := s.link.peers }
    control := { State.reset.control with state := s.control.state }
    settings := { State.reset.settings with
      active := { Settings.factory with topology := s.settings.active.topology, link := s.settings.active.link } } }

/-- The inputs together with the zones. -/
def State.seen (s : State) : State := { s.inputs with zones := s.zones }

variable {s t u : State}

theorem State.inputs_of_seen (h : t.seen = s.seen) : t.inputs = s.inputs :=
  (congrArg (fun u : State => { u with zones := [] }) h :)

theorem State.zones_of_seen (h : t.seen = s.seen) : t.zones = s.zones :=
  (congrArg (fun u : State => u.zones) h :)

/-- The decision path's frame and the zones give what is seen. -/
theorem State.seen_eq_apart (s : State) : s.seen = { s.apart.inputs with zones := s.zones } := by
  simp only [State.seen, State.inputs, State.apart, List.map_map, Function.comp_def]
  rfl

/-- An operation of the decision path that leaves the zones alone leaves alone what is seen. -/
theorem State.seen_of_apart (ha : t.apart = s.apart) (hz : t.zones = s.zones) : t.seen = s.seen := by
  rw [t.seen_eq_apart, s.seen_eq_apart, ha, hz]

/-- An operation of the decision path leaves the inputs alone. -/
theorem State.inputs_of_apart (ha : t.apart = s.apart) : t.inputs = s.inputs := by
  have key (u : State) : u.inputs = { u.seen with zones := [] } := rfl
  rw [key t, key s, t.seen_eq_apart, s.seen_eq_apart, ha]

/-! ### The views read the inputs alone -/

theorem State.inputs_channel (n : Index) : s.inputs.channel n = (s.channel n).input :=
  item_map Channel.input s.light.channels (.fresh false) n

theorem State.inputs_point (m : Index) : s.inputs.point m = (s.point m).input :=
  item_map Point.input s.current.points .fresh m

theorem State.lightFlag_of_inputs (h : t.inputs = s.inputs) (n : Index) : t.lightFlag n = s.lightFlag n := by
  have key (u : State) : u.inputs.lightFlag n = u.lightFlag n := by
    simp only [State.lightFlag, State.inputs_channel, Channel.input]
  rw [← key t, ← key s, h]

theorem State.simulatedLight_of_inputs (h : t.inputs = s.inputs) (n : Index) :
    t.simulatedLight n = s.simulatedLight n := by
  have key (u : State) : u.inputs.simulatedLight n = u.simulatedLight n := by
    simp only [State.simulatedLight, State.inputs_channel, Channel.input]
  rw [← key t, ← key s, h]

theorem State.point_of_inputs (h : t.inputs = s.inputs) (m : Index) : (t.point m).input = (s.point m).input := by
  rw [← State.inputs_point, ← State.inputs_point, h]

theorem State.oc_of_inputs (h : t.inputs = s.inputs) (m : Index) : (t.point m).oc = (s.point m).oc :=
  (congrArg (fun p : Point => p.oc) (State.point_of_inputs h m) :)

theorem State.simulated_of_inputs (h : t.inputs = s.inputs) (m : Index) : (t.point m).simulated = (s.point m).simulated :=
  (congrArg (fun p : Point => p.simulated) (State.point_of_inputs h m) :)

theorem State.powered_of_inputs (h : t.inputs = s.inputs) : t.powered = s.powered :=
  (congrArg (fun u : State => u.powered) h :)

theorem State.state_of_inputs (h : t.inputs = s.inputs) : t.control.state = s.control.state :=
  (congrArg (fun u : State => u.control.state) h :)

theorem State.topology_of_inputs (h : t.inputs = s.inputs) : t.settings.active.topology = s.settings.active.topology :=
  (congrArg (fun u : State => u.settings.active.topology) h :)

theorem State.peers_of_inputs (h : t.inputs = s.inputs) : t.link.peers = s.link.peers :=
  (congrArg (fun u : State => u.link.peers) h :)

theorem State.linkSettings_of_inputs (h : t.inputs = s.inputs) : t.settings.active.link = s.settings.active.link :=
  (congrArg (fun u : State => u.settings.active.link) h :)

/-- The shape is a matter of the inputs and the number of zones. -/
theorem State.shaped.of_inputs (hs : s.shaped) (h : t.inputs = s.inputs) (hz : t.zones.length = s.zones.length) :
    t.shaped := by
  refine hs.same ?_ ?_ ?_ hz (congrArg (fun u : State => u.light.lastSample) h :)
  · simpa [State.inputs] using congrArg (fun u : State => u.light.channels.length) h
  · simpa [State.inputs] using congrArg (fun u : State => u.current.points.length) h
  · simpa [State.inputs] using congrArg (fun u : State => u.positions.length) h

/-! ### Captures (R19, R37) -/

/-- A capture runs on a REFERENCING channel alone. -/
def Channel.captureAgrees (c : Channel) : Prop := c.capture.isSome → c.detection = .referencing

theorem Channel.captureAgrees_of_input {c d : Channel} (h : d.input = c.input) (hc : c.captureAgrees) : d.captureAgrees := by
  have hcap : d.capture.isSome = c.capture.isSome := by
    simpa [Channel.input] using congrArg (fun e : Channel => e.capture.isSome) h
  have hdet : d.detection = c.detection := (congrArg (fun e : Channel => e.detection) h :)
  intro hd
  rw [hdet]
  exact hc (hcap ▸ hd)

/-- Captures run on REFERENCING channels alone. -/
def State.capturesAgree (s : State) : Prop := ∀ n ∈ upTo 16, (s.channel n).captureAgrees

theorem State.capturesAgree.of_inputs (hs : s.capturesAgree) (h : t.inputs = s.inputs) : t.capturesAgree := fun n hn =>
  Channel.captureAgrees_of_input (by rw [← State.inputs_channel, ← State.inputs_channel, h]) (hs n hn)

/-- With sixteen channel records, a number that names none reads as a channel without a capture. -/
theorem State.capturesAgree.channel (hs : s.capturesAgree) (h : s.shaped) (n : Index) : (s.channel n).captureAgrees := by
  by_cases hn : n ∈ upTo 16
  · exact hs n hn
  · have hd : s.channel n = .fresh false := item_beyond _ h.1 hn
    intro hc
    rw [hd] at hc
    exact absurd hc (by decide)

theorem State.capturesAgree.setChannel (hs : s.capturesAgree) {n : Index} {c : Channel} (hc : c.captureAgrees) :
    (s.setChannel n c).capturesAgree := by
  intro k hk
  rcases item_put_cases s.light.channels (.fresh false) c n k with h | ⟨-, h⟩
  · have hk' : (s.setChannel n c).channel k = s.channel k := h
    rw [hk']
    exact hs k hk
  · have hk' : (s.setChannel n c).channel k = c := h
    rw [hk']
    exact hc

end Sys2Proof.Machine
end

section
/-! The order unit and the record unit leave the zones as they are: every shared operation keeps `State.zones`, and with
its frame of Laws/Apart.lean all that the zones stand on. -/

namespace Sys2Proof.Machine

open Wire

variable (s : State)

/-- An operation that leaves the zones as they were. -/
def KeepsZones (f : State → State) : Prop := ∀ s, (f s).zones = s.zones

/-- Repeated operations that leave the zones alone leave them alone together. -/
theorem foldl_zones {α : Type} (f : State → α → State) (h : ∀ t x, (f t x).zones = t.zones) (l : List α) :
    (l.foldl f s).zones = s.zones :=
  List.foldlRecOn (motive := fun t => t.zones = s.zones) l f rfl fun t ht x _ => (h t x).trans ht

/-! ### Record unit -/

@[simp] theorem State.recordCreation_zones (b : Bool) (o : Order) (c : Cause) : (s.recordCreation b o c).zones = s.zones := by
  unfold State.recordCreation
  split
  · show s.makeRoom.zones = s.zones
    unfold State.makeRoom
    split <;> rfl
  · rfl

@[simp] theorem State.recordUpgrade_zones (p : Index) : (s.recordUpgrade p).zones = s.zones := rfl
@[simp] theorem State.recordConfirmation_zones (p : Index) : (s.recordConfirmation p).zones = s.zones := rfl
@[simp] theorem State.recordStage_zones (p : Index) (g : EntryStage) : (s.recordStage p g).zones = s.zones := rfl
@[simp] theorem State.recordRelease_zones (p : Index) : (s.recordRelease p).zones = s.zones := rfl
@[simp] theorem State.recordWithdrawal_zones (p : Index) : (s.recordWithdrawal p).zones = s.zones := rfl

@[simp] theorem State.closeRecord_zones : s.closeRecord.zones = s.zones := by
  unfold State.closeRecord
  split
  · rfl
  · dsimp only
    split
    · split <;> rfl
    · rfl

/-! ### Order unit -/

@[simp] theorem State.setLockout_zones (p : Index) : (s.setLockout p).zones = s.zones := by
  unfold State.setLockout
  split <;> rfl

@[simp] theorem State.clearLockouts_zones (ps : List Index) : (s.clearLockouts ps).zones = s.zones := by
  unfold State.clearLockouts
  split <;> rfl

/-- A departure leaves the zones alone if what it tells the record unit does. -/
theorem State.depart_zones (p : Index) {f : State → State} (h : KeepsZones f) : (s.depart p f).zones = s.zones := by
  have h' := h (({ s with orders := s.orders.filter fun o => o.position != p } : State).deenergise p)
  unfold State.depart
  dsimp only
  rw [State.noteContent_zones]
  split
  · exact (State.closeRecord_zones _).trans h'
  · exact h'

@[simp] theorem State.release_zones (p : Index) : (s.release p).zones = s.zones :=
  s.depart_zones p fun t => t.recordRelease_zones p

@[simp] theorem State.confirm_zones (o : Order) : (s.confirm o).zones = s.zones := by
  unfold State.confirm
  dsimp only
  split <;> simp

@[simp] theorem State.judgeOrder_zones (p : Index) : (s.judgeOrder p).zones = s.zones := by
  unfold State.judgeOrder
  split
  · rfl
  · dsimp only
    split
    · rfl
    · split
      · split <;> simp
      · split <;> simp

@[simp] theorem State.judgeAttached_zones (o : Option Index) : (s.judgeAttached o).zones = s.zones := by
  cases o <;> simp [State.judgeAttached]

@[simp] theorem State.createOrder_zones (p : Index) (c : Cause) (a : Attribute) : (s.createOrder p c a).zones = s.zones := by
  unfold State.createOrder
  dsimp only
  rw [State.judgeOrder_zones, State.recordCreation_zones]
  split
  · rw [State.setLockout_zones, State.energise_zones]
  · rfl

@[simp] theorem State.upgradeOrder_zones (p : Index) : (s.upgradeOrder p).zones = s.zones := by simp [State.upgradeOrder]

@[simp] theorem State.requestOrder_zones (p : Index) (c : Cause) (a : Attribute) :
    (s.requestOrder p c a).zones = s.zones := by
  unfold State.requestOrder
  split
  · simp
  · dsimp only
    split <;> simp

@[simp] theorem State.requestAll_zones (ps : List Index) (c : Cause) (a : Attribute) :
    (s.requestAll ps c a).zones = s.zones :=
  foldl_zones s _ (fun t p => t.requestOrder_zones p c a) ps

@[simp] theorem State.failOrder_zones (o : Order) : (s.failOrder o).zones = s.zones := by
  unfold State.failOrder State.escalate
  rw [State.noteContent_zones]
  dsimp only
  split
  · simp
  · split <;> simp

@[simp] theorem State.stallOrder_zones (o : Order) : (s.stallOrder o).zones = s.zones := rfl

@[simp] theorem State.withdrawDry_zones : s.withdrawDry.zones = s.zones :=
  foldl_zones s _ (fun t p => t.depart_zones p fun u => u.recordWithdrawal_zones p) _

@[simp] theorem State.requestEdge_zones (u p : Index) : (s.requestEdge u p).zones = s.zones := by
  unfold State.requestEdge
  split <;> simp

@[simp] theorem State.requestClearing_zones (z : Index) (a : Attribute) : (s.requestClearing z a).zones = s.zones := by
  unfold State.requestClearing
  dsimp only
  split <;> simp

@[simp] theorem State.growZone_zones (z : Index) (e : List Index) : (s.growZone z e).zones = s.zones := by
  unfold State.growZone
  split
  · split <;> simp
  · rfl

/-! ### What is seen stands -/

@[simp] theorem State.post_seen (k : NoticeKind) (a b : Nat) : (s.post k a b).seen = s.seen := rfl
@[simp] theorem State.mapPort_seen (f : Port → Port) : (s.mapPort f).seen = s.seen := rfl
@[simp] theorem State.countPort_seen (f : PortCounters → PortCounters) : (s.countPort f).seen = s.seen := rfl
@[simp] theorem State.mapPending_seen (f : Settings → Settings) : (s.mapPending f).seen = s.seen := rfl
@[simp] theorem State.mapWaiting_seen (f : Waiting → Waiting) : (s.mapWaiting f).seen = s.seen := rfl
@[simp] theorem State.judgeContacts_seen : s.judgeContacts.seen = s.seen := rfl

@[simp] theorem State.advanceTo_seen (t : Instant) : (s.advanceTo t).seen = s.seen := by
  rw [s.advanceTo_eq t]
  rfl

@[simp] theorem State.noteContent_seen (t : State) : (s.noteContent t).seen = t.seen := by
  rw [s.noteContent_eq t]
  rfl

@[simp] theorem settle_seen (t : State) : (settle s t).seen = t.seen := by simp [settle]

@[simp] theorem State.clearLockouts_seen (ps : List Index) : (s.clearLockouts ps).seen = s.seen :=
  State.seen_of_apart (by simp) (by simp)

/-- A departure leaves what is seen alone if what it tells the record unit does. -/
theorem State.depart_seen (p : Index) {f : State → State} (ha : KeepsApart f) (hz : KeepsZones f) :
    (s.depart p f).seen = s.seen :=
  State.seen_of_apart (s.depart_apart p f ha) (s.depart_zones p hz)

@[simp] theorem State.release_seen (p : Index) : (s.release p).seen = s.seen := State.seen_of_apart (by simp) (by simp)
@[simp] theorem State.confirm_seen (o : Order) : (s.confirm o).seen = s.seen := State.seen_of_apart (by simp) (by simp)
@[simp] theorem State.judgeOrder_seen (p : Index) : (s.judgeOrder p).seen = s.seen := State.seen_of_apart (by simp) (by simp)
@[simp] theorem State.judgeAttached_seen (o : Option Index) : (s.judgeAttached o).seen = s.seen :=
  State.seen_of_apart (by simp) (by simp)
@[simp] theorem State.requestOrder_seen (p : Index) (c : Cause) (a : Attribute) : (s.requestOrder p c a).seen = s.seen :=
  State.seen_of_apart (by simp) (by simp)
@[simp] theorem State.failOrder_seen (o : Order) : (s.failOrder o).seen = s.seen := State.seen_of_apart (by simp) (by simp)
@[simp] theorem State.stallOrder_seen (o : Order) : (s.stallOrder o).seen = s.seen := State.seen_of_apart (by simp) (by simp)
@[simp] theorem State.withdrawDry_seen : s.withdrawDry.seen = s.seen := State.seen_of_apart (by simp) (by simp)
@[simp] theorem State.requestEdge_seen (u p : Index) : (s.requestEdge u p).seen = s.seen :=
  State.seen_of_apart (by simp) (by simp)

/-- Both branches leave alone what is seen. -/
theorem State.seen_ite {s t u : State} {p : Prop} [Decidable p] (ht : t.seen = s.seen) (hu : u.seen = s.seen) :
    (if p then t else u).seen = s.seen := by
  split
  · exact ht
  · exact hu

/-- Repeated operations that leave what is seen alone leave it alone together. -/
theorem foldl_seen {α : Type} (f : State → α → State) (h : ∀ t x, (f t x).seen = t.seen) (l : List α) :
    (l.foldl f s).seen = s.seen :=
  List.foldlRecOn (motive := fun t => t.seen = s.seen) l f rfl fun t ht x _ => (h t x).trans ht

/-- A channel record with the same input as the one it replaces. -/
theorem State.setChannel_seen (n : Index) {c : Channel} (h : c.input = (s.channel n).input) :
    (s.setChannel n c).seen = s.seen := by
  have hl : (put s.light.channels n c).map Channel.input = s.light.channels.map Channel.input := put_map_same _ h
  simp only [State.seen, State.inputs, State.setChannel, hl]

/-- A point record with the same input as the one it replaces. -/
theorem State.setPoint_seen (m : Index) {c : Point} (h : c.input = (s.point m).input) : (s.setPoint m c).seen = s.seen := by
  have hl : (put s.current.points m c).map Point.input = s.current.points.map Point.input := put_map_same _ h
  simp only [State.seen, State.inputs, State.setPoint, hl]

/-- No zone stands on a position but through its sets. -/
@[simp] theorem State.setPosition_seen (p : Index) (c : Position) : (s.setPosition p c).seen = s.seen := by
  have hl : ((put s.positions p c).map fun _ => Position.blank) = s.positions.map fun _ => .blank := put_map_same .blank rfl
  simp only [State.seen, State.inputs, State.setPosition, hl]

/-- A link controller changed in anything but its peers. -/
theorem State.mapLink_seen {f : Link → Link} (h : ∀ l, (f l).peers = l.peers) : (s.mapLink f).seen = s.seen := by
  simp only [State.seen, State.inputs, State.mapLink, h]

/-- Active settings changed outside the topology and link groups. -/
theorem State.mapActive_seen {f : Settings → Settings} (ht : (f s.settings.active).topology = s.settings.active.topology)
    (hl : (f s.settings.active).link = s.settings.active.link) : (s.mapActive f).seen = s.seen := by
  simp only [State.seen, State.inputs, State.mapActive, ht, hl]

end Sys2Proof.Machine
end

section
/-! An evaluation brings its zone to its target and leaves every other zone judged (R86 to R91); what has to be evaluated
so that every used zone agrees again (R90, R97). -/

namespace Sys2Proof.Machine

open Wire

variable {s t u : State} {z : Index}

/-! ### What one zone stands on -/

/-- A zone's record with the readings, availability and condition of an evaluation now; `State.readings` of its own. -/
def State.reread (s : State) (z : Index) (q : Zone) : Zone :=
  { q with
    realLight := s.realLight z
    dryLight := s.dryLight z
    realCurrent := s.realCurrent z
    dryCurrent := s.dryCurrent z
    unavailable := s.unavailable z
    condition := conditionOf (s.zoneSet z).mode (s.zoneSet z).fallback (s.unavailable z) (s.realLight z) (s.dryLight z)
      (s.realCurrent z) (s.dryCurrent z) }

/-- A record that a zone could hold in agreement with its inputs. -/
def State.fits (s : State) (z : Index) (q : Zone) : Prop := s.reread z q = q ∧ q.stands (s.target z q) = true

theorem State.judged_iff_fits : s.judged z ↔ s.fits z (s.zone z) := Iff.rfl

/-- The inputs of a zone are the same in both states (R86, R87, R97, R136): its settings, the protection state, its
confirmation set, and every value it reads. -/
structure SameInputs (s t : State) (z : Index) : Prop where
  state : t.control.state = s.control.state
  set : t.zoneSet z = s.zoneSet z
  confirmation : (t.zone z).confirmation = (s.zone z).confirmation
  light : ∀ n ∈ (s.zoneSet z).members, t.lightFlag n = s.lightFlag n ∧ t.simulatedLight n = s.simulatedLight n
  current : ∀ m ∈ (s.zone z).confirmation, (t.point m).oc = (s.point m).oc ∧ (t.point m).simulated = (s.point m).simulated
  link : s.linkInputsDiffer t z = false

/-- Two conditions that agree on a list hold of some member alike. -/
theorem any_congr_mem {α : Type} {l : List α} {p q : α → Bool} (h : ∀ x ∈ l, p x = q x) : l.any p = l.any q := by
  rw [Bool.eq_iff_iff, List.any_eq_true, List.any_eq_true]
  exact ⟨fun ⟨x, hx, hp⟩ => ⟨x, hx, h x hx ▸ hp⟩, fun ⟨x, hx, hq⟩ => ⟨x, hx, (h x hx).symm ▸ hq⟩⟩

/-- No difference of link inputs: every imported value reads alike (R136). -/
theorem State.linkInputsDiffer_false : s.linkInputsDiffer t z = false ↔
    (∀ i ∈ (t.zoneSet z).importZones, s.presentedZone i = t.presentedZone i) ∧
      ∀ i ∈ (t.zoneSet z).importCurrents,
        s.presentedCurrent i = t.presentedCurrent i ∧ s.ownerUsable i = t.ownerUsable i := by
  simp [State.linkInputsDiffer]

namespace SameInputs

variable (h : SameInputs s t z)
include h

theorem realLight : t.realLight z = s.realLight z := by
  obtain ⟨hz, -⟩ := State.linkInputsDiffer_false.mp h.link
  rw [h.set] at hz
  unfold State.realLight
  rw [h.set, any_congr_mem fun n hn => (h.light n hn).1, any_congr_mem hz]

theorem dryLight : t.dryLight z = s.dryLight z := by
  unfold State.dryLight State.inTest
  rw [h.realLight, h.state, h.set, any_congr_mem fun n hn => (h.light n hn).2]

theorem realCurrent : t.realCurrent z = s.realCurrent z := by
  obtain ⟨-, hc⟩ := State.linkInputsDiffer_false.mp h.link
  rw [h.set] at hc
  unfold State.realCurrent
  rw [h.set, h.confirmation, any_congr_mem fun m hm => (h.current m hm).1, any_congr_mem fun i hi => (hc i hi).1]

theorem dryCurrent : t.dryCurrent z = s.dryCurrent z := by
  unfold State.dryCurrent State.inTest
  rw [h.realCurrent, h.state, h.confirmation, any_congr_mem fun m hm => (h.current m hm).2]

theorem unavailable : t.unavailable z = s.unavailable z := by
  obtain ⟨-, hc⟩ := State.linkInputsDiffer_false.mp h.link
  rw [h.set] at hc
  unfold State.unavailable
  rw [h.set, h.confirmation, any_congr_mem fun i hi => (hc i hi).2]

/-- With the same inputs the same records fit. -/
theorem fits (q : Zone) : t.fits z q ↔ s.fits z q := by
  unfold State.fits State.reread State.target
  rw [h.realLight, h.dryLight, h.realCurrent, h.dryCurrent, h.unavailable, h.set, h.state]

/-- With the same inputs and the same record a zone stays judged. -/
theorem judged (hz : t.zone z = s.zone z) (hs : s.judged z) : t.judged z := by
  rw [State.judged_iff_fits, hz]
  exact (h.fits _).mpr hs

end SameInputs

/-- The same values presented by the same peers to the same owners. -/
theorem State.linkInputsDiffer_same (hp : t.link.peers = s.link.peers)
    (ho : t.settings.active.link.owners = s.settings.active.link.owners) (z : Index) : s.linkInputsDiffer t z = false :=
  State.linkInputsDiffer_false.mpr ⟨fun i _ => by simp only [State.presentedZone, hp], fun i _ => by
    simp only [State.presentedCurrent, State.ownerUsable, hp, ho, and_self]⟩

/-- The same inputs for all zones. -/
theorem SameInputs.of_inputs (h : t.inputs = s.inputs) (hc : (t.zone z).confirmation = (s.zone z).confirmation) :
    SameInputs s t z where
  state := State.state_of_inputs h
  set := by unfold State.zoneSet; rw [State.topology_of_inputs h]
  confirmation := hc
  light n _ := ⟨State.lightFlag_of_inputs h n, State.simulatedLight_of_inputs h n⟩
  current m _ := ⟨State.oc_of_inputs h m, State.simulated_of_inputs h m⟩
  link := State.linkInputsDiffer_same (State.peers_of_inputs h) (by rw [State.linkSettings_of_inputs h]) z

/-! ### What an evaluation does -/

/-- No zone of this number is evaluated: zones are not, or it is unused (R97). -/
theorem State.evaluate_idle (e : List Index) (h : ¬ (s.control.state.evaluates = true ∧ s.usedZone z = true)) :
    s.evaluate z e = s := by
  have h' : (!s.control.state.evaluates || !s.usedZone z) = true := by
    simpa [Decidable.imp_iff_not_or] using h
  simp only [State.evaluate, h', if_true]

theorem State.enterAlert_zones (q : Zone) (r : AlertReason) : (s.enterAlert z q r).zones =
    put s.zones z { q.leaveTripped with state := .alert, alertReason := some r, alertMark := true, since := s.partTime } := by
  unfold State.enterAlert
  dsimp only
  split <;> rfl

theorem State.enterTripped_zones (q : Zone) (a : Attribute) : (s.enterTripped z q a).zones =
    put s.zones z { q with
      state := .tripped, attr := some a, alertReason := none, trips := bump q.trips, remoteHeld := a == .live
      since := s.partTime } := by
  simp [State.enterTripped, State.setZone]

theorem State.upgradeZone_zones (q : Zone) : (s.upgradeZone z q).zones =
    put s.zones z { q with attr := some .live, remoteHeld := true, since := s.partTime } := by
  simp [State.upgradeZone, State.setZone]

/-- The record an evaluation leaves: the sets stand, and it is in agreement with the inputs (R90, R91). -/
theorem State.evaluate_zones (e : List Index) (he : s.control.state.evaluates = true) (hu : s.usedZone z = true) :
    ∃ q, (s.evaluate z e).zones = put s.zones z q ∧ q.confirmation = (s.zone z).confirmation ∧ s.fits z q := by
  unfold State.evaluate
  simp only [he, hu, Bool.not_true, Bool.or_false, Bool.false_eq_true, if_false]
  -- A record that differs from the readings in neither reading nor condition has their target.
  have fit (q : Zone) (hr : s.reread z q = q) (ht : s.target z q = s.target z (s.readings z))
      (hq : q.stands (s.target z (s.readings z)) = true) : s.fits z q := ⟨hr, ht ▸ hq⟩
  split
  case h_1 ht hs => exact ⟨_, rfl, rfl, fit _ rfl rfl (by simp [Zone.stands, ht, hs])⟩
  case h_2 ht hs => exact ⟨_, rfl, rfl, fit _ rfl rfl (by simp [Zone.stands, ht])⟩
  case h_3 ht hs => exact ⟨_, rfl, rfl, fit _ rfl rfl (by simp [Zone.stands, ht])⟩
  case h_4 ht hs => exact ⟨_, rfl, rfl, fit _ rfl rfl (by simp [Zone.stands, ht, hs])⟩
  case h_5 ht hs => exact ⟨_, State.enterAlert_zones _ _, rfl, fit _ rfl rfl (by simp [Zone.stands, ht])⟩
  case h_6 ht hs => exact ⟨_, State.enterAlert_zones _ _, rfl, fit _ rfl rfl (by simp [Zone.stands, ht])⟩
  case h_7 ht hs => exact ⟨_, State.enterTripped_zones _ _, rfl, fit _ rfl rfl (by simp [Zone.stands, ht])⟩
  case h_8 ht hs => exact ⟨_, State.enterTripped_zones _ _, rfl, fit _ rfl rfl (by simp [Zone.stands, ht])⟩
  case h_9 a ht hs =>
    rw [State.growZone_zones]
    split
    · next ha => exact ⟨_, rfl, rfl, fit _ rfl rfl (by simp [Zone.stands, ht, hs, eq_of_beq ha])⟩
    · split
      · exact ⟨_, State.upgradeZone_zones _, rfl, fit _ rfl rfl (by simp [Zone.stands, ht, hs])⟩
      · exact ⟨_, rfl, rfl, fit _ rfl rfl (by simp [Zone.stands, ht, hs])⟩

/-- From `s` to `t` nothing that zones stand on has changed: the inputs, the confirmation sets, the number of zones. -/
structure OnlyZoneStates (s t : State) : Prop where
  inputs : t.inputs = s.inputs
  zones : t.zones.length = s.zones.length
  confirmation : ∀ z, (t.zone z).confirmation = (s.zone z).confirmation

namespace OnlyZoneStates

theorem refl (s : State) : OnlyZoneStates s s := ⟨rfl, rfl, fun _ => rfl⟩

theorem trans (h : OnlyZoneStates s t) (h' : OnlyZoneStates t u) : OnlyZoneStates s u :=
  ⟨h'.inputs.trans h.inputs, h'.zones.trans h.zones, fun z => (h'.confirmation z).trans (h.confirmation z)⟩

theorem of_seen (h : t.seen = s.seen) : OnlyZoneStates s t :=
  ⟨State.inputs_of_seen h, by rw [State.zones_of_seen h], fun z => by unfold State.zone; rw [State.zones_of_seen h]⟩

theorem foldl {α : Type} {f : State → α → State} (h : ∀ t x, OnlyZoneStates t (f t x)) (l : List α) (s : State) :
    OnlyZoneStates s (l.foldl f s) :=
  List.foldlRecOn (motive := OnlyZoneStates s) l f (refl s) fun t ht x _ => ht.trans (h t x)

theorem sameInputs (h : OnlyZoneStates s t) (z : Index) : SameInputs s t z := .of_inputs h.inputs (h.confirmation z)

theorem usedZone (h : OnlyZoneStates s t) (z : Index) : t.usedZone z = s.usedZone z := by
  unfold State.usedZone
  rw [State.topology_of_inputs h.inputs]

theorem shaped (h : OnlyZoneStates s t) (hs : s.shaped) : t.shaped := hs.of_inputs h.inputs h.zones

end OnlyZoneStates

/-- An evaluation changes no zone but its own. -/
theorem State.evaluate_other (e : List Index) {y : Index} (h : y ≠ z) : (s.evaluate z e).zone y = s.zone y := by
  by_cases hi : s.control.state.evaluates = true ∧ s.usedZone z = true
  · obtain ⟨q, hq, -⟩ := s.evaluate_zones e hi.1 hi.2
    unfold State.zone
    rw [hq]
    exact item_put_other _ _ _ h
  · rw [s.evaluate_idle e hi]

/-- An evaluation changes its zone's state and the decision path alone. -/
theorem State.evaluate_onlyZoneStates (s : State) (z : Index) (e : List Index) : OnlyZoneStates s (s.evaluate z e) := by
  by_cases hi : s.control.state.evaluates = true ∧ s.usedZone z = true
  · obtain ⟨q, hq, hc, -⟩ := s.evaluate_zones e hi.1 hi.2
    refine ⟨State.inputs_of_apart (s.evaluate_apart z e), by simp [hq], fun y => ?_⟩
    unfold State.zone
    rw [hq]
    rcases item_put_cases s.zones (.fresh [] []) q z y with h | ⟨rfl, h⟩
    · rw [h]
    · rw [h]
      exact hc
  · rw [s.evaluate_idle e hi]
    exact .refl s

/-- After its evaluation a used zone agrees with its inputs (R90). -/
theorem State.evaluate_judged (hs : s.shaped) (e : List Index) (he : s.control.state.evaluates = true)
    (hz : z ∈ upTo 8) (hu : s.usedZone z = true) : (s.evaluate z e).judged z := by
  obtain ⟨q, hq, -, hf⟩ := s.evaluate_zones e he hu
  obtain ⟨h1, h8⟩ := mem_upTo.mp hz
  have hzone : (s.evaluate z e).zone z = q := by
    unfold State.zone
    rw [hq]
    exact item_put_same _ _ _ h1 (by rw [hs.2.2.2.1]; exact h8)
  rw [State.judged_iff_fits, hzone]
  exact (((s.evaluate_onlyZoneStates z e).sameInputs z).fits q).mpr hf

/-! ### Zones that wait for an evaluation -/

/-- The rule that every used zone is judged, but for the zones that `waits` names. -/
def State.judgedBut (s : State) (waits : Index → Prop) : Prop :=
  s.shaped ∧
    (s.powered = true → s.control.state.evaluates = true → ∀ z ∈ upTo 8, s.usedZone z = true → waits z ∨ s.judged z) ∧
    s.capturesAgree

variable {waits waits' : Index → Prop}

/-- With no zone waiting the rule is the whole one. -/
theorem State.judgedBut.zonesJudged (h : s.judgedBut waits) (hw : ∀ z ∈ upTo 8, ¬ waits z) : s.zonesJudged := by
  obtain ⟨hs, hj, hc⟩ := h
  exact ⟨hs, fun hp he z hz hu => (hj hp he z hz hu).resolve_left (hw z hz), hc⟩

/-- More zones may wait. -/
theorem State.judgedBut.mono (h : s.judgedBut waits) (hw : ∀ z ∈ upTo 8, waits z → waits' z) : s.judgedBut waits' := by
  obtain ⟨hs, hj, hc⟩ := h
  exact ⟨hs, fun hp he z hz hu => (hj hp he z hz hu).imp_left (hw z hz), hc⟩

/-- The rule goes over to a state in which only zone states have changed, the changed zones but those that wait being
judged. -/
theorem State.judgedBut.onlyZoneStates (h : s.judgedBut waits) (ho : OnlyZoneStates s t)
    (hj : s.control.state.evaluates = true → ∀ z ∈ upTo 8, s.usedZone z = true →
      waits z ∨ s.judged z → waits' z ∨ t.judged z) : t.judgedBut waits' := by
  obtain ⟨hs, hold, hc⟩ := h
  refine ⟨ho.shaped hs, fun hp he z hz hu => ?_, hc.of_inputs ho.inputs⟩
  rw [State.powered_of_inputs ho.inputs] at hp
  rw [State.state_of_inputs ho.inputs] at he
  rw [ho.usedZone] at hu
  exact hj he z hz hu (hold hp he z hz hu)

/-- What does not touch what is seen keeps the rule. -/
theorem State.judgedBut.of_seen (h : s.judgedBut waits) (hs : t.seen = s.seen) : t.judgedBut waits :=
  h.onlyZoneStates (.of_seen hs) fun _ z _ _ => Or.imp_right
    (((OnlyZoneStates.of_seen hs).sameInputs z).judged (by unfold State.zone; rw [State.zones_of_seen hs]))

/-- An evaluated zone waits no more, and no other is disturbed. -/
theorem State.judgedBut.evaluateNoted (h : s.judgedBut waits) (z : Index) (e : List Index) :
    (s.evaluateNoted z e).judgedBut fun y => waits y ∧ y ≠ z := by
  refine State.judgedBut.of_seen (s := s.evaluate z e) ?_ (s.noteContent_seen _)
  have ho := s.evaluate_onlyZoneStates z e
  refine h.onlyZoneStates ho fun he y hy hu hold => ?_
  rcases eq_or_ne y z with rfl | hne
  · exact .inr (State.evaluate_judged h.1 e he hy hu)
  · exact hold.imp (fun hw => ⟨hw, hne⟩) ((ho.sameInputs y).judged (State.evaluate_other e hne))

/-- Of several zones evaluated one after the other none waits any more. -/
theorem State.judgedBut.foldl_evaluateNoted (h : s.judgedBut waits) (zs : List Index) (e : Index → List Index) :
    (zs.foldl (fun t z => t.evaluateNoted z (e z)) s).judgedBut fun y => waits y ∧ y ∉ zs := by
  induction zs generalizing s waits with
  | nil => exact h.mono fun y _ hw => ⟨hw, List.not_mem_nil⟩
  | cons z zs ih =>
    refine (ih (h.evaluateNoted z (e z))).mono fun y _ hw => ?_
    obtain ⟨⟨hw, hne⟩, hmem⟩ := hw
    exact ⟨hw, by simp [hne, hmem]⟩

/-- Evaluations noted change zone states and the decision path alone. -/
theorem State.evaluateNoted_onlyZoneStates (s : State) (z : Index) (e : List Index) :
    OnlyZoneStates s (s.evaluateNoted z e) :=
  (s.evaluate_onlyZoneStates z e).trans (.of_seen (s.noteContent_seen _))

theorem State.evaluateWhere_onlyZoneStates (s : State) (which : Index → Bool) : OnlyZoneStates s (s.evaluateWhere which) :=
  .foldl (fun t z => t.evaluateNoted_onlyZoneStates z []) _ s

theorem State.handOver_onlyZoneStates (s t : State) : OnlyZoneStates t (s.handOver t) :=
  .foldl (fun u z => u.evaluateNoted_onlyZoneStates z _) _ t

/-- Keeping first places alone keeps every member. -/
theorem mem_firsts {l : List Index} {n : Index} (h : n ∈ l) : n ∈ firsts l := by
  induction l with
  | nil => exact h
  | cons x l ih =>
    rcases eq_or_ne n x with rfl | hne
    · exact List.mem_cons_self
    · exact List.mem_cons_of_mem _ (List.mem_filter.mpr
        ⟨ih ((List.mem_cons.mp h).resolve_left hne), by simpa using hne⟩)

/-- An order of taking leaves none of its numbers out. -/
theorem mem_inOrder (pref : List Index) {n k : Nat} (h : n ∈ upTo k) : n ∈ inOrder pref k := by
  unfold inOrder
  rw [List.mem_append, List.mem_filter, List.mem_filter]
  by_cases hp : n ∈ pref
  · exact .inl ⟨mem_firsts hp, by simpa using mem_upTo.mp h⟩
  · exact .inr ⟨h, by simpa using hp⟩

/-- The zones of a condition evaluated wait no more (R90). -/
theorem State.judgedBut.evaluateWhere (h : s.judgedBut waits) (which : Index → Bool) :
    (s.evaluateWhere which).judgedBut fun y => waits y ∧ which y = false := by
  refine (h.foldl_evaluateNoted ((inOrder s.sched.zones 8).filter which) fun _ => []).mono fun y hy hw => ?_
  refine ⟨hw.1, ?_⟩
  have hn := hw.2
  rw [List.mem_filter] at hn
  simpa [mem_inOrder s.sched.zones hy] using hn

/-- The zones whose sets changed evaluated wait no more (R71). -/
theorem State.judgedBut.handOver (h : t.judgedBut fun z => s.setsDiffer t z = true) : (s.handOver t).zonesJudged := by
  refine (h.foldl_evaluateNoted ((inOrder t.sched.zones 8).filter fun z => s.setsDiffer t z)
    fun z => s.enteredSince t z).zonesJudged fun y hy hw => ?_
  exact hw.2 (List.mem_filter.mpr ⟨mem_inOrder _ hy, hw.1⟩)

/-- With every used zone evaluated none waits (R97). -/
theorem State.evaluateAll_zonesJudged (hs : s.shaped) (hc : s.capturesAgree) : s.evaluateAll.zonesJudged := by
  have h : s.judgedBut fun _ => True := ⟨hs, fun _ _ _ _ _ => .inl trivial, hc⟩
  exact (h.evaluateWhere fun _ => true).zonesJudged fun _ _ hw => Bool.noConfusion hw.2

/-- A change of inputs: a zone whose record and inputs stand as they were does not wait. -/
theorem State.zonesJudged.changed (h : s.zonesJudged) (hs : t.shaped) (hp : t.powered = s.powered)
    (hst : t.control.state = s.control.state) (ht : t.settings.active.topology = s.settings.active.topology)
    (hc : t.capturesAgree) (hw : ∀ z ∈ upTo 8, ¬ waits z → t.zone z = s.zone z ∧ SameInputs s t z) :
    t.judgedBut waits := by
  obtain ⟨-, hj, -⟩ := h
  refine ⟨hs, fun hp' he z hz hu => ?_, hc⟩
  by_cases hwz : waits z
  · exact .inl hwz
  · obtain ⟨hzone, hsame⟩ := hw z hz hwz
    have hu' : s.usedZone z = true := by unfold State.usedZone at hu ⊢; rwa [← ht]
    exact .inr (hsame.judged hzone (hj (hp ▸ hp') (hst ▸ he) z hz hu'))

end Sys2Proof.Machine
end

section
/-! Each shared operation that changes an input of the zones brings the change to the zones it bears on: channels (R12),
points (R48), sets (R71), link values (R136), protection state (R97). -/

namespace Sys2Proof.Machine

open Wire

variable {s t u : State}

/-- What is proved of every operation: the lists keep their shape, and with it every used zone stays judged. -/
def Keeps (s t : State) : Prop := (s.shaped → t.shaped) ∧ (s.zonesJudged → t.zonesJudged)

namespace Keeps

theorem refl (s : State) : Keeps s s := ⟨id, id⟩

theorem trans (h : Keeps s t) (h' : Keeps t u) : Keeps s u := ⟨h'.1 ∘ h.1, h'.2 ∘ h.2⟩

/-- What leaves alone all that is seen, the lists having their shape. -/
theorem of_shaped_seen (h : s.shaped → t.seen = s.seen) : Keeps s t := by
  refine ⟨fun hs => (OnlyZoneStates.of_seen (h hs)).shaped hs, fun hj => ?_⟩
  have hw : s.judgedBut fun _ => False := ⟨hj.1, fun hp he z hz hu => .inr (hj.2.1 hp he z hz hu), hj.2.2⟩
  exact (hw.of_seen (h hj.1)).zonesJudged fun _ _ => id

theorem of_seen (h : t.seen = s.seen) : Keeps s t := of_shaped_seen fun _ => h

/-- Only `t.seen` matters. -/
theorem congr_seen (h : Keeps s t) (hs : u.seen = t.seen) : Keeps s u := h.trans (of_seen hs)

theorem foldl {α : Type} {f : State → α → State} (h : ∀ t x, Keeps t (f t x)) (l : List α) (s : State) :
    Keeps s (l.foldl f s) := List.foldlRecOn (motive := Keeps s) l f (refl s) fun t ht x _ => ht.trans (h t x)

/-- A changed input, and the evaluations that follow. -/
theorem of_evaluated (hs : s.shaped → t.shaped) (ho : OnlyZoneStates t u) (hj : s.zonesJudged → u.zonesJudged) :
    Keeps s u := ⟨fun h => ho.shaped (hs h), hj⟩

end Keeps

/-! ### Channels (R12) -/

/-- Another channel reads as before. -/
theorem State.channel_setChannel_other {n k : Index} (c : Channel) (h : k ≠ n) : (s.setChannel n c).channel k = s.channel k :=
  item_put_other _ _ _ h

/-- A channel replaced: the zones of which it is no member have the inputs they had. -/
theorem SameInputs.setChannel {n z : Index} (c : Channel)
    (h : ∀ k ∈ (s.zoneSet z).members, (s.setChannel n c).lightFlag k = s.lightFlag k ∧
      (s.setChannel n c).simulatedLight k = s.simulatedLight k) : SameInputs s (s.setChannel n c) z where
  state := rfl
  set := rfl
  confirmation := rfl
  light := h
  current _ _ := ⟨rfl, rfl⟩
  link := State.linkInputsDiffer_same rfl rfl z

/-- The zones that wait when a channel has been replaced: its own, if its contribution to light has changed (R12). -/
theorem State.zonesJudged.setChannel (h : s.zonesJudged) {n : Index} {c : Channel} (hc : c.captureAgrees) :
    (s.setChannel n c).judgedBut fun z => (s.zoneSet z).members.contains n = true ∧
      ¬ ((s.setChannel n c).lightFlag n = s.lightFlag n ∧ (s.setChannel n c).simulatedLight n = s.simulatedLight n) := by
  refine h.changed (h.1.setChannel n c) rfl rfl rfl (State.capturesAgree.setChannel h.2.2 hc) fun z _ hw => ?_
  refine ⟨rfl, .setChannel c fun k hk => ?_⟩
  rcases eq_or_ne k n with rfl | hne
  · by_contra hflags
    exact hw ⟨List.contains_iff_mem.mpr hk, hflags⟩
  · simp only [State.lightFlag, State.simulatedLight, State.channel_setChannel_other c hne, and_self]

/-- A channel replaced by one with the same contribution to light. -/
theorem Keeps.setChannel {n : Index} {c : Channel}
    (h : (s.channel n).captureAgrees → c.captureAgrees ∧
      (s.setChannel n c).lightFlag n = s.lightFlag n ∧ (s.setChannel n c).simulatedLight n = s.simulatedLight n) :
    Keeps s (s.setChannel n c) := by
  refine ⟨fun hs => hs.setChannel n c, fun hj => ?_⟩
  obtain ⟨hc, hflags⟩ := h (State.capturesAgree.channel hj.2.2 hj.1 n)
  exact (hj.setChannel hc).zonesJudged fun _ _ hw => hw.2 hflags

/-- A channel replaced, and its zones evaluated if its contribution to light changed (R12, R21). -/
theorem Keeps.handChannel {n : Index} {c : Channel} (ht : t.seen = (s.setChannel n c).seen)
    (hc : (s.channel n).captureAgrees → c.captureAgrees) : Keeps s (s.handChannel t n) := by
  have hi := State.inputs_of_seen ht
  have hl := State.lightFlag_of_inputs hi n
  have hsl := State.simulatedLight_of_inputs hi n
  have hshape (hs : s.shaped) : t.shaped := (OnlyZoneStates.of_seen ht).shaped (hs.setChannel n c)
  have hwait (hj : s.zonesJudged) := (hj.setChannel (n := n)
    (hc (State.capturesAgree.channel hj.2.2 hj.1 n))).of_seen ht
  unfold State.handChannel
  split
  · have hnote := s.noteContent_seen t
    refine .of_evaluated hshape ((OnlyZoneStates.of_seen hnote).trans (State.evaluateWhere_onlyZoneStates _ _)) fun hj => ?_
    refine (((hwait hj).of_seen hnote).evaluateWhere _).zonesJudged fun z _ hw => ?_
    have hset : (s.noteContent t).zoneSet z = s.zoneSet z := by
      simp only [State.zoneSet, State.noteContent_settings, State.topology_of_inputs hi, State.setChannel_settings]
    rw [hset] at hw
    exact Bool.noConfusion (hw.1.1.symm.trans hw.2)
  · next hsame =>
    rw [hl, hsl, Bool.or_eq_true, not_or, bne_iff_ne, bne_iff_ne, not_ne_iff, not_ne_iff] at hsame
    exact ⟨hshape, fun hj => (hwait hj).zonesJudged fun z _ hw => hw.2 ⟨hsame.1.symm, hsame.2.symm⟩⟩

/-! ### Points (R48) -/

/-- The current front end replaced: a zone has the inputs it had where the OC and the simulation of its points are the
same. -/
theorem SameInputs.current_replaced {z : Index} (f : CurrentFront)
    (h : ∀ m ∈ (s.zone z).confirmation, (item f.points .fresh m).oc = (s.point m).oc ∧
      (item f.points .fresh m).simulated = (s.point m).simulated) : SameInputs s { s with current := f } z where
  state := rfl
  set := rfl
  confirmation := rfl
  light _ _ := ⟨rfl, rfl⟩
  current := h
  link := State.linkInputsDiffer_same rfl rfl z

/-- The zones that wait when the current front end has been replaced: those with a point in their confirmation set whose
OC or simulation has changed. -/
theorem State.zonesJudged.current_replaced (h : s.zonesJudged) {f : CurrentFront} (hf : f.points.length = 4) :
    ({ s with current := f } : State).judgedBut fun z => ∃ m ∈ (s.zone z).confirmation,
      ¬ ((item f.points .fresh m).oc = (s.point m).oc ∧ (item f.points .fresh m).simulated = (s.point m).simulated) := by
  refine h.changed (h.1.same rfl (hf.trans h.1.2.1.symm) rfl rfl rfl) rfl rfl rfl h.2.2 fun z _ hw => ⟨rfl, ?_⟩
  exact .current_replaced f fun m hm => by_contra fun hne => hw ⟨m, hm, hne⟩

/-- A point handed over: what is seen stands, but for the evaluation of its zones if its OC has changed (R48). -/
theorem State.handPoint_cases (s t : State) (m : Index) : ∃ u : State, u.seen = t.seen ∧
    s.handPoint t m = if (s.point m).oc != (t.point m).oc then u.evaluatePoint m else u := by
  refine ⟨_, ?_, rfl⟩
  split
  · exact State.judgeAttached_seen _ _
  · rfl

/-- A hand-over changes zone states and the decision path alone. -/
theorem State.handPoint_onlyZoneStates (s t : State) (m : Index) : OnlyZoneStates t (s.handPoint t m) := by
  obtain ⟨u, hu, he⟩ := s.handPoint_cases t m
  rw [he]
  split
  · exact (OnlyZoneStates.of_seen hu).trans (State.evaluateWhere_onlyZoneStates _ _)
  · exact .of_seen hu

/-- After it the zones of the point wait no more if its OC has changed (R48). -/
theorem State.judgedBut.handPoint {waits : Index → Prop} (h : t.judgedBut waits) (s : State) (m : Index) :
    (s.handPoint t m).judgedBut fun z =>
      waits z ∧ ((s.point m).oc ≠ (t.point m).oc → (t.zone z).confirmation.contains m = false) := by
  obtain ⟨u, hu, he⟩ := s.handPoint_cases t m
  rw [he]
  split
  · refine ((h.of_seen hu).evaluateWhere _).mono fun z _ hw => ⟨hw.1, fun _ => ?_⟩
    rw [← (OnlyZoneStates.of_seen hu).confirmation z]
    exact hw.2
  · next hoc => exact (h.of_seen hu).mono fun z _ hw => ⟨hw, fun hne => absurd hne (by simpa using hoc)⟩

/-- Several points handed over one after the other, all of them as they stand in `t` (R48). -/
theorem State.judgedBut.foldl_handPoint {waits : Index → Prop} (h : u.judgedBut waits) (s : State)
    (ho : OnlyZoneStates t u) (l : List Index) :
    (l.foldl s.handPoint u).judgedBut fun z => waits z ∧
      ∀ m ∈ l, (s.point m).oc ≠ (t.point m).oc → (t.zone z).confirmation.contains m = false := by
  induction l generalizing u waits with
  | nil => exact h.mono fun z _ hw => ⟨hw, fun m hm => absurd hm List.not_mem_nil⟩
  | cons m l ih =>
    refine (ih (h.handPoint s m) (ho.trans (s.handPoint_onlyZoneStates u m))).mono fun z _ hw => ?_
    obtain ⟨⟨hw, hm⟩, hl⟩ := hw
    rw [State.oc_of_inputs ho.inputs, ho.confirmation z] at hm
    exact ⟨hw, List.forall_mem_cons.mpr ⟨hm, hl⟩⟩

/-- The current front end replaced in all but the points' simulation, and the points handed over: each whose OC has
changed is among those taken. -/
theorem Keeps.handPoints {f : CurrentFront} {l : List Index} (hf : s.shaped → f.points.length = 4)
    (hsim : s.shaped → ∀ m, (item f.points .fresh m).simulated = (s.point m).simulated)
    (hoc : s.shaped → ∀ m, (item f.points .fresh m).oc ≠ (s.point m).oc → m ∈ l) :
    Keeps s (l.foldl s.handPoint { s with current := f }) := by
  refine .of_evaluated (t := { s with current := f }) (fun hs => hs.same rfl ((hf hs).trans hs.2.1.symm) rfl rfl rfl)
    (.foldl (fun u m => s.handPoint_onlyZoneStates u m) l _) fun hj => ?_
  refine ((hj.current_replaced (hf hj.1)).foldl_handPoint s (.refl _) l).zonesJudged fun z _ hw => ?_
  obtain ⟨⟨m, hm, hne⟩, hall⟩ := hw
  have hchanged : (item f.points .fresh m).oc ≠ (s.point m).oc := fun he => hne ⟨he, hsim hj.1 m⟩
  have hout : (s.zone z).confirmation.contains m = false := hall m (hoc hj.1 m hchanged) hchanged.symm
  rw [List.contains_eq_mem, decide_eq_false_iff_not] at hout
  exact hout hm

/-- One point replaced in all but its simulation, and handed over. -/
theorem Keeps.handPoint {m : Index} {p : Point} (h : p.simulated = (s.point m).simulated) :
    Keeps s (s.handPoint (s.setPoint m p) m) := by
  have hcases := item_put_cases s.current.points .fresh p m
  refine Keeps.handPoints (l := [m]) (fun hs => by simp [hs.2.1]) (fun _ k => ?_) fun _ k hk => ?_
  · rcases hcases k with hk | ⟨rfl, hk⟩
    · exact congrArg (fun q : Point => q.simulated) hk
    · exact (congrArg (fun q : Point => q.simulated) hk).trans h
  · rcases hcases k with hk' | ⟨rfl, -⟩
    · exact absurd (congrArg (fun q : Point => q.oc) hk') hk
    · exact List.mem_singleton_self k

/-- One point replaced, and its zones evaluated (R51). -/
theorem Keeps.evaluatePoint (m : Index) (p : Point) : Keeps s ((s.setPoint m p).evaluatePoint m) := by
  refine .of_evaluated (fun hs => hs.setPoint m p) (State.evaluateWhere_onlyZoneStates _ _) fun hj => ?_
  refine ((hj.current_replaced (f := (s.setPoint m p).current) (by simp [State.setPoint, hj.1.2.1])).evaluateWhere
    _).zonesJudged fun z _ hw => ?_
  obtain ⟨⟨k, hk, hne⟩, hout⟩ := hw
  rcases item_put_cases s.current.points .fresh p m k with hk' | ⟨rfl, -⟩
  · exact hne (by
      rw [show item (s.setPoint m p).current.points .fresh k = s.point k from hk']
      exact ⟨rfl, rfl⟩)
  · have hin : k ∈ ((s.setPoint k p).zone z).confirmation := hk
    rw [List.contains_eq_mem, decide_eq_false_iff_not] at hout
    exact hout hin

/-! ### Sets (R70, R71) -/

/-- Sets replaced and handed over: a zone whose sets are the same has the record it had. -/
theorem Keeps.handOver (hi : t.inputs = s.inputs) (hl : t.zones.length = 8)
    (h : ∀ z ∈ upTo 8, s.setsDiffer t z = false → t.zone z = s.zone z) : Keeps s (s.handOver t) := by
  have hs (hs : s.shaped) : t.shaped := hs.of_inputs hi (hl.trans hs.2.2.2.1.symm)
  refine .of_evaluated hs (s.handOver_onlyZoneStates t) fun hj => State.judgedBut.handOver ?_
  refine hj.changed (hs hj.1) (State.powered_of_inputs hi) (State.state_of_inputs hi) (State.topology_of_inputs hi)
    (State.capturesAgree.of_inputs hj.2.2 hi) fun z hz hw => ?_
  have hzone := h z hz (by simpa using hw)
  exact ⟨hzone, .of_inputs hi (by rw [hzone])⟩

theorem State.setsDiffer_false {z : Index} : s.setsDiffer t z = false ↔
    (s.zone z).clearing = (t.zone z).clearing ∧ (s.zone z).confirmation = (t.zone z).confirmation := by
  simp [State.setsDiffer]

/-- Sets computed as they were leave the zone's record as it was (R66). -/
theorem State.resetZone_same {z : Index} (hc : (s.resetZone z).clearing = (s.zone z).clearing)
    (hm : (s.resetZone z).confirmation = (s.zone z).confirmation) : s.resetZone z = s.zone z := by
  unfold State.resetZone at hc hm ⊢
  dsimp only at hc hm ⊢
  split
  · rfl
  · next h =>
    rw [if_neg h] at hc hm
    exact absurd (by simp [← hc, ← hm]) h

theorem State.reconfirmZone_same {z : Index} (hm : (s.reconfirmZone z).confirmation = (s.zone z).confirmation) :
    s.reconfirmZone z = s.zone z := by
  unfold State.reconfirmZone at hm ⊢
  dsimp only at hm ⊢
  split
  · rfl
  · next h =>
    rw [if_neg h] at hm
    exact absurd (by simp [← hm]) h

theorem Keeps.recompute (s : State) : Keeps s s.recompute := by
  refine .handOver rfl (by simp [State.replaceSets, upTo]) fun z hz h => ?_
  have hzone : s.replaceSets.zone z = s.resetZone z := item_map_upTo s.resetZone _ hz
  rw [State.setsDiffer_false, hzone] at h
  rw [hzone]
  exact State.resetZone_same h.1.symm h.2.symm

theorem Keeps.reconfirm (s : State) : Keeps s s.reconfirm := by
  refine .handOver rfl (by simp [upTo]) fun z hz h => ?_
  have hzone : ({ s with zones := (upTo 8).map s.reconfirmZone } : State).zone z = s.reconfirmZone z :=
    item_map_upTo s.reconfirmZone _ hz
  rw [State.setsDiffer_false, hzone] at h
  rw [hzone]
  exact State.reconfirmZone_same h.2.symm

/-! ### Link values (R136) -/

/-- The state `t` with the link and the settings of `s`. -/
def State.relinked (s t : State) : State := { t with link := s.link, settings := s.settings }

/-- From `s` to `t` nothing that zones stand on has changed but the peers and the link group. -/
structure OnlyLink (s t : State) : Prop where
  seen : (s.relinked t).seen = s.seen
  topology : t.settings.active.topology = s.settings.active.topology

namespace OnlyLink

/-- Only `t.seen` matters. -/
theorem congr_seen (h : OnlyLink s t) (hs : u.seen = t.seen) : OnlyLink s u := by
  have key (v : State) : (s.relinked v).seen = { v.seen with link := s.seen.link, settings := s.seen.settings } := rfl
  refine ⟨?_, (State.topology_of_inputs (State.inputs_of_seen hs)).trans h.topology⟩
  rw [key, hs, ← key]
  exact h.seen

variable (h : OnlyLink s t)
include h

/-- The inputs of a zone whose presented link values have not changed stand. -/
theorem sameInputs {z : Index} (hz : s.linkInputsDiffer t z = false) : SameInputs s t z :=
  { (OnlyZoneStates.of_seen h.seen).sameInputs z with
    set := by unfold State.zoneSet; rw [h.topology]
    link := hz }

theorem zones : t.zones = s.zones := State.zones_of_seen (t := s.relinked t) h.seen

theorem shaped (hs : s.shaped) : t.shaped := (OnlyZoneStates.of_seen h.seen).shaped hs

theorem capturesAgree (hc : s.capturesAgree) : t.capturesAgree :=
  State.capturesAgree.of_inputs (t := s.relinked t) hc (State.inputs_of_seen h.seen)

/-- The change of presented link values handed to the zones (R136). -/
theorem keeps_handLinkInputs : Keeps s (s.handLinkInputs t) := by
  refine .of_evaluated h.shaped (State.evaluateWhere_onlyZoneStates _ _) fun hj => ?_
  have hwait : t.judgedBut fun z => s.linkInputsDiffer t z = true := by
    refine hj.changed (h.shaped hj.1) (congrArg (fun u : State => u.powered) h.seen :)
      (congrArg (fun u : State => u.control.state) h.seen :) h.topology (h.capturesAgree hj.2.2) fun z _ hw => ?_
    exact ⟨by unfold State.zone; rw [h.zones], h.sameInputs (by simpa using hw)⟩
  exact (hwait.evaluateWhere _).zonesJudged fun z _ hw => absurd hw.1 (by simp [hw.2])

end OnlyLink

/-! ### The protection state (R97) -/

/-- Clearing the simulations leaves detections and captures alone (R21, R51). -/
theorem State.clearSimulations_shaped (hs : s.shaped) : s.clearSimulations.shaped :=
  hs.same (by simp [State.clearSimulations]) (by simp [State.clearSimulations]) rfl rfl rfl

theorem State.capturesAgree.clearSimulations (hc : s.capturesAgree) : s.clearSimulations.capturesAgree := by
  intro n hn
  have hch : s.clearSimulations.channel n = { s.channel n with simulated := false } :=
    item_map (fun c : Channel => ({ c with simulated := false } : Channel)) s.light.channels (.fresh false) n
  rw [hch]
  exact hc n hn

theorem Keeps.changeState (s : State) (new : Protection) : Keeps s (s.changeState new) := by
  -- Whatever the zones were, they are all evaluated at the end.
  have all (t : State) (hs : s.shaped → t.shaped) (hc : s.capturesAgree → t.capturesAgree) : Keeps s t.evaluateAll :=
    .of_evaluated hs (State.evaluateWhere_onlyZoneStates _ _) fun hj =>
      State.evaluateAll_zonesJudged (hs hj.1) (hc hj.2.2)
  unfold State.changeState
  dsimp only
  refine all _ (fun hs => ?_) fun hc => ?_
  · split
    · refine (OnlyZoneStates.of_seen (State.withdrawDry_seen _)).shaped (State.clearSimulations_shaped ?_)
      exact hs.same rfl rfl rfl rfl rfl
    · exact hs.same rfl rfl rfl rfl rfl
  · split
    · refine State.capturesAgree.of_inputs (State.capturesAgree.clearSimulations ?_)
        (State.inputs_of_seen (State.withdrawDry_seen _))
      exact hc
    · exact hc

end Sys2Proof.Machine
end

section
/-! The operations that several commands share keep the zones judged: derivation of positions, the peers' telegrams, the
staged application (R167 to R169), and a restart. -/

namespace Sys2Proof.Machine

open Wire

variable (s : State)

/-! ### Positions (R57, R59) -/

@[simp] theorem State.derive_seen (p : Index) : (s.derive p).seen = s.seen := by
  unfold State.derive
  dsimp only
  split <;> simp

theorem Keeps.derivePosition (p : Index) : Keeps s (s.derivePosition p) := by
  have hd : Keeps s (s.derive p) := .of_seen (s.derive_seen p)
  unfold State.derivePosition
  dsimp only
  split
  · exact hd
  · split
    · exact (hd.congr_seen (State.judgeOrder_seen _ p)).trans (.recompute _)
    · exact (hd.trans (.recompute _)).congr_seen (State.judgeOrder_seen _ p)

/-! ### The cross link (R132 to R138) -/

/-- A peer changed. -/
theorem OnlyLink.mapPeer (u : Index) (f : Peer → Peer) : OnlyLink s (s.mapPeer u f) := ⟨rfl, rfl⟩

theorem Keeps.takePeer (p : Peer) (c : Content) : Keeps s (s.takePeer p c) := by
  have edges (ps : List Index) (u : State) : (ps.foldl (fun v q => v.requestEdge p.unit q) u).seen = u.seen :=
    foldl_seen u _ (fun v q => v.requestEdge_seen p.unit q) ps
  have taken (f : Peer → Peer) :
      OnlyLink s ((if p.state == .live then s else s.post .peerState p.unit PeerState.live.code).mapPeer p.unit f) := by
    split <;> exact ⟨rfl, rfl⟩
  unfold State.takePeer
  dsimp only
  split
  · exact ((taken _).congr_seen (edges _ _)).keeps_handLinkInputs
  · exact (taken _).keeps_handLinkInputs.congr_seen (edges _ _)

@[simp] theorem State.countLink_seen (f : LinkCounters → LinkCounters) : (s.countLink f).seen = s.seen := rfl

@[simp] theorem State.takeDuplicate_seen : s.takeDuplicate.seen = s.seen := by
  unfold State.takeDuplicate
  dsimp only
  refine (State.mapLink_seen _ fun l => ?_).trans (State.seen_ite (s.countLink_seen _) ?_)
  · show (if l.tx == .armed then l.backToDue else l).peers = l.peers
    split <;> rfl
  · exact (State.mapLink_seen _ fun _ => by rfl).trans ((State.post_seen _ _ _ _).trans (s.countLink_seen _))

theorem Keeps.judgeTelegram (bits : List Bit) : Keeps s (s.judgeTelegram bits) := by
  unfold State.judgeTelegram
  split
  · exact .of_seen (s.countLink_seen _)
  · split
    · exact .of_seen (s.countLink_seen _)
    · dsimp only
      split
      · exact .of_seen s.takeDuplicate_seen
      · split
        · exact .takePeer s _ _
        · exact .of_seen (s.countLink_seen _)

@[simp] theorem State.startBit_seen : s.startBit.seen = s.seen := by
  have hadv : s.toStartBit.seen = s.seen := s.advanceTo_seen _
  unfold State.startBit
  dsimp only
  split
  · exact (State.mapLink_seen _ fun _ => by rfl).trans hadv
  · have ht := (s.toStartBit.mapLink_seen (f := fun l => { l with telegram := some s.toStartBit.clock, holdOff := none })
      fun _ => rfl).trans hadv
    exact State.seen_ite ((State.countLink_seen _ _).trans ((State.mapLink_seen _ fun _ => by rfl).trans ht)) ht

/-! ### The staged application (R168, R169) -/

/-- The application of its group begins no capture on a channel outside capture (R22). -/
theorem Channel.captureAgrees_applied {c : Channel} (before after : ChannelKind) (hd : c.detection ≠ .referencing)
    (hc : c.captureAgrees) : (c.applied before after).captureAgrees := by
  have hnone : c.capture = none := by simpa using mt hc hd
  intro h
  cases before <;> cases after <;> simp [Channel.applied, hnone] at h

theorem Keeps.tryChannel (n : Index) : Keeps s (s.tryChannel n) := by
  unfold State.tryChannel
  split
  · next h =>
    have hd : (s.channel n).detection ≠ .referencing := by
      simp only [State.channelSafe, Bool.and_eq_true, bne_iff_ne] at h
      exact h.2.1
    have hw : Keeps s (s.mapWaiting fun w => { w with channels := w.channels.filter fun k => k != n }) := .of_seen rfl
    refine hw.trans ?_
    unfold State.applyChannel
    dsimp only
    exact .handChannel rfl fun hc => Channel.captureAgrees_applied _ _ hd hc
  · exact .refl s

theorem Point.input_applied (p : Point) (before after : PointSettings) : (p.applied before after).input = p.input := by
  unfold Point.applied
  split <;> rfl

theorem Keeps.applyPoint (m : Index) (new : PointSettings) : Keeps s (s.applyPoint m new) := by
  have ht : Keeps s ((s.mapActive fun c => { c with points := put c.points m new }).setPoint m
      ((s.point m).applied (s.pointSet m) new)) :=
    .of_seen ((State.setPoint_seen _ m (Point.input_applied _ _ _)).trans rfl)
  unfold State.applyPoint
  dsimp only
  split
  · exact ht
  · split
    · exact ((ht.congr_seen (State.judgeAttached_seen _ _)).congr_seen (State.judgeAttached_seen _ _)).trans (.reconfirm _)
    · exact ((ht.trans (.reconfirm _)).congr_seen (State.judgeAttached_seen _ _)).congr_seen
        (State.judgeAttached_seen _ _)

theorem Keeps.takePoint (m : Index) : Keeps s (s.takePoint m) :=
  (Keeps.of_seen (State.mapWaiting_seen s _)).trans (.applyPoint _ m _)

theorem Keeps.tryPoint (m : Index) : Keeps s (s.tryPoint m) := by
  unfold State.tryPoint
  split
  · exact .takePoint s m
  · exact .refl s

@[simp] theorem State.rederive_seen (old : TopologySettings) (p : Index) : (s.rederive old p).seen = s.seen := by
  unfold State.rederive
  dsimp only
  simp

/-- After a change of topology every used zone is evaluated, whichever they now are (R98). -/
theorem Keeps.applyTopology (new : TopologySettings) : Keeps s (s.applyTopology new) := by
  have all (u : State) (hu : u.seen = (s.mapActive fun c => { c with topology := new }).seen) :
      Keeps s u.replaceSets.evaluateAll := by
    have ho := OnlyZoneStates.of_seen hu
    have hs (hs : s.shaped) : u.replaceSets.shaped := by
      have hu' : u.shaped := ho.shaped (hs.same rfl rfl rfl rfl rfl)
      exact hu'.same rfl rfl rfl (by simp [State.replaceSets, upTo, hu'.2.2.2.1]) rfl
    refine .of_evaluated hs (State.evaluateWhere_onlyZoneStates _ _) fun hj =>
      State.evaluateAll_zonesJudged (hs hj.1) ?_
    exact State.capturesAgree.of_inputs (t := u.replaceSets)
      (s := s.mapActive fun c => { c with topology := new }) hj.2.2 ho.inputs
  exact all _ (foldl_seen _ _ (fun t p => t.rederive_seen _ p) _)

theorem Keeps.tryTopology : Keeps s s.tryTopology := by
  unfold State.tryTopology
  split
  · exact (Keeps.of_seen (State.mapWaiting_seen s _)).trans (.applyTopology _ _)
  · exact .refl s

theorem Keeps.applyLink (new : LinkSettings) : Keeps s (s.applyLink new) := by
  have posts (l : List Index) (u : State) :
      (l.foldl (fun u n => u.post .peerState n PeerState.waiting.code) u).seen = u.seen :=
    foldl_seen u _ (fun v n => v.post_seen _ n _) l
  unfold State.applyLink
  dsimp only
  exact (OnlyLink.congr_seen (s := s) (t := (s.mapActive fun c => { c with link := new }).mapLink fun l =>
    l.applied s.settings.active.link new s.clock) ⟨rfl, rfl⟩ (posts _ _)).keeps_handLinkInputs

theorem Keeps.tryLink : Keeps s s.tryLink := by
  unfold State.tryLink
  split
  · exact (Keeps.of_seen (State.mapWaiting_seen s _)).trans (.applyLink _ _)
  · exact .refl s

theorem Keeps.tryStation : Keeps s s.tryStation := by
  unfold State.tryStation
  split
  · exact .of_seen ((State.mapActive_seen _ rfl rfl).trans (State.mapWaiting_seen s _))
  · exact .refl s

@[simp] theorem State.dropImage_seen : s.dropImage.seen = s.seen := by
  unfold State.dropImage
  split <;> rfl

/-- No zone stands on whether APPLY_DONE is owed. -/
theorem State.doneOwed_seen (b : Bool) :
    ({ s with settings := { s.settings with doneOwed := b } } : State).seen = s.seen := rfl

theorem Keeps.applyDone : Keeps s s.applyDone := by
  have h : Keeps s (({ s with settings := { s.settings with doneOwed := false } } : State).post .applyDone 0
      s.settings.serial).dropImage := .of_seen
    ((State.dropImage_seen _).trans ((State.post_seen _ _ _ _).trans (s.doneOwed_seen false)))
  unfold State.applyDone
  dsimp only
  split
  · exact h.trans (.changeState _ _)
  · exact h

theorem Keeps.finishApply (before : State) : Keeps s (before.finishApply s) := by
  unfold State.finishApply
  split
  · exact .applyDone s
  · exact .refl s

@[simp] theorem State.forgetCaptured_seen (which : Index → Bool) : (s.forgetCaptured which).seen = s.seen :=
  foldl_seen s _ (fun t n => t.setChannel_seen n (by rfl)) _

theorem Keeps.acceptCommit : Keeps s s.acceptCommit := by
  -- The parts at their safe points, then APPLY_DONE if none waits.
  have parts (u : State) (hu : u.seen = s.seen) : Keeps s
      ((upTo 4).foldl State.tryPoint ((upTo 16).foldl State.tryChannel u)).tryTopology.tryLink :=
    (((Keeps.of_seen hu).trans (.foldl (fun t n => .tryChannel t n) _ u)).trans
      (.foldl (fun t m => .tryPoint t m) _ _)).trans ((Keeps.tryTopology _).trans (.tryLink _))
  have done (v : State) (hv : Keeps s v) : Keeps s (if v.applying then v
      else if v.sched.doneAfterReply then { v with settings := { v.settings with doneOwed := true } }
      else v.applyDone) := by
    split
    · exact hv
    · split
      · exact hv.congr_seen (v.doneOwed_seen true)
      · exact hv.trans (.applyDone v)
  unfold State.acceptCommit
  dsimp only
  refine done _ (parts _ ?_)
  exact (State.forgetCaptured_seen _ _).trans rfl

/-! ### The store and the restart (R154, R170 to R172) -/

@[simp] theorem State.storeGood_seen (c : WriteContent) : (s.storeGood c).seen = s.seen := by cases c <;> rfl

@[simp] theorem State.storeBad_seen (c : WriteContent) : (s.storeBad c).seen = s.seen := by
  cases c <;> simp only [State.storeBad, State.cutNumber, State.markWritten, State.seen, State.inputs]

@[simp] theorem State.endWrite_seen (c : WriteContent) (o : WriteOutcome) : (s.endWrite c o).seen = s.seen := by
  cases o with
  | verified => exact (State.storeGood_seen _ c).trans rfl
  | corrupted => exact (State.storeBad_seen _ c).trans rfl
  | unchanged => rfl

@[simp] theorem State.chooseWrite_seen : s.chooseWrite.seen = s.seen := by
  unfold State.chooseWrite
  split
  · rfl
  · split
    · rfl
    · split
      · exact (State.dropImage_seen _).trans rfl
      · rfl

@[simp] theorem State.completeWrites_seen : s.completeWrites.seen = s.seen := by
  have hbusy : s.completeBusy.seen = s.seen := by
    unfold State.completeBusy
    split
    · rfl
    · exact (State.storeGood_seen _ _).trans rfl
  unfold State.completeWrites
  dsimp only
  split
  · exact (State.storeGood_seen _ _).trans hbusy
  · exact hbusy

/-- A restart sets up all records afresh, in STARTING (R154, R155). -/
theorem State.restart_zonesJudged (cause : ResetCause) : (s.restart cause).zonesJudged := by
  refine ⟨⟨?_, ?_, ?_, ?_, ?_⟩, ?_, ?_⟩
  · simp [State.restart, State.restartZones, upTo]
  · simp [State.restart, State.restartZones]
  · simp [State.restart, State.restartZones, upTo]
  · simp [State.restart, State.restartZones, upTo]
  · simp [State.restart, State.restartZones]
  · intro _ he
    exact Bool.noConfusion (show false = true from he)
  · intro n hn hc
    have hch : (s.restart cause).channel n =
        .fresh ((item s.store.loadedSettings.channels .factory n).kind != .unused) :=
      item_map_upTo (fun n => Channel.fresh ((item s.store.loadedSettings.channels .factory n).kind != .unused)) _ hn
    rw [hch] at hc
    exact absurd hc (by simp [Channel.fresh])

theorem Keeps.restart (t : State) (cause : ResetCause) : Keeps s (t.restart cause) :=
  ⟨fun _ => (t.restart_zonesJudged cause).1, fun _ => t.restart_zonesJudged cause⟩

theorem Keeps.resetPart (cause : ResetCause) : Keeps s (s.resetPart cause) :=
  .restart s s.completeWrites cause

@[simp] theorem State.cutWrites_seen : s.cutWrites.seen = s.seen := by
  have hcut (u : State) (c : WriteContent) : (u.cutOff c).seen = u.seen := by
    unfold State.cutOff
    split
    · split
      · exact u.storeBad_seen _
      · rfl
    all_goals exact u.storeBad_seen _
  unfold State.cutWrites
  dsimp only
  split
  · rfl
  · exact (hcut _ _).trans rfl

/-- Without supply no zone is evaluated (R154). -/
theorem Keeps.losePower : Keeps s s.losePower := by
  have ho := OnlyZoneStates.of_seen s.cutWrites_seen
  have hs (hs : s.shaped) : s.losePower.shaped :=
    (ho.shaped hs).same rfl (by
      simp only [State.losePower, State.judgeContacts_current, List.length_map]
      rw [(ho.shaped hs).2.1, hs.2.1]) rfl rfl rfl
  refine ⟨hs, fun hj => ⟨hs hj.1, fun hp => absurd hp (by simp [State.losePower]), ?_⟩⟩
  exact State.capturesAgree.of_inputs (t := s.cutWrites) hj.2.2 ho.inputs

end Sys2Proof.Machine
end

section
/-! Every command keeps the lists' shape and the zones judged, and so does every step. -/

namespace Sys2Proof.Machine

open Wire

variable {s : State}

/-- Whatever next state is answered, it keeps the shape and the zones judged. -/
def AnswersKeeping (s : State) (o : Host.Outcome State Fault Refusal) : Prop := ∀ t, o = .next t → Keeps s t

namespace AnswersKeeping

theorem next {t : State} (h : Keeps s t) : AnswersKeeping s (.next t) := by
  intro u hu
  cases hu
  exact h

/-- A command keeps what its effect keeps: settling touches neither zones nor inputs. -/
theorem conclude {f : State → State} (h : Keeps s (f s)) : AnswersKeeping s (conclude s f) := by
  unfold Machine.conclude
  split
  · exact next (h.congr_seen (settle_seen s _))
  · exact next (.refl s)

/-- A command whose effect leaves alone what is seen. -/
theorem unseen {f : State → State} (h : (f s).seen = s.seen) : AnswersKeeping s (Machine.conclude s f) :=
  conclude (.of_seen h)

end AnswersKeeping

variable (s)

/-! ### Power, reset and state control -/

theorem execPowerOn_keeping : AnswersKeeping s (execPowerOn s) := by
  unfold execPowerOn
  split
  · exact .conclude (.refl s)
  · exact .next (.restart s _ _)

theorem execPowerLoss_keeping : AnswersKeeping s (execPowerLoss s) := by
  unfold execPowerLoss
  split
  · exact .next (.losePower s)
  · exact .next (.refl s)

theorem execRestartTerminalChange_keeping (b : Bool) : AnswersKeeping s (execRestartTerminalChange b s) := by
  unfold execRestartTerminalChange
  split
  · exact .unseen rfl
  · exact .next (.of_seen rfl)

theorem execRestartTerminalPress_keeping : AnswersKeeping s (execRestartTerminalPress s) := by
  refine .conclude ?_
  split
  · exact .refl s
  · exact (Keeps.of_seen (s.advanceTo_seen _)).trans (.resetPart _ _)

theorem execRestartTerminalRelease_keeping : AnswersKeeping s (execRestartTerminalRelease s) := by
  refine .unseen ?_
  split
  · rfl
  · exact s.advanceTo_seen _

theorem execStartingEnd_keeping : AnswersKeeping s (execStartingEnd s) := by
  refine .conclude ?_
  split
  · exact .refl s
  · exact ((Keeps.of_seen (s.advanceTo_seen _)).trans (.recompute _)).trans (.changeState _ _)

theorem execTestTimeout_keeping : AnswersKeeping s (execTestTimeout s) := by
  refine .conclude ?_
  split
  · exact (Keeps.of_seen ((State.post_seen _ _ _ _).trans (s.advanceTo_seen _))).trans (.changeState _ _)
  · exact .refl s

/-! ### Light front end and supervision -/

/-- A channel outside capture takes a new record without one. -/
theorem Channel.captureAgrees_of_idle {c d : Channel} (hd : c.detection ≠ .referencing) (h : d.capture = c.capture)
    (hc : c.captureAgrees) : d.captureAgrees := fun hs => absurd (hc (h ▸ hs)) hd

theorem Channel.qualify_capture (c : Channel) (θ k l : Nat) (now : PartTime) : (c.qualify θ k l now).capture = c.capture := by
  unfold Channel.qualify
  split
  · split
    · split <;> rfl
    · rfl
  · split
    · split <;> rfl
    · rfl
  case h_3 | h_4 =>
    generalize (if l < dropLevel θ then c.drops + 1 else 0) = drops
    dsimp only
    split
    · rfl
    · split <;> rfl
  all_goals rfl

theorem State.noteSteady_seen (t : State) (n l : Nat) : (s.noteSteady t n l).seen = t.seen :=
  State.seen_ite (t.post_seen _ _ _) rfl

theorem Keeps.sampleOpen (n : Index) (raw : Nat) : Keeps s (s.sampleOpen n raw) := by
  unfold State.sampleOpen
  dsimp only
  split
  · exact .of_seen (s.setChannel_seen n rfl)
  · next hd =>
    refine .handChannel (s.noteSteady_seen _ n _) (Channel.captureAgrees_of_idle (fun he => ?_) ?_)
    · rw [he] at hd
      exact hd rfl
    · exact Channel.qualify_capture _ _ _ _ _

theorem Keeps.sampleChannel (n : Index) (raw : Nat) : Keeps s (s.sampleChannel n raw) := by
  unfold State.sampleChannel
  split
  · exact .refl s
  · dsimp only
    split
    · next _ k hk => exact .of_seen (s.setChannel_seen n (by simp [Channel.input, hk]))
    · exact .of_seen (s.setChannel_seen n rfl)
    · exact .sampleOpen s n raw

/-- The next light sample instant is a multiple of 100 µs, as the last one was (R4). -/
theorem State.nextLight_dvd (hs : s.shaped) : 1200 ∣ s.nextLight := by
  have hlast : 1200 ∣ s.light.lastSample.elim 0 fun t => t + Config.lightInterval := by
    cases h : s.light.lastSample with
    | none => exact dvd_zero 1200
    | some u => exact Dvd.dvd.add (hs.2.2.2.2 u h) (dvd_refl 1200)
  have hceil : 1200 ∣ ceilTo Config.lightInterval s.clock := Dvd.intro_left _ rfl
  unfold State.nextLight
  rcases max_choice (s.light.lastSample.elim 0 fun t => t + Config.lightInterval)
    (ceilTo Config.lightInterval s.clock) with h | h <;> rw [h] <;> assumption

/-- A light sample instant comes (R4). -/
theorem Keeps.lastSample (t : Instant) (i : Nat) (h : s.shaped → 1200 ∣ t) :
    Keeps s { s with light := { s.light with lastSample := some t, interval := i } } := by
  have hs (hs : s.shaped) : ({ s with light := { s.light with lastSample := some t, interval := i } } : State).shaped := by
    obtain ⟨hl, hc, hp, hz, -⟩ := id hs
    exact ⟨hl, hc, hp, hz, fun u hu => Option.some.inj hu ▸ h hs⟩
  refine ⟨hs, fun hj => ?_⟩
  refine (hj.changed (waits := fun _ => False) (hs hj.1) rfl rfl rfl hj.2.2 fun z _ _ => ⟨rfl, ?_⟩).zonesJudged
    fun _ _ => id
  exact { state := rfl, set := rfl, confirmation := rfl, light := fun _ _ => ⟨rfl, rfl⟩
          current := fun _ _ => ⟨rfl, rfl⟩, link := State.linkInputsDiffer_same rfl rfl z }

theorem execLightSample_keeping (raw : List Nat) : AnswersKeeping s (execLightSample raw s) := by
  refine .conclude ?_
  dsimp only
  split
  · exact .refl s
  · have hadv := Keeps.of_seen (s.advanceTo_seen s.nextLight)
    have hcome := Keeps.lastSample (s.advanceTo s.nextLight) s.nextLight (s.light.interval + 1) fun hs =>
      s.nextLight_dvd ((OnlyZoneStates.of_seen (s.advanceTo_seen s.nextLight).symm).shaped hs)
    rw [State.advanceTo_light] at hcome
    rw [State.advanceTo_light]
    exact (hadv.trans hcome).trans (.foldl (fun t n => .sampleChannel t n _) _ _)

theorem execBackgroundUpdate_keeping : AnswersKeeping s (execBackgroundUpdate s) := by
  refine .conclude ?_
  dsimp only
  split
  · exact .refl s
  · refine .of_shaped_seen fun hs => ?_
    have hl : ((upTo 16).map fun n => (s.channel n).endInterval (s.usedChannel n)).map Channel.input =
        s.light.channels.map Channel.input := by
      rw [List.map_map, ← map_upTo_item Channel.input (.fresh false) hs.1]
      rfl
    simp only [State.seen, State.inputs, hl]

theorem State.toSlot_seen (n : Index) : (s.toSlot n).seen = s.seen := by
  unfold State.toSlot
  dsimp only
  exact State.seen_ite (s.advanceTo_seen _) ((State.advanceTo_seen _ _).trans (s.advanceTo_seen _))

theorem Channel.takeSlot_input (c : Channel) (second : Nat) : (c.takeSlot second).input = c.input := by
  unfold Channel.takeSlot
  dsimp only
  split
  case h_1 | h_2 | h_3 => split <;> rfl
  all_goals rfl

theorem execSupervisionSlot_keeping (n : Index) : AnswersKeeping s (execSupervisionSlot n s) := by
  refine .unseen (State.seen_ite rfl (State.seen_ite ?_ rfl))
  exact (State.setChannel_seen _ n (Channel.takeSlot_input _ _)).trans (s.toSlot_seen n)

theorem Channel.endBurst_input (c : Channel) (k : ChannelSettings) (sum : Nat) (now : PartTime) :
    (c.endBurst k sum now).input = c.input := by
  unfold Channel.endBurst
  dsimp only
  cases classify k.kind k.reference (sum / 4) <;> rfl

/-- Health takes no channel out of a capture and sets none up (R16). -/
theorem Channel.captureAgrees_takeHealth {c : Channel} (h : Health) (hc : c.captureAgrees) :
    (c.takeHealth h).captureAgrees := by
  intro hs
  simp [Channel.takeHealth, hc hs]

theorem Keeps.judgeHealth (n : Index) : Keeps s (s.judgeHealth n) := by
  unfold State.judgeHealth
  dsimp only
  split
  · exact .refl s
  · exact .handChannel (State.post_seen _ _ _ _) (Channel.captureAgrees_takeHealth _)

theorem execBurstEnd_keeping (n : Index) : AnswersKeeping s (execBurstEnd n s) := by
  refine .conclude ?_
  split
  · exact .refl s
  · split
    · exact .refl s
    · exact (Keeps.of_seen (s.setChannel_seen n (Channel.endBurst_input _ _ _ _))).trans (.judgeHealth _ n)

theorem State.advanceTo_channel (t : Instant) (n : Index) : (s.advanceTo t).channel n = s.channel n := by
  unfold State.channel
  rw [State.advanceTo_light]

theorem execCaptureBurstStart_keeping (n : Index) : AnswersKeeping s (execCaptureBurstStart n s) := by
  refine .unseen ?_
  dsimp only
  split
  · rfl
  · next k hk =>
    refine State.seen_ite ((State.setChannel_seen _ n ?_).trans (s.advanceTo_seen _)) rfl
    simp [State.advanceTo_channel, Channel.input, hk]

theorem State.judgeCandidate_seen (n candidate : Nat) : (s.judgeCandidate n candidate).seen = s.seen :=
  State.seen_ite ((State.post_seen _ _ _ _).trans ((State.setChannel_seen _ n (by rfl)).trans (s.mapPending_seen _)))
    (s.post_seen _ _ _)

/-- A record with the same contribution to light in the place of a channel's. -/
theorem State.setChannel_flags {n : Index} {c : Channel} (hl : c.detection.lightFlag = (s.channel n).detection.lightFlag)
    (hs : (c.simulated && c.detection.evaluated) = ((s.channel n).simulated && (s.channel n).detection.evaluated)) :
    (s.setChannel n c).lightFlag n = s.lightFlag n ∧ (s.setChannel n c).simulatedLight n = s.simulatedLight n := by
  unfold State.lightFlag State.simulatedLight
  rcases item_put_cases s.light.channels (.fresh false) c n n with h | ⟨-, h⟩
  · have hch : (s.setChannel n c).channel n = s.channel n := h
    rw [hch]
    exact ⟨rfl, rfl⟩
  · have hch : (s.setChannel n c).channel n = c := h
    rw [hch]
    exact ⟨hl, hs⟩

/-- A channel that ends its capture was REFERENCING, and gave no light before or after (R19). -/
theorem execCaptureEnd_keeping (n : Index) : AnswersKeeping s (execCaptureEnd n s) := by
  refine .conclude ?_
  dsimp only
  split
  · exact .refl s
  · next k hk =>
    split
    · exact .refl s
    · have ht := ((s.advanceTo s.nextLight).judgeCandidate_seen n (saturate (k.means / 16))).trans (s.advanceTo_seen _)
      refine (Keeps.of_seen ht).trans (.setChannel fun hc => ?_)
      have hin : (((s.advanceTo s.nextLight).judgeCandidate n (saturate (k.means / 16))).channel n).input =
          (s.channel n).input := by
        rw [← State.inputs_channel, State.inputs_of_seen ht, State.inputs_channel]
      have hdet := hc (by
        have := congrArg (fun c : Channel => c.capture.isSome) hin
        simpa [Channel.input, hk] using this)
      refine ⟨fun h => absurd h (by simp), State.setChannel_flags _ ?_ ?_⟩ <;> simp [hdet, Detection.lightFlag,
        Detection.evaluated]

/-! ### Current front end -/

theorem execCurrentSample_keeping (samples : List Int) : AnswersKeeping s (execCurrentSample samples s) := by
  refine .conclude ?_
  dsimp only
  split
  · exact .refl s
  · have hadv := Keeps.of_seen (s.advanceTo_seen s.nextCurrent)
    -- What the four points are after the sample; a number that names none reads as before.
    have hpoint (hs : (s.advanceTo s.nextCurrent).shaped) (m : Index) :
        let p := item ((upTo 4).map fun m => (s.point m).sample (s.pointSet m) (phases samples m) s.nextCurrent) .fresh m
        p.simulated = ((s.advanceTo s.nextCurrent).point m).simulated ∧
          (m ∉ upTo 4 → p.oc = ((s.advanceTo s.nextCurrent).point m).oc) := by
      have hold : (s.advanceTo s.nextCurrent).point m = s.point m := by
        unfold State.point
        rw [State.advanceTo_current]
      by_cases hm : m ∈ upTo 4
      · dsimp only
        rw [item_map_upTo _ Point.fresh hm, hold]
        exact ⟨rfl, fun h => absurd hm h⟩
      · have hd : (s.advanceTo s.nextCurrent).point m = .fresh := item_beyond _ hs.2.1 hm
        dsimp only
        rw [hd, item_beyond Point.fresh (by simp [upTo]) hm]
        exact ⟨rfl, fun _ => rfl⟩
    refine hadv.trans (.handPoints (fun _ => by simp [upTo]) (fun hs m => (hpoint hs m).1) fun hs m hoc => ?_)
    exact mem_inOrder _ (by_contra fun hm => hoc ((hpoint hs m).2 hm))

theorem execOcHoldExpiry_keeping (m : Index) : AnswersKeeping s (execOcHoldExpiry m s) := by
  refine .conclude ?_
  dsimp only
  split
  · exact .handPoint rfl
  · exact .refl s

theorem execCpClear_keeping (m : Index) : AnswersKeeping s (execCpClear m s) := by
  refine .conclude ?_
  dsimp only
  split
  · exact .handPoint rfl
  · exact .refl s

end Sys2Proof.Machine
end

section
/-! The commands of the position inputs, the order unit, the cross link, the staged application and the station port keep
the shape and the zones judged; with them every step does. -/

namespace Sys2Proof.Machine

open Wire

variable (s : State)

/-! ### Position inputs -/

theorem execContactRawChange_keeping (p : Index) (c : Contact) (on : Bool) :
    AnswersKeeping s (execContactRawChange p c on s) := by
  unfold execContactRawChange
  split
  · exact .unseen (s.setPosition_seen p _)
  · exact .next (.of_seen (s.setPosition_seen p _))

theorem execDebounceExpiry_keeping (p : Index) (c : Contact) : AnswersKeeping s (execDebounceExpiry p c s) := by
  refine .conclude ?_
  split
  · exact .refl s
  · exact (Keeps.of_seen ((State.setPosition_seen _ p _).trans (s.advanceTo_seen _))).trans (.derivePosition _ p)

theorem execDiscrepancyExpiry_keeping (p : Index) : AnswersKeeping s (execDiscrepancyExpiry p s) := by
  refine .conclude ?_
  split
  · exact .refl s
  · exact (Keeps.of_seen ((State.setPosition_seen _ p _).trans (s.advanceTo_seen _))).trans (.derivePosition _ p)

/-! ### Order unit -/

theorem execMinPulseExpiry_keeping (p : Index) : AnswersKeeping s (execMinPulseExpiry p s) := by
  refine .unseen ?_
  split
  · rfl
  · exact State.seen_ite ((State.release_seen _ p).trans (s.advanceTo_seen _))
      (State.seen_ite ((State.confirm_seen _ _).trans (s.advanceTo_seen _)) rfl)

theorem execBfDeadline_keeping (p : Index) : AnswersKeeping s (execBfDeadline p s) := by
  refine .unseen ?_
  split
  · rfl
  · exact State.seen_ite ((State.judgeOrder_seen _ p).trans ((State.failOrder_seen _ _).trans (s.advanceTo_seen _))) rfl

theorem execDriveTimeout_keeping (p : Index) : AnswersKeeping s (execDriveTimeout p s) := by
  refine .unseen ?_
  split
  · rfl
  · exact State.seen_ite ((State.stallOrder_seen _ _).trans (s.advanceTo_seen _)) rfl

theorem execLockoutButtonChange_keeping (b : Bool) : AnswersKeeping s (execLockoutButtonChange b s) := by
  unfold execLockoutButtonChange
  split
  · exact .unseen rfl
  · exact .next (.of_seen rfl)

theorem execLockoutResetPress_keeping : AnswersKeeping s (execLockoutResetPress s) := by
  refine .unseen ?_
  split
  · rfl
  · exact State.seen_ite (s.advanceTo_seen _) ((State.clearLockouts_seen _ _).trans (s.advanceTo_seen _))

theorem execLockoutButtonRelease_keeping : AnswersKeeping s (execLockoutButtonRelease s) := by
  refine .unseen ?_
  split
  · rfl
  · exact s.advanceTo_seen _

/-! ### Cross link -/

variable {s} in
/-- After time has passed the link controller changed in anything but its peers. -/
theorem State.mapLink_advanceTo_seen {f : Link → Link} (h : ∀ l, (f l).peers = l.peers) (t : Instant) :
    ((s.advanceTo t).mapLink f).seen = s.seen := (State.mapLink_seen _ h).trans (s.advanceTo_seen t)

theorem execHeartbeatDue_keeping : AnswersKeeping s (execHeartbeatDue s) :=
  .unseen (State.seen_ite (State.mapLink_advanceTo_seen (fun _ => by rfl) _) rfl)

theorem execSendDecide_keeping : AnswersKeeping s (execSendDecide s) :=
  .unseen (State.seen_ite (State.mapLink_advanceTo_seen (fun _ => by rfl) _) rfl)

theorem execTelegramStart_keeping : AnswersKeeping s (execTelegramStart s) := by
  refine .unseen ?_
  split
  · exact State.mapLink_advanceTo_seen (fun _ => by rfl) _
  · rfl

theorem execAttemptVoided_keeping : AnswersKeeping s (execAttemptVoided s) :=
  .unseen (State.seen_ite s.startBit_seen rfl)

theorem execStartBitSeen_keeping : AnswersKeeping s (execStartBitSeen s) :=
  .unseen (State.seen_ite s.startBit_seen rfl)

/-- An attempt given up and counted. -/
theorem State.backToDue_seen (f : LinkCounters → LinkCounters) : ((s.mapLink Link.backToDue).countLink f).seen = s.seen :=
  (State.countLink_seen _ f).trans (State.mapLink_seen _ fun _ => by rfl)

theorem execArbitrationLost_keeping : AnswersKeeping s (execArbitrationLost s) :=
  .unseen (State.seen_ite (s.backToDue_seen _) rfl)

theorem execBitError_keeping (b : Bool) : AnswersKeeping s (execBitError b s) :=
  .unseen (State.seen_ite (State.seen_ite ((State.mapLink_seen _ fun _ => by rfl).trans (s.backToDue_seen _))
    (s.backToDue_seen _)) rfl)

theorem execTelegramCompleted_keeping : AnswersKeeping s (execTelegramCompleted s) := by
  refine .unseen ?_
  split
  · exact State.mapLink_advanceTo_seen (fun _ => by rfl) _
  · rfl

theorem execTelegramReceived_keeping (bits : List Bit) : AnswersKeeping s (execTelegramReceived bits s) := by
  refine .conclude ?_
  split
  · exact .refl s
  · split
    · exact .refl s
    · refine Keeps.trans (.of_seen ?_) (.judgeTelegram _ bits)
      exact State.mapLink_advanceTo_seen (fun _ => by rfl) _

theorem execLineDisturbance_keeping (bits : Nat) : AnswersKeeping s (execLineDisturbance s bits) :=
  .unseen (State.seen_ite ((State.countLink_seen _ _).trans (State.mapLink_advanceTo_seen (fun _ => by rfl) _)) rfl)

theorem execPeerSilenceExpiry_keeping (u : Index) : AnswersKeeping s (execPeerSilenceExpiry u s) := by
  refine .conclude ?_
  split
  · exact .refl s
  · next due _ =>
    have hlost : ((s.advanceTo due).mapPeer u Peer.lose).seen = (s.mapPeer u Peer.lose).seen := by
      rw [s.advanceTo_eq due]
      rfl
    exact ((OnlyLink.mapPeer s u Peer.lose).congr_seen ((State.post_seen _ _ _ _).trans hlost)).keeps_handLinkInputs

theorem execSuspensionEnd_keeping : AnswersKeeping s (execSuspensionEnd s) := by
  refine .unseen ?_
  split
  · rfl
  · exact State.mapLink_advanceTo_seen (fun _ => by rfl) _

theorem execDuplicateAlarmExpiry_keeping : AnswersKeeping s (execDuplicateAlarmExpiry s) := by
  unfold execDuplicateAlarmExpiry
  refine .unseen ?_
  split
  · exact State.mapLink_advanceTo_seen (fun _ => by rfl) _
  · rfl

/-! ### Staged application and store -/

theorem execChannelGroupApply_keeping (n : Index) : AnswersKeeping s (execChannelGroupApply n s) :=
  .conclude ((Keeps.tryChannel s n).trans (.finishApply _ s))

theorem execPointGroupApply_keeping (m : Index) : AnswersKeeping s (execPointGroupApply m s) := by
  refine .conclude ?_
  split
  · have hat : (if s.unguarded then s else s.toCurrentInstant).seen = s.seen :=
      State.seen_ite rfl (State.seen_ite rfl (s.advanceTo_seen _))
    exact ((Keeps.of_seen hat).trans (.takePoint _ m)).trans (.finishApply _ s)
  · exact .refl s

theorem execTopologyGroupApply_keeping : AnswersKeeping s (execTopologyGroupApply s) :=
  .conclude ((Keeps.tryTopology s).trans (.finishApply _ s))

theorem execLinkGroupApply_keeping : AnswersKeeping s (execLinkGroupApply s) :=
  .conclude ((Keeps.tryLink s).trans (.finishApply _ s))

theorem execStoreWriteBegin_keeping : AnswersKeeping s (execStoreWriteBegin s) :=
  .unseen (State.seen_ite rfl s.chooseWrite_seen)

theorem execStoreWriteEnd_keeping (o : WriteOutcome) : AnswersKeeping s (execStoreWriteEnd o s) := by
  refine .unseen ?_
  split
  · rfl
  · exact (State.endWrite_seen _ _ o).trans (s.advanceTo_seen _)

/-! ### Station port -/

theorem State.discardFrame_seen : s.discardFrame.seen = s.seen := (State.mapPort_seen _ _).trans (s.countPort_seen _)
theorem State.overrun_seen : s.overrun.seen = s.seen := s.countPort_seen _
theorem State.foreign_seen : s.foreign.seen = s.seen := s.countPort_seen _
theorem State.ignoreBroadcast_seen : s.ignoreBroadcast.seen = s.seen := s.countPort_seen _

theorem State.beginHandling_seen : s.beginHandling.seen = s.seen :=
  (State.mapPort_seen _ _).trans (show s.countHandled.moveDeadline.seen = s.seen by
    simp only [State.seen, State.inputs, State.moveDeadline, State.countHandled, State.countPort, State.mapPort])

theorem State.beginReply_seen : s.beginReply.seen = s.seen :=
  (State.mapPort_seen _ _).trans (s.advanceTo_seen _)

theorem State.endReply_seen : s.endReply.seen = s.seen :=
  (State.mapPort_seen _ _).trans ((State.advanceTo_seen _ _).trans (State.seen_ite rfl s.beginReply_seen))

theorem execFrameGapTimeout_keeping (read : List Byte) : AnswersKeeping s (execFrameGapTimeout s read) :=
  .unseen (State.seen_ite s.discardFrame_seen rfl)

theorem execFramingDiscard_keeping (cause : FramingCause) (read : List Byte) :
    AnswersKeeping s (execFramingDiscard cause s read) := .unseen (State.seen_ite s.discardFrame_seen rfl)

theorem execFrameCheckFailure_keeping : AnswersKeeping s (execFrameCheckFailure s) :=
  .unseen (State.seen_ite rfl (s.countPort_seen _))

theorem execForeignFrame_keeping (address kind : Byte) : AnswersKeeping s (execForeignFrame address kind s) :=
  .unseen (State.seen_ite rfl (State.seen_ite s.foreign_seen (State.seen_ite s.overrun_seen
    (State.seen_ite s.foreign_seen rfl))))

theorem execOverrunDiscard_keeping : AnswersKeeping s (execOverrunDiscard s) :=
  .unseen (State.seen_ite s.overrun_seen rfl)

theorem execIgnoredBroadcast_keeping (kind : Byte) : AnswersKeeping s (execIgnoredBroadcast kind s) :=
  .unseen (State.seen_ite rfl (State.seen_ite s.overrun_seen (State.seen_ite s.ignoreBroadcast_seen rfl)))

theorem execReplyStart_keeping : AnswersKeeping s (execReplyStart s) :=
  .unseen (State.seen_ite s.beginReply_seen rfl)

theorem Keeps.afterReply (restart : Bool) : Keeps s (s.afterReply restart) := by
  have hstation := (Keeps.tryStation s).trans (.finishApply _ s)
  unfold State.afterReply
  split
  · exact .resetPart s _
  · dsimp only
    split
    · exact hstation.trans (.applyDone _)
    · exact hstation

theorem execReplySent_keeping : AnswersKeeping s (execReplySent s) := by
  refine .conclude ?_
  split
  · exact (Keeps.of_seen s.endReply_seen).trans (.afterReply _ _)
  · exact .refl s

variable {s} in
/-- An addressed request keeps what the owning block's act keeps (R174, R175). -/
theorem Keeps.request {kind : Nat} {body : List Byte} {act : State → Handled} (h : ∀ t, Keeps t (act t).state) :
    Keeps s (s.request kind body act) := by
  unfold State.request State.takeFrame
  split
  · exact .refl s
  · split
    · exact .of_seen s.overrun_seen
    · have hjudged : Keeps s (s.beginHandling.judgeRequest kind body act).state := by
        unfold State.judgeRequest
        split
        · exact .of_seen s.beginHandling_seen
        · exact (Keeps.of_seen s.beginHandling_seen).trans (h _)
      exact hjudged.congr_seen (State.mapPort_seen _ _)

variable {s} in
/-- A request's command keeps what the act keeps. -/
theorem AnswersKeeping.request {kind : Nat} {body : List Byte} {act : State → State → Handled}
    (h : ∀ t, Keeps t (act s t).state) : AnswersKeeping s (Machine.conclude s fun s => s.request kind body (act s)) :=
  .conclude (.request h)

variable {s} in
/-- An accepted request keeps what its effect keeps. -/
theorem Keeps.accept {t : State} (h : Keeps s t) (body : List Byte) : Keeps s (Machine.accept t body).state := h

variable {s} in
/-- A request that only reads keeps everything. -/
theorem AnswersKeeping.read {kind : Nat} {body : List Byte} {answer : State → State → List Byte} :
    AnswersKeeping s (Machine.conclude s fun s => s.request kind body fun t => Machine.accept t (answer s t)) :=
  .request (act := fun s t => Machine.accept t (answer s t)) fun t => .accept (.refl t) _

/-! ### The acts of the requests -/

theorem execUnknownKind_keeping (kind : Byte) : AnswersKeeping s (execUnknownKind kind s) := by
  refine .conclude ?_
  split
  · exact .refl s
  · exact .request fun t => .refl t

theorem Keeps.readRecord (body : List Byte) : Keeps s (s.readRecord body).state := by
  unfold State.readRecord
  split <;> exact .refl s

theorem Keeps.ackRecord (number : Nat) : Keeps s (s.ackRecord number).state := by
  unfold State.ackRecord
  split
  · exact .refl s
  · split
    · exact .refl s
    · exact .of_seen (State.seen_ite rfl rfl)
    · exact .refl s

theorem Keeps.readSetting (body : List Byte) : Keeps s (s.readSetting body).state := by
  unfold State.readSetting
  dsimp only
  split <;> exact .refl s

theorem Keeps.writeSetting (body : List Byte) : Keeps s (s.writeSetting body).state := by
  unfold State.writeSetting
  dsimp only
  split
  · exact .refl s
  · split
    · exact .refl s
    · exact .of_seen (s.mapPending_seen _)

theorem Keeps.commit : Keeps s s.commit.state := by
  unfold State.commit
  split
  · exact .refl s
  · split
    · exact .refl s
    · split
      · exact .refl s
      · split
        · exact .refl s
        · split
          · exact .refl s
          · exact .accept (.acceptCommit s) _

theorem Keeps.discardPending : Keeps s s.discardPending.state := by
  unfold State.discardPending
  split
  · exact .refl s
  · exact .of_seen ((State.forgetCaptured_seen _ _).trans (s.mapPending_seen _))

theorem Keeps.setProtection (target : Nat) : Keeps s (s.setProtection target).state := by
  unfold State.setProtection
  split
  · exact .changeState s _
  · split
    · exact .changeState s _
    · exact .refl s
  · exact .changeState s _
  · exact .changeState s _
  · exact .refl s

/-- A channel outside capture whose record is replaced, with its zones told. -/
theorem Keeps.handIdle {n : Index} {c : Channel} (hd : (s.channel n).detection ≠ .referencing)
    (h : c.capture = (s.channel n).capture) : Keeps s (s.handChannel (s.setChannel n c) n) :=
  .handChannel rfl (Channel.captureAgrees_of_idle hd h)

theorem Keeps.channelOut (n : Index) : Keeps s (s.channelOut n).state := by
  unfold State.channelOut
  split
  case h_1 | h_2 | h_3 => exact .refl s
  all_goals
    next hd => exact .handIdle s (by rw [hd]; decide) rfl

theorem Keeps.channelIn (n : Index) : Keeps s (s.channelIn n).state := by
  unfold State.channelIn
  split
  case h_3 hd => exact .handIdle s (by rw [hd]; decide) rfl
  all_goals exact .refl s

/-- A channel that begins a capture was OUT, and gives no light before or after (R36). -/
theorem Keeps.captureReference (n : Index) : Keeps s (s.captureReference n).state := by
  unfold State.captureReference
  dsimp only
  split
  case h_8 hd =>
    split
    · exact .refl s
    · refine .setChannel fun _ => ⟨fun _ => rfl, State.setChannel_flags _ ?_ ?_⟩ <;>
        simp [hd, Detection.lightFlag, Detection.evaluated]
  all_goals exact .refl s

theorem Keeps.simulateLight (n : Index) (on : Bool) : Keeps s (s.simulateLight n on).state := by
  unfold State.simulateLight
  split
  · exact .refl s
  · split
    case h_1 | h_2 | h_3 => exact .refl s
    all_goals
      next hd => exact .handIdle s (by rw [hd]; decide) rfl

theorem Keeps.simulateCurrent (m : Index) (on : Bool) : Keeps s (s.simulateCurrent m on).state := by
  unfold State.simulateCurrent
  split
  · exact .refl s
  · show Keeps s (if (s.point m).simulated == on then _ else _)
    split
    · next h => exact .of_seen (s.setPoint_seen m (by rw [← eq_of_beq h]))
    · exact .evaluatePoint m _

theorem Keeps.testTrip (set : List Index) : Keeps s (s.testTrip set).state := by
  unfold State.testTrip
  split
  · exact .refl s
  · split
    · split
      · exact .refl s
      · split
        · exact .refl s
        · exact .of_seen (s.requestOrder_seen _ _ _)
    · exact .refl s

theorem Keeps.cancelOrder (p : Index) : Keeps s (s.cancelOrder p).state := by
  unfold State.cancelOrder
  split
  · exact .refl s
  · split
    · exact .of_seen (s.depart_seen p (fun t => t.recordRelease_apart p) fun t => t.recordRelease_zones p)
    · exact .refl s

theorem State.setPartTime_seen (v : Nat) : (s.setPartTime v).seen = s.seen := by
  simp only [State.seen, State.inputs, State.setPartTime]

theorem State.drawFree_seen : ({ s with freeIndex := s.freeIndex + 1 } : State).seen = s.seen := by
  simp only [State.seen, State.inputs]

theorem State.broadcastTime_seen (body : List Byte) : (s.broadcastTime body).seen = s.seen :=
  State.seen_ite s.ignoreBroadcast_seen (State.seen_ite (State.seen_ite
    ((State.ignoreBroadcast_seen _).trans s.drawFree_seen) s.drawFree_seen) (s.setPartTime_seen _))

theorem execTimeSet_keeping (broadcast : Bool) (body : List Byte) : AnswersKeeping s (execTimeSet broadcast body s) := by
  refine .conclude ?_
  split
  · exact .of_seen (State.seen_ite rfl (State.seen_ite s.overrun_seen (s.broadcastTime_seen body)))
  · exact .request fun t => .accept (.of_seen (t.setPartTime_seen _)) _

/-! ### The requests -/

theorem execIdentify_keeping (body : List Byte) : AnswersKeeping s (execIdentify body s) := .read

theorem execStatus_keeping (body : List Byte) : AnswersKeeping s (execStatus body s) := .read

theorem execReadChannel_keeping (body : List Byte) : AnswersKeeping s (execReadChannel body s) := .read

theorem execReadPoint_keeping (body : List Byte) : AnswersKeeping s (execReadPoint body s) := .read

theorem execReadPosition_keeping (body : List Byte) : AnswersKeeping s (execReadPosition body s) := .read

theorem execReadZone_keeping (body : List Byte) : AnswersKeeping s (execReadZone body s) := .read

theorem execReadOrders_keeping (body : List Byte) : AnswersKeeping s (execReadOrders body s) := .read

theorem execReadPeers_keeping (body : List Byte) : AnswersKeeping s (execReadPeers body s) := .read

theorem execReadRecord_keeping (body : List Byte) : AnswersKeeping s (execReadRecord body s) :=
  .request fun t => .readRecord t body

theorem execAckRecord_keeping (body : List Byte) : AnswersKeeping s (execAckRecord body s) :=
  .request fun t => .ackRecord t _

theorem execFetchNotices_keeping (body : List Byte) : AnswersKeeping s (execFetchNotices body s) :=
  .request fun t => .of_seen (t := t.fetchNotices.state) rfl

theorem execReadSetting_keeping (body : List Byte) : AnswersKeeping s (execReadSetting body s) :=
  .request fun t => .readSetting t body

theorem execWriteSetting_keeping (body : List Byte) : AnswersKeeping s (execWriteSetting body s) :=
  .request fun t => .writeSetting t body

theorem execCommit_keeping (body : List Byte) : AnswersKeeping s (execCommit body s) := .request .commit

theorem execDiscard_keeping (body : List Byte) : AnswersKeeping s (execDiscard body s) := .request .discardPending

theorem execSetState_keeping (body : List Byte) : AnswersKeeping s (execSetState body s) :=
  .request fun t => .setProtection t _

theorem execChannelOut_keeping (body : List Byte) : AnswersKeeping s (execChannelOut body s) :=
  .request fun t => .channelOut t _

theorem execChannelIn_keeping (body : List Byte) : AnswersKeeping s (execChannelIn body s) :=
  .request fun t => .channelIn t _

theorem execCaptureReference_keeping (body : List Byte) : AnswersKeeping s (execCaptureReference body s) :=
  .request fun t => .captureReference t _

theorem execSimulateLight_keeping (body : List Byte) : AnswersKeeping s (execSimulateLight body s) :=
  .request fun t => .simulateLight t _ _

theorem execSimulateCurrent_keeping (body : List Byte) : AnswersKeeping s (execSimulateCurrent body s) :=
  .request fun t => .simulateCurrent t _ _

theorem execTestTrip_keeping (body : List Byte) : AnswersKeeping s (execTestTrip body s) :=
  .request fun t => .testTrip t _

theorem execCancelOrder_keeping (body : List Byte) : AnswersKeeping s (execCancelOrder body s) :=
  .request fun t => .cancelOrder t _

theorem execResetLockout_keeping (body : List Byte) : AnswersKeeping s (execResetLockout body s) :=
  .request fun t => .of_seen (t.clearLockouts_seen _)

theorem execRestart_keeping (body : List Byte) : AnswersKeeping s (execRestart body s) :=
  .request fun t => .accept (.of_seen (t.mapPort_seen _)) _

/-! ### Every command, every step -/

/-- Every command keeps the shape and the zones judged. -/
theorem exec_keeping (c : Instr) : AnswersKeeping s (exec c s) := by
  cases c with
  | powerOn => exact execPowerOn_keeping s
  | powerLoss => exact execPowerLoss_keeping s
  | restartTerminalChange b => exact execRestartTerminalChange_keeping s b
  | restartTerminalPress => exact execRestartTerminalPress_keeping s
  | restartTerminalRelease => exact execRestartTerminalRelease_keeping s
  | startingEnd => exact execStartingEnd_keeping s
  | testTimeout => exact execTestTimeout_keeping s
  | lightSample raw => exact execLightSample_keeping s raw
  | backgroundUpdate => exact execBackgroundUpdate_keeping s
  | supervisionSlot n => exact execSupervisionSlot_keeping s n
  | burstEnd n => exact execBurstEnd_keeping s n
  | captureBurstStart n => exact execCaptureBurstStart_keeping s n
  | captureEnd n => exact execCaptureEnd_keeping s n
  | currentSample samples => exact execCurrentSample_keeping s samples
  | ocHoldExpiry m => exact execOcHoldExpiry_keeping s m
  | cpClear m => exact execCpClear_keeping s m
  | contactRawChange p c on => exact execContactRawChange_keeping s p c on
  | debounceExpiry p c => exact execDebounceExpiry_keeping s p c
  | discrepancyExpiry p => exact execDiscrepancyExpiry_keeping s p
  | minPulseExpiry p => exact execMinPulseExpiry_keeping s p
  | bfDeadline p => exact execBfDeadline_keeping s p
  | driveTimeout p => exact execDriveTimeout_keeping s p
  | lockoutButtonChange b => exact execLockoutButtonChange_keeping s b
  | lockoutResetPress => exact execLockoutResetPress_keeping s
  | lockoutButtonRelease => exact execLockoutButtonRelease_keeping s
  | heartbeatDue => exact execHeartbeatDue_keeping s
  | sendDecide => exact execSendDecide_keeping s
  | telegramStart => exact execTelegramStart_keeping s
  | attemptVoided => exact execAttemptVoided_keeping s
  | startBitSeen => exact execStartBitSeen_keeping s
  | arbitrationLost => exact execArbitrationLost_keeping s
  | bitError b => exact execBitError_keeping s b
  | telegramCompleted => exact execTelegramCompleted_keeping s
  | telegramReceived bits => exact execTelegramReceived_keeping s bits
  | lineDisturbance bits => exact execLineDisturbance_keeping s bits
  | peerSilenceExpiry u => exact execPeerSilenceExpiry_keeping s u
  | suspensionEnd => exact execSuspensionEnd_keeping s
  | duplicateAlarmExpiry => exact execDuplicateAlarmExpiry_keeping s
  | channelGroupApply n => exact execChannelGroupApply_keeping s n
  | pointGroupApply m => exact execPointGroupApply_keeping s m
  | topologyGroupApply => exact execTopologyGroupApply_keeping s
  | linkGroupApply => exact execLinkGroupApply_keeping s
  | storeWriteBegin => exact execStoreWriteBegin_keeping s
  | storeWriteEnd o => exact execStoreWriteEnd_keeping s o
  | frameGapTimeout read => exact execFrameGapTimeout_keeping s read
  | framingDiscard cause read => exact execFramingDiscard_keeping s cause read
  | frameCheckFailure => exact execFrameCheckFailure_keeping s
  | foreignFrame address kind => exact execForeignFrame_keeping s address kind
  | overrunDiscard => exact execOverrunDiscard_keeping s
  | ignoredBroadcast kind => exact execIgnoredBroadcast_keeping s kind
  | unknownKind kind => exact execUnknownKind_keeping s kind
  | replyStart => exact execReplyStart_keeping s
  | replySent => exact execReplySent_keeping s
  | identify body => exact execIdentify_keeping s body
  | status body => exact execStatus_keeping s body
  | readChannel body => exact execReadChannel_keeping s body
  | readPoint body => exact execReadPoint_keeping s body
  | readPosition body => exact execReadPosition_keeping s body
  | readZone body => exact execReadZone_keeping s body
  | readOrders body => exact execReadOrders_keeping s body
  | readPeers body => exact execReadPeers_keeping s body
  | readRecord body => exact execReadRecord_keeping s body
  | ackRecord body => exact execAckRecord_keeping s body
  | fetchNotices body => exact execFetchNotices_keeping s body
  | readSetting body => exact execReadSetting_keeping s body
  | writeSetting body => exact execWriteSetting_keeping s body
  | commit body => exact execCommit_keeping s body
  | discard body => exact execDiscard_keeping s body
  | setState body => exact execSetState_keeping s body
  | channelOut body => exact execChannelOut_keeping s body
  | channelIn body => exact execChannelIn_keeping s body
  | captureReference body => exact execCaptureReference_keeping s body
  | simulateLight body => exact execSimulateLight_keeping s body
  | simulateCurrent body => exact execSimulateCurrent_keeping s body
  | testTrip body => exact execTestTrip_keeping s body
  | cancelOrder body => exact execCancelOrder_keeping s body
  | resetLockout body => exact execResetLockout_keeping s body
  | timeSet broadcast body => exact execTimeSet_keeping s broadcast body
  | restart body => exact execRestart_keeping s body

/-- Every step keeps the shape and the zones judged. -/
theorem step_keeping : AnswersKeeping s (step s) := by
  unfold step
  split
  · exact .next (.of_seen (State.seen_ite (s.advanceTo_seen _) rfl))
  · next c rest _ =>
    intro t ht
    exact (Keeps.of_seen rfl).trans (exec_keeping { s with pending := rest } c t ht)

/-- Settles O10: every step keeps both rules, since each command that changes an input of the zones has the zones it bears
on evaluated before it ends. -/
theorem everyZoneStaysJudged : Obligations.EveryZoneStaysJudged :=
  ⟨fun s hs t ht => (step_keeping s t ht).1 hs, fun s hs t ht => (step_keeping s t ht).2 hs⟩

end Sys2Proof.Machine
end

section
/-! The bounds of one channel record (R3, R7, R26), and every operation on a record that keeps them. -/

namespace Sys2Proof.Machine

open Wire

/-- `Channel.within`, each bound under a name of its own. -/
structure Channel.Bounded (c : Channel) (ceiling : Nat) : Prop where
  gainLow : 256 ≤ c.gain
  gainHigh : c.gain ≤ ceiling
  background : c.background ≤ 4095
  lastValue : c.lastValue ≤ 4095
  tally : c.evaluatedSum ≤ 4095 * c.evaluated
  strikes : c.strikeCount ≤ 3
  passes : c.passRun ≤ 3
  pickups : c.pickupCount ≤ 8
  drops : c.drops ≤ 10
  litSince : c.litSince.isSome → c.detection = .lit ∨ c.detection = .steady
  capture : c.capture.isSome → c.detection = .referencing

theorem Channel.within_iff_bounded {c : Channel} {ceiling : Nat} : c.within ceiling ↔ c.Bounded ceiling := by
  constructor
  · rintro ⟨h1, h2, h3, h4, h5, h6, h7, h8, h9, h10, h11⟩
    exact ⟨h1, h2, h3, h4, h5, h6, h7, h8, h9, h10, h11⟩
  · rintro ⟨h1, h2, h3, h4, h5, h6, h7, h8, h9, h10, h11⟩
    exact ⟨h1, h2, h3, h4, h5, h6, h7, h8, h9, h10, h11⟩

/-- The ceilings of R2, in the form in which the rule on channels writes them. -/
theorem ChannelKind.ceiling_eq (k : ChannelKind) : k.ceiling = if k = .point then 512 else 1024 := by cases k <;> rfl

theorem ChannelKind.ceiling_le (k : ChannelKind) : k.ceiling ≤ 1024 := by cases k <;> decide

theorem ChannelKind.le_ceiling (k : ChannelKind) : 256 ≤ k.ceiling := by cases k <;> decide

/-- A compensated sample never exceeds 4095 (R5). -/
theorem compensate_le (raw gain : Nat) : compensate raw gain ≤ 4095 := Nat.min_le_left _ _

/-- The step of R15 goes no farther than the mean. -/
theorem backgroundStep_le {b m : Nat} (hb : b ≤ 4095) (hm : m ≤ 4095) : backgroundStep b m ≤ 4095 := by
  unfold backgroundStep
  split
  · omega
  · split <;> omega

namespace Channel.Bounded

variable {c : Channel} {k : ChannelKind} {ceiling : Nat}

/-- A record of after a restart is within every ceiling (R24, R26). -/
theorem fresh (used : Bool) (h : 256 ≤ ceiling) : (Channel.fresh used).Bounded ceiling := by
  constructor <;> simp [Channel.fresh, h]

theorem mono (h : c.Bounded ceiling) {ceiling' : Nat} (hle : ceiling ≤ ceiling') : c.Bounded ceiling' :=
  { h with gainHigh := h.gainHigh.trans hle }

section

variable (h : c.Bounded ceiling)
include h

/-- Outside LIT and STEADY lit since is absent (R3). -/
theorem litSince_none (hl : c.detection ≠ .lit) (hs : c.detection ≠ .steady) : c.litSince = none := by
  by_contra hne
  exact (h.litSince (Option.isSome_iff_ne_none.mpr hne)).elim hl hs

/-- Outside REFERENCING no capture runs (R19). -/
theorem capture_none (hd : c.detection ≠ .referencing) : c.capture = none := by
  by_contra hne
  exact hd (h.capture (Option.isSome_iff_ne_none.mpr hne))

/-- A change of detection state between states outside LIT, STEADY and REFERENCING. -/
theorem redetected (d : Detection) (hl : c.detection ≠ .lit) (hs : c.detection ≠ .steady)
    (hr : c.detection ≠ .referencing) : ({ c with detection := d } : Channel).Bounded ceiling :=
  { h with
    litSince := fun hc => by simp [h.litSince_none hl hs] at hc
    capture := fun hc => by simp [h.capture_none hr] at hc }

/-! ### Samples (R4 to R15) -/

theorem taken {l : Nat} (hl : l ≤ 4095) : ({ c with lastValue := l } : Channel).Bounded ceiling :=
  { h with lastValue := hl }

theorem tallied (θ : Nat) {l : Nat} (hl : l ≤ 4095) : (c.tally θ l).Bounded ceiling :=
  { h with tally := by have := h.tally; simp only [Channel.tally]; omega }

theorem enterLit (now : PartTime) (hr : c.detection ≠ .referencing) : (c.enterLit now).Bounded ceiling :=
  { h with
    pickups := Nat.zero_le _
    drops := Nat.zero_le _
    litSince := fun _ => .inl rfl
    capture := fun hc => by simp [Channel.enterLit, h.capture_none hr] at hc }

/-- Qualification keeps the bounds where K is at most 8 (R8 to R11). -/
theorem qualify (θ l : Nat) (now : PartTime) {count : Nat} (hk : count ≤ 8) :
    (c.qualify θ count l now).Bounded ceiling := by
  unfold Channel.qualify
  split
  case h_1 hd =>
    split
    · split
      · exact h.enterLit now (by simp [hd])
      · exact { h.redetected .pickup (by simp [hd]) (by simp [hd]) (by simp [hd]) with
          pickups := show 1 ≤ 8 by decide }
    · exact { h with pickups := Nat.zero_le _ }
  case h_2 hd =>
    split
    · split
      · exact h.enterLit now (by simp [hd])
      · exact { h with pickups := show c.pickupCount + 1 ≤ 8 by omega }
    · exact { h.redetected .dark (by simp [hd]) (by simp [hd]) (by simp [hd]) with pickups := Nat.zero_le _ }
  case h_3 | h_4 =>
    next hd =>
    have hnone : c.capture = none := h.capture_none (by simp [hd])
    generalize (if l < dropLevel θ then c.drops + 1 else 0) = drops
    dsimp only
    split
    · exact { h with
        pickups := Nat.zero_le _
        drops := Nat.zero_le _
        litSince := fun hc => by simp at hc
        capture := fun hc => by simp [hnone] at hc }
    · next hdrops =>
      have hle : drops ≤ 10 := by simp only [Config.dropCount] at hdrops; omega
      split
      · exact { h with
          drops := hle
          litSince := fun _ => .inr rfl
          capture := fun hc => by simp [hnone] at hc }
      · exact { h with drops := hle }
  all_goals exact h

/-- The background moves towards a mean of values up to 4095 (R14, R15). -/
theorem endInterval (used : Bool) : (c.endInterval used).Bounded ceiling :=
  { h with
    background := by
      have hmean : c.evaluatedSum / c.evaluated ≤ 4095 := Nat.div_le_of_le_mul (by rw [Nat.mul_comm]; exact h.tally)
      simp only [Channel.endInterval]
      split
      · exact backgroundStep_le h.background hmean
      · exact h.background
    tally := Nat.zero_le _ }

/-! ### Supervision (R26 to R38) -/

theorem takeSlot (second : Nat) : (c.takeSlot second).Bounded ceiling := by
  unfold Channel.takeSlot
  dsimp only
  split
  case h_1 | h_2 | h_3 => split <;> exact { h with }
  all_goals exact { h with }

theorem strike (r : BurstResult) : (c.strike r).Bounded ceiling := by
  have hmin (n : Nat) : min 3 n ≤ 3 := Nat.min_le_left 3 n
  have hcount (b : Bool) : (if b then min 3 (c.strikeCount + 1) else 1) ≤ 3 := by split <;> omega
  cases r with
  | pass => exact { h with strikes := Nat.zero_le _, passes := hmin _ }
  | failDim => exact { h with strikes := hcount _, passes := Nat.zero_le _ }
  | failBroken => exact { h with strikes := hcount _, passes := Nat.zero_le _ }

theorem countResult (r : BurstResult) : (c.countResult r).Bounded ceiling := by cases r <;> exact { h with }

/-- Health suspends a DARK channel and brings a SUSPENDED one back (R16). -/
theorem takeHealth (g : Health) : (c.takeHealth g).Bounded ceiling := by
  have hcount (b : Bool) {n m : Nat} (hn : n ≤ m) : (if b then 0 else n) ≤ m := by split <;> omega
  refine { h with
    pickups := hcount _ h.pickups, drops := hcount _ h.drops, litSince := fun hc => ?_, capture := fun hc => ?_ }
  · rcases h.litSince hc with hd | hd <;> simp [Channel.takeHealth, hd]
  · simp [Channel.takeHealth, h.capture hc]

/-- The capture itself goes on, on a channel in capture (R37). -/
theorem captured (k : Capture) (hc : c.capture.isSome) : ({ c with capture := some k } : Channel).Bounded ceiling :=
  { h with capture := fun _ => h.capture hc }

/-- The capture ends and the channel is OUT (R19). -/
theorem endCapture (hc : c.capture.isSome) : ({ c with capture := none, detection := .out } : Channel).Bounded ceiling :=
  { h with
    litSince := fun hl => by rcases h.litSince hl with hd | hd <;> simp [h.capture hc] at hd
    capture := fun hn => by simp at hn }

/-- A capture begins on a channel that was OUT (R36). -/
theorem beginCapture (k : Capture) (hd : c.detection = .out) :
    ({ c with detection := .referencing, capture := some k } : Channel).Bounded ceiling :=
  { h.redetected .referencing (by simp [hd]) (by simp [hd]) (by simp [hd]) with capture := fun _ => rfl }

/-! ### Requests (R17, R18) -/

theorem takeOut (hr : c.detection ≠ .referencing) : c.takeOut.Bounded ceiling :=
  { h with
    pickups := Nat.zero_le _
    drops := Nat.zero_le _
    litSince := fun hc => by simp [Channel.takeOut] at hc
    capture := fun hc => by simp [Channel.takeOut, h.capture_none hr] at hc }

theorem bringIn (hd : c.detection = .out) : c.bringIn.Bounded ceiling :=
  { h.redetected (if c.health == .broken then .suspended else .dark) (by simp [hd]) (by simp [hd]) (by simp [hd]) with
    pickups := Nat.zero_le _
    drops := Nat.zero_le _ }

end

/-- A return sets a gain from 256 to the ceiling of the kind (R32). -/
theorem endBurst {q : ChannelSettings} (h : c.Bounded q.kind.ceiling) (sum : Nat) (now : PartTime) :
    (c.endBurst q sum now).Bounded q.kind.ceiling := by
  have hs := (h.countResult (classify q.kind q.reference (sum / 4))).strike (classify q.kind q.reference (sum / 4))
  have hgain : 256 ≤ gainOf q.kind q.reference (sum / 4) ∧ gainOf q.kind q.reference (sum / 4) ≤ q.kind.ceiling := by
    have := q.kind.le_ceiling
    unfold gainOf
    omega
  refine { hs with gainLow := ?_, gainHigh := ?_ }
  · simp only [Channel.endBurst]
    split
    · exact hs.gainLow
    · exact hgain.1
  · simp only [Channel.endBurst]
    split
    · exact hs.gainHigh
    · exact hgain.2

/-- A channel brought into use starts afresh, but for its last value and the interval's tally (R22). -/
theorem appliedUsed {after : ChannelKind} (h : c.Bounded ceiling) (hr : c.detection ≠ .referencing)
    (hu : after ≠ .unused) : (c.applied .unused after).Bounded after.ceiling := by
  have hnone := h.capture_none hr
  have hlow := after.le_ceiling
  cases after with
  | unused => exact absurd rfl hu
  | loop | point =>
    exact { h with
      gainLow := le_refl 256, gainHigh := hlow, background := Nat.zero_le _, strikes := Nat.zero_le _
      passes := Nat.zero_le _, pickups := Nat.zero_le _, drops := Nat.zero_le _
      litSince := fun hl => by simp [Channel.applied] at hl
      capture := fun hs => by simp [Channel.applied, hnone] at hs }

/-- A channel taken out of use (R22). -/
theorem appliedUnused {before : ChannelKind} (h : c.Bounded before.ceiling) :
    (c.applied before .unused).Bounded ChannelKind.unused.ceiling := by
  have hwide : c.gain ≤ 1024 := h.gainHigh.trans before.ceiling_le
  cases before with
  | unused => exact { h with }
  | loop | point =>
    exact { h with
      gainHigh := hwide, pickups := Nat.zero_le _, drops := Nat.zero_le _
      litSince := fun hl => by simp [Channel.applied] at hl
      capture := fun hs => by simp [Channel.applied] at hs }

/-- The application of a group outside capture leaves the gain within the new kind's ceiling (R22). -/
theorem applied {before after : ChannelKind} (h : c.Bounded before.ceiling) (hr : c.detection ≠ .referencing) :
    (c.applied before after).Bounded after.ceiling := by
  cases before with
  | unused =>
    cases after with
    | unused => exact h.appliedUnused
    | loop | point => exact h.appliedUsed hr (by decide)
  | loop =>
    cases after with
    | unused => exact h.appliedUnused
    | loop => exact { h with }
    | point =>
      exact { h with
        gainLow := show 256 ≤ min 512 c.gain by have := h.gainLow; omega
        gainHigh := Nat.min_le_left _ _ }
  | point =>
    cases after with
    | unused => exact h.appliedUnused
    | loop => exact { h with gainHigh := h.gainHigh.trans ChannelKind.point.ceiling_le }
    | point => exact { h with }

end Channel.Bounded

end Sys2Proof.Machine
end

section
/-! The rule on channels reads the channel records and the channel settings alone: `State.channelView`. What leaves that
view alone keeps the rule, and so does each operation that replaces a record within its bounds. -/

namespace Sys2Proof.Machine

open Wire

variable {s t u : State}

/-! ### What the rule reads -/

/-- The channel records, the channel settings of the active and the pending set, and the commit image. -/
def State.channelView (s : State) : List Channel × List ChannelSettings × List ChannelSettings × Option Settings :=
  (s.light.channels, s.settings.active.channels, s.settings.pending.channels, s.settings.image)

theorem State.channelView_of_parts (hl : t.light = s.light) (hs : t.settings = s.settings) :
    t.channelView = s.channelView := by simp only [State.channelView, hl, hs]

/-- An operation of the decision path leaves the view alone. -/
theorem State.channelView_of_apart (h : t.apart = s.apart) : t.channelView = s.channelView :=
  State.channelView_of_parts (congrArg (fun u : State => u.light) h :) (congrArg (fun u : State => u.settings) h :)

/-- Both branches leave the view alone. -/
theorem State.channelView_ite {p : Prop} [Decidable p] (ht : t.channelView = s.channelView)
    (hu : u.channelView = s.channelView) : (if p then t else u).channelView = s.channelView := by
  split
  · exact ht
  · exact hu

/-- Repeated operations that leave the view alone leave it alone together. -/
theorem foldl_channelView {α : Type} (f : State → α → State) (h : ∀ t x, (f t x).channelView = t.channelView)
    (l : List α) (s : State) : (l.foldl f s).channelView = s.channelView :=
  List.foldlRecOn (motive := fun t => t.channelView = s.channelView) l f rfl fun t ht x _ => (h t x).trans ht

/-! ### Settings (R165) -/

/-- A channel group whose K is at most 8 and whose θ_set is at most 4000. -/
def ChannelSettings.bounded (k : ChannelSettings) : Prop := k.qualify ≤ 8 ∧ k.pickup ≤ 4000

theorem ChannelSettings.factory_bounded : ChannelSettings.factory.bounded :=
  show 3 ≤ 8 ∧ 1200 ≤ 4000 by decide

theorem Settings.factory_channelsBounded : Settings.factory.channelsBounded := fun _ hk =>
  (List.eq_of_mem_replicate hk).symm ▸ ChannelSettings.factory_bounded

/-- An object of a list has what all its entries and the default have. -/
theorem item_forall {α : Type} {P : α → Prop} {l : List α} {d : α} (hl : ∀ x ∈ l, P x) (hd : P d) (n : Index) :
    P (item l d n) := by
  cases n with
  | zero => exact hd
  | succ k =>
    simp only [item, List.getD_eq_getElem?_getD]
    cases h : l[k]? with
    | none => exact hd
    | some x => exact hl x (List.mem_of_getElem? h)

/-- Every entry of a list with one replaced has what the others and the new one have. -/
theorem put_forall {α : Type} {P : α → Prop} {l : List α} {v : α} (hl : ∀ x ∈ l, P x) (hv : P v) (n : Index) :
    ∀ x ∈ put l n v, P x := by
  cases n with
  | zero => exact hl
  | succ k => exact fun x hx => (List.mem_or_eq_of_mem_set hx).elim (hl x) fun h => h ▸ hv

/-- An entry replaced reads as the new value, or there is none of that number. -/
theorem item_put_self_cases {α : Type} (l : List α) (d v : α) (n : Index) :
    item (put l n v) d n = v ∨ item (put l n v) d n = d := by
  cases n with
  | zero => exact .inr rfl
  | succ k =>
    rcases Nat.lt_or_ge k l.length with hk | hk
    · exact .inl (item_put_same l d v (Nat.succ_pos k) hk)
    · exact .inr (by simp [put, item, hk])

theorem Settings.channelsBounded.item {c : Settings} (h : c.channelsBounded) (n : Index) :
    (item c.channels .factory n).bounded :=
  item_forall (P := ChannelSettings.bounded) h ChannelSettings.factory_bounded n

theorem Settings.channelsBounded.put {c : Settings} (h : c.channelsBounded) (n : Index) {k : ChannelSettings}
    (hk : k.bounded) : ({ c with channels := put c.channels n k } : Settings).channelsBounded :=
  put_forall (P := ChannelSettings.bounded) h hk n

/-- An image loaded from the store has every item within its values (R172). -/
theorem Settings.channelsBounded_of_ok {c : Settings} (h : c.ok = true) : c.channelsBounded := by
  intro k hk
  have hall : c.channels.all ChannelSettings.ok = true := by
    simp only [Settings.ok, Bool.and_eq_true] at h
    tauto
  have hok := List.all_eq_true.mp hall k hk
  simp only [ChannelSettings.ok, within, Bool.and_eq_true, decide_eq_true_eq] at hok
  omega

/-- The forms of θ_set and of K (R185). -/
theorem itemForm_pickup (i : Nat) : itemForm 1 i 2 = if 1 ≤ i && i ≤ 16 then some (.number 200 4000) else none := rfl
theorem itemForm_qualify (i : Nat) : itemForm 1 i 4 = if 1 ≤ i && i ≤ 16 then some (.number 1 8) else none := rfl

/-- A number is stored clamped to its range (R166). -/
theorem stored_le {low high v w : Nat} {f : ItemForm} {p : Prop} [Decidable p]
    (hf : (if p then some (ItemForm.number low high) else none) = some f) (hw : f.stored v = some w) (hl : low ≤ high) :
    w ≤ high := by
  split at hf
  · cases hf
    cases hw
    omega
  · cases hf

/-- A WRITE_SETTING stores K and θ_set within their ranges (R166). -/
theorem Settings.channelsBounded.set {c : Settings} (h : c.channelsBounded) {g i k v w : Nat} {f : ItemForm}
    (hf : itemForm g i k = some f) (hw : f.stored v = some w) : (c.set g i k w).channelsBounded := by
  unfold Settings.set
  split
  case h_1 =>
    obtain ⟨hq, hp⟩ := h.item i
    refine h.put i ?_
    split
    · exact ⟨hq, hp⟩
    · exact ⟨hq, stored_le ((itemForm_pickup i).symm.trans hf) hw (by decide)⟩
    · exact ⟨hq, hp⟩
    · exact ⟨stored_le ((itemForm_qualify i).symm.trans hf) hw (by decide), hp⟩
    · exact ⟨hq, hp⟩
    · exact ⟨hq, hp⟩
  case h_6 =>
    split
    · split <;> exact h
    · exact h
  case h_7 => split <;> exact h
  all_goals exact h

/-- The settings that channels take their bounds from are within theirs: active, pending and commit image. -/
def State.settingsBounded (s : State) : Prop :=
  s.settings.active.channelsBounded ∧ s.settings.pending.channelsBounded ∧ ∀ c ∈ s.settings.image, c.channelsBounded

/-- The commit image, or the pending set in its place. -/
theorem State.settingsBounded.image (h : s.settingsBounded) : s.image.channelsBounded := by
  obtain ⟨-, hp, hi⟩ := h
  unfold State.image
  cases hc : s.settings.image with
  | none => exact hp
  | some c => exact hi c hc

/-! ### The rule -/

/-- θ lies from θ_set to 4000 of itself (R6, R7), so the rule is one on the settings and the records. -/
theorem State.channelsWithin_iff : s.channelsWithin ↔
    s.settingsBounded ∧ ∀ n ∈ upTo 16, (s.channel n).Bounded (s.channelSet n).kind.ceiling := by
  unfold State.channelsWithin
  simp only [Channel.within_iff_bounded, ← ChannelKind.ceiling_eq]
  constructor
  · rintro ⟨ha, hp, hi, hc⟩
    exact ⟨⟨ha, hp, hi⟩, fun n hn => (hc n hn).1⟩
  · rintro ⟨⟨ha, hp, hi⟩, hc⟩
    refine ⟨ha, hp, hi, fun n hn => ⟨hc n hn, ?_, Nat.min_le_left _ _⟩⟩
    have hset : (s.channelSet n).pickup ≤ 4000 := (ha.item n).2
    unfold State.threshold ChannelSettings.threshold
    omega

theorem State.channelsWithin.of_view (hs : s.channelsWithin) (h : t.channelView = s.channelView) : t.channelsWithin := by
  simp only [State.channelView, Prod.mk.injEq] at h
  obtain ⟨hl, ha, hp, hi⟩ := h
  have hc (n : Index) : t.channel n = s.channel n := by unfold State.channel; rw [hl]
  have hk (n : Index) : t.channelSet n = s.channelSet n := by unfold State.channelSet; rw [ha]
  rw [State.channelsWithin_iff] at hs ⊢
  unfold State.settingsBounded Settings.channelsBounded at hs ⊢
  simpa only [hc, hk, ha, hp, hi] using hs

/-- What is proved of every operation: with the rule before it, the rule holds after it. -/
def KeepsWithin (s t : State) : Prop := s.channelsWithin → t.channelsWithin

namespace KeepsWithin

theorem refl (s : State) : KeepsWithin s s := id

theorem trans (h : KeepsWithin s t) (h' : KeepsWithin t u) : KeepsWithin s u := h' ∘ h

theorem of_view (h : t.channelView = s.channelView) : KeepsWithin s t := fun hs => hs.of_view h

/-- Only the view matters. -/
theorem congr_view (h : KeepsWithin s t) (hu : u.channelView = t.channelView) : KeepsWithin s u := h.trans (of_view hu)

theorem congr_apart (h : KeepsWithin s t) (hu : u.apart = t.apart) : KeepsWithin s u :=
  h.congr_view (State.channelView_of_apart hu)

theorem foldl {α : Type} {f : State → α → State} (h : ∀ t x, KeepsWithin t (f t x)) (l : List α) (s : State) :
    KeepsWithin s (l.foldl f s) := List.foldlRecOn (motive := KeepsWithin s) l f (refl s) fun t ht x _ => ht.trans (h t x)

/-- A record replaced by one within the same ceiling. -/
theorem setChannel {n : Index} {c : Channel}
    (h : s.settingsBounded → (s.channel n).Bounded (s.channelSet n).kind.ceiling →
      c.Bounded (s.channelSet n).kind.ceiling) :
    KeepsWithin s (s.setChannel n c) := by
  intro hs
  rw [State.channelsWithin_iff] at hs ⊢
  obtain ⟨hb, hc⟩ := hs
  refine ⟨hb, fun k hk => ?_⟩
  rcases item_put_cases s.light.channels (.fresh false) c n k with hr | ⟨rfl, hr⟩
  · rw [show (s.setChannel n c).channel k = s.channel k from hr]
    exact hc k hk
  · rw [show (s.setChannel k c).channel k = c from hr]
    exact h hb (hc k hk)

/-- Whatever the decision path makes of a channel's change (R12). -/
theorem handChannel (h : KeepsWithin s t) (v : State) (n : Index) : KeepsWithin s (v.handChannel t n) :=
  h.congr_apart (v.handChannel_apart t n)

/-- Settings changed, the active ones not in their channel groups. -/
theorem settings {f : SettingsUnit} (ha : f.active.channels = s.settings.active.channels)
    (h : s.settingsBounded → f.pending.channelsBounded ∧ ∀ c ∈ f.image, c.channelsBounded) :
    KeepsWithin s { s with settings := f } := by
  intro hs
  rw [State.channelsWithin_iff] at hs ⊢
  obtain ⟨hb, hc⟩ := hs
  have hk (n : Index) : State.channelSet { s with settings := f } n = s.channelSet n := by unfold State.channelSet; rw [ha]
  have hactive : f.active.channelsBounded := by unfold Settings.channelsBounded; rw [ha]; exact hb.1
  exact ⟨⟨hactive, h hb⟩, fun n hn => by rw [hk]; exact hc n hn⟩

end KeepsWithin

end Sys2Proof.Machine
end

section
/-! What the shared operations do to the channel view, and the shared operations that change it within the rule: changes of
protection state (R159), the staged application (R168, R169), the store's writes and a restart (R164, R172). -/

namespace Sys2Proof.Machine

open Wire

variable (s : State)

/-! ### Operations that leave the view alone -/

@[simp] theorem State.post_channelView (k : NoticeKind) (a b : Nat) : (s.post k a b).channelView = s.channelView := rfl
@[simp] theorem State.mapPort_channelView (f : Port → Port) : (s.mapPort f).channelView = s.channelView := rfl
@[simp] theorem State.countPort_channelView (f : PortCounters → PortCounters) :
    (s.countPort f).channelView = s.channelView := rfl
@[simp] theorem State.mapLink_channelView (f : Link → Link) : (s.mapLink f).channelView = s.channelView := rfl
@[simp] theorem State.countLink_channelView (f : LinkCounters → LinkCounters) :
    (s.countLink f).channelView = s.channelView := rfl
@[simp] theorem State.mapPeer_channelView (u : Index) (f : Peer → Peer) : (s.mapPeer u f).channelView = s.channelView := rfl
@[simp] theorem State.mapWaiting_channelView (f : Waiting → Waiting) : (s.mapWaiting f).channelView = s.channelView := rfl
@[simp] theorem State.setPoint_channelView (m : Index) (p : Point) : (s.setPoint m p).channelView = s.channelView := rfl
@[simp] theorem State.setPosition_channelView (p : Index) (q : Position) :
    (s.setPosition p q).channelView = s.channelView := rfl
@[simp] theorem State.setPartTime_channelView (v : Nat) : (s.setPartTime v).channelView = s.channelView := rfl

@[simp] theorem State.advanceTo_channelView (t : Instant) : (s.advanceTo t).channelView = s.channelView := by
  rw [s.advanceTo_eq t]
  rfl

@[simp] theorem settle_channelView (t : State) : (settle s t).channelView = t.channelView :=
  State.channelView_of_apart (settle_apart s t)

@[simp] theorem State.clearLockouts_channelView (ps : List Index) : (s.clearLockouts ps).channelView = s.channelView :=
  State.channelView_of_apart (s.clearLockouts_apart ps)
@[simp] theorem State.release_channelView (p : Index) : (s.release p).channelView = s.channelView :=
  State.channelView_of_apart (s.release_apart p)
@[simp] theorem State.confirm_channelView (o : Order) : (s.confirm o).channelView = s.channelView :=
  State.channelView_of_apart (s.confirm_apart o)
@[simp] theorem State.judgeOrder_channelView (p : Index) : (s.judgeOrder p).channelView = s.channelView :=
  State.channelView_of_apart (s.judgeOrder_apart p)
@[simp] theorem State.judgeAttached_channelView (o : Option Index) : (s.judgeAttached o).channelView = s.channelView :=
  State.channelView_of_apart (s.judgeAttached_apart o)
@[simp] theorem State.requestOrder_channelView (p : Index) (c : Cause) (a : Attribute) :
    (s.requestOrder p c a).channelView = s.channelView := State.channelView_of_apart (s.requestOrder_apart p c a)
@[simp] theorem State.requestEdge_channelView (u p : Index) : (s.requestEdge u p).channelView = s.channelView :=
  State.channelView_of_apart (s.requestEdge_apart u p)
@[simp] theorem State.failOrder_channelView (o : Order) : (s.failOrder o).channelView = s.channelView :=
  State.channelView_of_apart (s.failOrder_apart o)
@[simp] theorem State.stallOrder_channelView (o : Order) : (s.stallOrder o).channelView = s.channelView :=
  State.channelView_of_apart (s.stallOrder_apart o)
@[simp] theorem State.evaluateAll_channelView : s.evaluateAll.channelView = s.channelView :=
  State.channelView_of_apart s.evaluateAll_apart
@[simp] theorem State.evaluatePoint_channelView (m : Index) : (s.evaluatePoint m).channelView = s.channelView :=
  State.channelView_of_apart (s.evaluatePoint_apart m)
@[simp] theorem State.recompute_channelView : s.recompute.channelView = s.channelView :=
  State.channelView_of_apart s.recompute_apart
@[simp] theorem State.reconfirm_channelView : s.reconfirm.channelView = s.channelView :=
  State.channelView_of_apart s.reconfirm_apart
@[simp] theorem State.replaceSets_channelView : s.replaceSets.channelView = s.channelView :=
  State.channelView_of_apart s.replaceSets_apart
@[simp] theorem State.handLinkInputs_channelView (t : State) : (s.handLinkInputs t).channelView = t.channelView :=
  State.channelView_of_apart (s.handLinkInputs_apart t)
@[simp] theorem State.handPoint_channelView (t : State) (m : Index) : (s.handPoint t m).channelView = t.channelView :=
  State.channelView_of_apart (s.handPoint_apart t m)

@[simp] theorem State.derive_channelView (p : Index) : (s.derive p).channelView = s.channelView := by
  unfold State.derive
  dsimp only
  split <;> simp

@[simp] theorem State.derivePosition_channelView (p : Index) : (s.derivePosition p).channelView = s.channelView :=
  (State.channelView_of_apart (s.derivePosition_apart p)).trans (s.derive_channelView p)

@[simp] theorem State.rederive_channelView (old : TopologySettings) (p : Index) :
    (s.rederive old p).channelView = s.channelView := by
  unfold State.rederive
  dsimp only
  simp

/-! ### The cross link (R132 to R138) -/

@[simp] theorem State.takePeer_channelView (p : Peer) (c : Content) : (s.takePeer p c).channelView = s.channelView := by
  have edges (ps : List Index) (u : State) :
      (ps.foldl (fun v q => v.requestEdge p.unit q) u).channelView = u.channelView :=
    foldl_channelView _ (fun v q => v.requestEdge_channelView p.unit q) ps u
  have heard : (if p.state == .live then s else s.post .peerState p.unit PeerState.live.code).channelView =
      s.channelView := State.channelView_ite rfl rfl
  unfold State.takePeer
  dsimp only
  split <;> simp only [edges, State.handLinkInputs_channelView, State.mapPeer_channelView, heard]

@[simp] theorem State.takeDuplicate_channelView : s.takeDuplicate.channelView = s.channelView := by
  unfold State.takeDuplicate
  dsimp only
  exact (State.mapLink_channelView _ _).trans (State.channelView_ite rfl rfl)

@[simp] theorem State.judgeTelegram_channelView (bits : List Bit) : (s.judgeTelegram bits).channelView = s.channelView := by
  unfold State.judgeTelegram
  split
  · rfl
  · split
    · rfl
    · dsimp only
      split
      · simp
      · split <;> simp

@[simp] theorem State.startBit_channelView : s.startBit.channelView = s.channelView := by
  have hadv : s.toStartBit.channelView = s.channelView := s.advanceTo_channelView _
  unfold State.startBit
  dsimp only
  split
  · exact hadv
  · exact State.channelView_ite hadv hadv

/-! ### The protection state (R153) -/

/-- Clearing the simulations changes no bound (R21, R51). -/
theorem KeepsWithin.clearSimulations : KeepsWithin s s.clearSimulations := by
  intro hs
  rw [State.channelsWithin_iff] at hs ⊢
  obtain ⟨hb, hc⟩ := hs
  refine ⟨hb, fun n hn => ?_⟩
  have hch : s.clearSimulations.channel n = { s.channel n with simulated := false } :=
    item_map (fun c : Channel => ({ c with simulated := false } : Channel)) s.light.channels (.fresh false) n
  rw [hch]
  exact { hc n hn with }

theorem KeepsWithin.changeState (new : Protection) : KeepsWithin s (s.changeState new) := by
  unfold State.changeState
  dsimp only
  split
  · exact ((KeepsWithin.of_view (by rfl)).trans (.clearSimulations _)).congr_apart
      ((State.evaluateAll_apart _).trans (State.withdrawDry_apart _))
  · exact (KeepsWithin.of_view (by rfl)).congr_view (State.evaluateAll_channelView _)

/-! ### The staged application (R167 to R169) -/

/-- A channel takes its bounds from its new group (R22, R23). -/
theorem KeepsWithin.applyChannel (n : Index) {new : ChannelSettings} (hnew : s.settingsBounded → new.bounded)
    (hr : (s.channel n).detection ≠ .referencing) : KeepsWithin s (s.applyChannel n new) := by
  refine KeepsWithin.handChannel (t := (s.mapActive fun c => { c with channels := put c.channels n new }).setChannel n
    ((s.channel n).applied (s.channelSet n).kind new.kind)) (fun hs => ?_) s n
  rw [State.channelsWithin_iff] at hs ⊢
  obtain ⟨hb, hc⟩ := hs
  have hbounded := hnew hb
  obtain ⟨ha, hp, hi⟩ := hb
  refine ⟨⟨ha.put n hbounded, hp, hi⟩, fun k hk => ?_⟩
  show (item (put s.light.channels n _) (.fresh false) k).Bounded
    (item (put s.settings.active.channels n new) .factory k).kind.ceiling
  rcases eq_or_ne k n with rfl | hne
  · -- The record applied, or that of a channel there is none of; the group, or the default one.
    have hrecord : (item (put s.light.channels k ((s.channel k).applied (s.channelSet k).kind new.kind)) (.fresh false)
        k).Bounded new.kind.ceiling := by
      rcases item_put_self_cases s.light.channels (.fresh false)
        ((s.channel k).applied (s.channelSet k).kind new.kind) k with h | h <;> rw [h]
      · exact (hc k hk).applied hr
      · exact .fresh false new.kind.le_ceiling
    rcases item_put_self_cases s.settings.active.channels .factory new k with h | h <;> rw [h]
    · exact hrecord
    · exact hrecord.mono new.kind.ceiling_le
  · rw [item_put_other _ _ _ hne, item_put_other _ _ _ hne]
    exact hc k hk

theorem KeepsWithin.tryChannel (n : Index) : KeepsWithin s (s.tryChannel n) := by
  unfold State.tryChannel
  split
  · next h =>
    have hr : (s.channel n).detection ≠ .referencing := by
      simp only [State.channelSafe, Bool.and_eq_true, bne_iff_ne] at h
      exact h.2.1
    exact (KeepsWithin.of_view (s.mapWaiting_channelView _)).trans
      (.applyChannel _ n (fun hb => (State.settingsBounded.image (s := s) hb).item n) hr)
  · exact .refl s

@[simp] theorem State.applyPoint_channelView (m : Index) (new : PointSettings) :
    (s.applyPoint m new).channelView = s.channelView := by
  have ht (p : Point) : ((s.mapActive fun c => { c with points := put c.points m new }).setPoint m p).channelView =
      s.channelView := rfl
  unfold State.applyPoint
  dsimp only
  split
  · exact ht _
  · split <;> simp [ht]

@[simp] theorem State.takePoint_channelView (m : Index) : (s.takePoint m).channelView = s.channelView :=
  State.applyPoint_channelView _ m _

@[simp] theorem State.tryPoint_channelView (m : Index) : (s.tryPoint m).channelView = s.channelView :=
  State.channelView_ite (s.takePoint_channelView m) rfl

@[simp] theorem State.tryTopology_channelView : s.tryTopology.channelView = s.channelView := by
  have happly (u : State) (new : TopologySettings) : (u.applyTopology new).channelView = u.channelView := by
    unfold State.applyTopology
    dsimp only
    rw [State.evaluateAll_channelView, State.replaceSets_channelView,
      foldl_channelView _ fun t p => t.rederive_channelView _ p]
    rfl
  exact State.channelView_ite (happly _ _) rfl

@[simp] theorem State.tryLink_channelView : s.tryLink.channelView = s.channelView := by
  have happly (u : State) (new : LinkSettings) : (u.applyLink new).channelView = u.channelView := by
    unfold State.applyLink
    dsimp only
    rw [State.handLinkInputs_channelView, foldl_channelView _ fun t n => t.post_channelView _ n _]
    rfl
  exact State.channelView_ite (happly _ _) rfl

@[simp] theorem State.tryStation_channelView : s.tryStation.channelView = s.channelView := State.channelView_ite rfl rfl

theorem KeepsWithin.dropImage : KeepsWithin s s.dropImage := by
  unfold State.dropImage
  split
  · exact .refl s
  · exact .settings rfl fun hb => ⟨hb.2.1, fun _ hc => by simp at hc⟩

theorem KeepsWithin.applyDone : KeepsWithin s s.applyDone := by
  have h : KeepsWithin s (({ s with settings := { s.settings with doneOwed := false } } : State).post .applyDone 0
      s.settings.serial).dropImage := (KeepsWithin.of_view (by rfl)).trans (.dropImage _)
  unfold State.applyDone
  dsimp only
  split
  · exact h.trans (.changeState _ _)
  · exact h

theorem KeepsWithin.finishApply (before : State) : KeepsWithin s (before.finishApply s) := by
  unfold State.finishApply
  split
  · exact .applyDone s
  · exact .refl s

theorem KeepsWithin.forgetCaptured (which : Index → Bool) : KeepsWithin s (s.forgetCaptured which) :=
  .foldl (fun t n => .setChannel (c := { t.channel n with captured := none }) fun _ h => { h with }) _ s

theorem KeepsWithin.acceptCommit : KeepsWithin s s.acceptCommit := by
  -- The pending set becomes the commit image; then the parts at their safe points, and APPLY_DONE if none waits.
  have image (f : SettingsUnit) (st : Store) (ha : f.active = s.settings.active) (hp : f.pending = s.settings.pending)
      (hi : f.image = some s.settings.pending) : KeepsWithin s { s with settings := f, store := st } := by
    refine (KeepsWithin.settings (f := f) (by rw [ha]) fun hb => ?_).congr_view rfl
    rw [hp, hi]
    exact ⟨hb.2.1, fun c hc => Option.some.inj hc ▸ hb.2.1⟩
  have parts (u : State) (hu : KeepsWithin s u) : KeepsWithin s
      ((upTo 4).foldl State.tryPoint ((upTo 16).foldl State.tryChannel u)).tryTopology.tryLink :=
    (hu.trans (.foldl (fun t n => .tryChannel t n) _ u)).congr_view (by
      rw [State.tryLink_channelView, State.tryTopology_channelView, foldl_channelView _ State.tryPoint_channelView])
  have done (v : State) (hv : KeepsWithin s v) : KeepsWithin s (if v.applying then v
      else if v.sched.doneAfterReply then { v with settings := { v.settings with doneOwed := true } }
      else v.applyDone) := by
    split
    · exact hv
    · split
      · exact hv.congr_view rfl
      · exact hv.trans (.applyDone v)
  unfold State.acceptCommit
  dsimp only
  exact done _ (parts _ (KeepsWithin.trans (image _ _ (by rfl) (by rfl) (by rfl)) (.forgetCaptured _ _)))

/-! ### The store and the restart (R154, R170 to R172) -/

@[simp] theorem State.storeGood_channelView (c : WriteContent) : (s.storeGood c).channelView = s.channelView := by
  cases c <;> rfl

@[simp] theorem State.storeBad_channelView (c : WriteContent) : (s.storeBad c).channelView = s.channelView := by
  cases c <;> rfl

@[simp] theorem State.endWrite_channelView (c : WriteContent) (o : WriteOutcome) :
    (s.endWrite c o).channelView = s.channelView := by
  cases o with
  | verified => exact State.storeGood_channelView _ c
  | corrupted => exact State.storeBad_channelView _ c
  | unchanged => rfl

theorem KeepsWithin.chooseWrite : KeepsWithin s s.chooseWrite := by
  unfold State.chooseWrite
  split
  · exact .of_view rfl
  · split
    · exact .of_view rfl
    · split
      · exact (KeepsWithin.of_view (by rfl)).trans (.dropImage _)
      · exact .refl s

@[simp] theorem State.cutWrites_channelView : s.cutWrites.channelView = s.channelView := by
  have hcut (u : State) (c : WriteContent) : (u.cutOff c).channelView = u.channelView := by
    cases c with
    | record r k => exact State.channelView_ite (u.storeBad_channelView _) rfl
    | settings _ => exact u.storeBad_channelView _
    | lockout _ => exact u.storeBad_channelView _
  unfold State.cutWrites
  dsimp only
  split
  · rfl
  · exact hcut _ _

/-- Loss of supply touches neither channel records nor settings (R154). -/
@[simp] theorem State.losePower_channelView : s.losePower.channelView = s.channelView := s.cutWrites_channelView

/-- The settings loaded at a reset are within their bounds, whatever the store held (R172). -/
theorem Store.loadedSettings_channelsBounded (st : Store) : st.loadedSettings.channelsBounded := by
  have hgood (i : Image) (h : st.goodImage = some i) : i.settings.ok = true := by
    unfold Store.goodImage at h
    split at h
    · split at h
      · next hok => exact Option.some.inj h ▸ hok
      · cases h
    all_goals cases h
  unfold Store.loadedSettings
  cases hi : st.goodImage with
  | none => exact Settings.factory_channelsBounded
  | some i => exact Settings.channelsBounded_of_ok (hgood i hi)

/-- A pending T_ref that survives the copy changes neither K nor θ_set (R39, R164). -/
theorem State.restartPending_channelsBounded {active : Settings} (h : active.channelsBounded) :
    (s.restartPending active).channelsBounded := by
  unfold State.restartPending
  split
  · intro k hk
    obtain ⟨n, -, rfl⟩ := List.mem_map.mp hk
    dsimp only
    split <;> exact h.item n
  · exact h

/-- A restart leaves every rule on channels met, whatever the state before (R24, R154). -/
theorem State.restart_channelsWithin (cause : ResetCause) : (s.restart cause).channelsWithin := by
  have hb := s.store.loadedSettings_channelsBounded
  rw [State.channelsWithin_iff]
  refine ⟨⟨hb, s.restartPending_channelsBounded hb, fun c hc => by simp [State.restart, State.restartZones] at hc⟩,
    fun n hn => ?_⟩
  have hch : (s.restart cause).channel n =
      .fresh ((item s.store.loadedSettings.channels .factory n).kind != .unused) :=
    item_map_upTo (fun n => Channel.fresh ((item s.store.loadedSettings.channels .factory n).kind != .unused)) _ hn
  rw [hch]
  exact .fresh _ (ChannelKind.le_ceiling _)

theorem KeepsWithin.restart (t : State) (cause : ResetCause) : KeepsWithin s (t.restart cause) :=
  fun _ => t.restart_channelsWithin cause

theorem KeepsWithin.resetPart (cause : ResetCause) : KeepsWithin s (s.resetPart cause) :=
  .restart s s.completeWrites cause

end Sys2Proof.Machine
end

section
/-! Every command keeps the rule on channels, and so does every step. -/

namespace Sys2Proof.Machine

open Wire

variable {s : State}

/-- Whatever next state is answered, the rule on channels holds in it if it held before. -/
def AnswersWithin (s : State) (o : Host.Outcome State Fault Refusal) : Prop := ∀ t, o = .next t → KeepsWithin s t

namespace AnswersWithin

theorem next {t : State} (h : KeepsWithin s t) : AnswersWithin s (.next t) := by
  intro u hu
  cases hu
  exact h

/-- A command keeps what its effect keeps: settling touches no channel. -/
theorem conclude {f : State → State} (h : KeepsWithin s (f s)) : AnswersWithin s (conclude s f) := by
  unfold Machine.conclude
  split
  · exact next (h.congr_view (settle_channelView s _))
  · exact next (.refl s)

/-- A command whose effect leaves the channel view alone. -/
theorem unviewed {f : State → State} (h : (f s).channelView = s.channelView) : AnswersWithin s (Machine.conclude s f) :=
  conclude (.of_view h)

end AnswersWithin

variable (s)

/-! ### Power, reset and state control -/

theorem execPowerOn_within : AnswersWithin s (execPowerOn s) := by
  unfold execPowerOn
  split
  · exact .conclude (.refl s)
  · exact .next (.restart s _ _)

theorem execPowerLoss_within : AnswersWithin s (execPowerLoss s) := by
  unfold execPowerLoss
  split
  · exact .next (.of_view s.losePower_channelView)
  · exact .next (.refl s)

theorem execRestartTerminalChange_within (b : Bool) : AnswersWithin s (execRestartTerminalChange b s) := by
  unfold execRestartTerminalChange
  split
  · exact .unviewed rfl
  · exact .next (.of_view rfl)

theorem execRestartTerminalPress_within : AnswersWithin s (execRestartTerminalPress s) := by
  refine .conclude ?_
  split
  · exact .refl s
  · exact (KeepsWithin.of_view (s.advanceTo_channelView _)).trans (.resetPart _ _)

theorem execRestartTerminalRelease_within : AnswersWithin s (execRestartTerminalRelease s) := by
  refine .unviewed ?_
  split
  · rfl
  · exact s.advanceTo_channelView _

theorem execStartingEnd_within : AnswersWithin s (execStartingEnd s) := by
  refine .conclude ?_
  split
  · exact .refl s
  · exact (KeepsWithin.of_view (by simp)).trans (.changeState _ _)

theorem execTestTimeout_within : AnswersWithin s (execTestTimeout s) := by
  refine .conclude ?_
  split
  · exact (KeepsWithin.of_view (by simp)).trans (.changeState _ _)
  · exact .refl s

/-! ### Light front end (R4 to R15) -/

/-- A sample of an evaluated channel counts to K and to the drop count (R8 to R11). -/
theorem KeepsWithin.sampleOpen (n : Index) (raw : Nat) : KeepsWithin s (s.sampleOpen n raw) := by
  have hl := compensate_le raw (s.channel n).gain
  unfold State.sampleOpen
  dsimp only
  split
  · exact .setChannel fun _ h => h.taken hl
  · refine .handChannel (.congr_apart (.setChannel fun hb h => ?_) (State.noteSteady_apart _ _ _ _)) _ _
    exact ((h.taken hl).tallied _ hl).qualify _ _ _ (hb.1.item n).1

theorem KeepsWithin.sampleChannel (n : Index) (raw : Nat) : KeepsWithin s (s.sampleChannel n raw) := by
  unfold State.sampleChannel
  split
  · exact .refl s
  · dsimp only
    split
    · next _ k hk => exact .setChannel fun _ h => h.captured _ (by simp [hk])
    · exact .setChannel fun _ h => { h with }
    · exact .sampleOpen s n raw

theorem execLightSample_within (raw : List Nat) : AnswersWithin s (execLightSample raw s) := by
  refine .conclude ?_
  dsimp only
  split
  · exact .refl s
  · have hadv := KeepsWithin.of_view (s.advanceTo_channelView s.nextLight)
    exact (hadv.congr_view (by rfl)).trans (KeepsWithin.foldl (fun t n => .sampleChannel t n _) _ _)

theorem execBackgroundUpdate_within : AnswersWithin s (execBackgroundUpdate s) := by
  refine .conclude fun hs => ?_
  dsimp only
  split
  · exact hs
  · rw [State.channelsWithin_iff] at hs ⊢
    obtain ⟨hb, hc⟩ := hs
    refine ⟨hb, fun n hn => ?_⟩
    have hch := item_map_upTo (fun n => (s.channel n).endInterval (s.usedChannel n)) (.fresh false) hn
    unfold State.channel at hch ⊢
    rw [hch]
    exact (hc n hn).endInterval _

/-! ### Supervision (R26 to R38) -/

theorem execSupervisionSlot_within (n : Index) : AnswersWithin s (execSupervisionSlot n s) := by
  have hslot : (s.toSlot n).channelView = s.channelView :=
    State.channelView_ite (s.advanceTo_channelView _) ((State.advanceTo_channelView _ _).trans (s.advanceTo_channelView _))
  refine .conclude ?_
  dsimp only
  split
  · exact .refl s
  · split
    · exact (KeepsWithin.of_view hslot).trans (.setChannel fun _ h => h.takeSlot _)
    · exact .refl s

theorem KeepsWithin.judgeHealth (n : Index) : KeepsWithin s (s.judgeHealth n) := by
  unfold State.judgeHealth
  dsimp only
  split
  · exact .refl s
  · refine .handChannel (.congr_view (.setChannel fun _ h => h.takeHealth _) (State.post_channelView _ _ _ _)) _ _

theorem execBurstEnd_within (n : Index) : AnswersWithin s (execBurstEnd n s) := by
  refine .conclude ?_
  split
  · exact .refl s
  · split
    · exact .refl s
    · exact (KeepsWithin.setChannel fun _ h => h.endBurst _ _).trans (.judgeHealth _ n)

theorem execCaptureBurstStart_within (n : Index) : AnswersWithin s (execCaptureBurstStart n s) := by
  refine .conclude ?_
  dsimp only
  split
  · exact .refl s
  · next k hk =>
    split
    · refine (KeepsWithin.of_view (s.advanceTo_channelView s.nextLight)).trans (.setChannel fun _ h => ?_)
      rw [State.advanceTo_channel] at h
      exact h.captured _ (by simp [hk])
    · exact .refl s

/-- Only a T_ref is written to the pending set, and the capture goes on as it was (R38). -/
theorem State.judgeCandidate_keepsWithin (n candidate : Nat) : KeepsWithin s (s.judgeCandidate n candidate) := by
  have pending : KeepsWithin s (s.mapPending fun c => c.set 1 n 5 candidate) :=
    .settings rfl fun hb => ⟨hb.2.1.put n (hb.2.1.item n), hb.2.2⟩
  unfold State.judgeCandidate
  split
  · have captured := KeepsWithin.setChannel (s := s.mapPending fun c => c.set 1 n 5 candidate) (n := n)
      (c := { s.channel n with captured := some candidate }) fun _ h => { h with }
    exact (pending.trans captured).congr_view (State.post_channelView _ _ _ _)
  · exact .of_view (s.post_channelView _ _ _)

theorem State.judgeCandidate_capture (n candidate : Nat) :
    ((s.judgeCandidate n candidate).channel n).capture = (s.channel n).capture := by
  unfold State.judgeCandidate
  split
  · rcases item_put_cases s.light.channels (.fresh false) { s.channel n with captured := some candidate } n n with
      h | ⟨-, h⟩
    · exact (congrArg (fun c : Channel => c.capture) h :)
    · exact (congrArg (fun c : Channel => c.capture) h :)
  · rfl

theorem execCaptureEnd_within (n : Index) : AnswersWithin s (execCaptureEnd n s) := by
  refine .conclude ?_
  dsimp only
  split
  · exact .refl s
  · next k hk =>
    split
    · exact .refl s
    · refine ((KeepsWithin.of_view (s.advanceTo_channelView s.nextLight)).trans
        (State.judgeCandidate_keepsWithin _ n _)).trans (.setChannel fun _ h => h.endCapture ?_)
      rw [State.judgeCandidate_capture, State.advanceTo_channel, hk]
      rfl

/-! ### Current front end and position inputs -/

theorem execCurrentSample_within (samples : List Int) : AnswersWithin s (execCurrentSample samples s) := by
  refine .unviewed (State.channelView_ite rfl ?_)
  exact (foldl_channelView _ (fun u m => State.handPoint_channelView _ u m) _ _).trans (s.advanceTo_channelView _)

theorem execOcHoldExpiry_within (m : Index) : AnswersWithin s (execOcHoldExpiry m s) :=
  .unviewed (State.channelView_ite (State.handPoint_channelView _ _ m) rfl)

theorem execCpClear_within (m : Index) : AnswersWithin s (execCpClear m s) :=
  .unviewed (State.channelView_ite (State.handPoint_channelView _ _ m) rfl)

theorem execContactRawChange_within (p : Index) (c : Contact) (on : Bool) :
    AnswersWithin s (execContactRawChange p c on s) := by
  unfold execContactRawChange
  split
  · exact .unviewed rfl
  · exact .next (.of_view rfl)

theorem execDebounceExpiry_within (p : Index) (c : Contact) : AnswersWithin s (execDebounceExpiry p c s) := by
  refine .unviewed ?_
  split <;> simp

theorem execDiscrepancyExpiry_within (p : Index) : AnswersWithin s (execDiscrepancyExpiry p s) := by
  refine .unviewed ?_
  split <;> simp

/-! ### Order unit -/

theorem execMinPulseExpiry_within (p : Index) : AnswersWithin s (execMinPulseExpiry p s) := by
  refine .unviewed ?_
  split
  · rfl
  · exact State.channelView_ite (by simp) (State.channelView_ite (by simp) rfl)

theorem execBfDeadline_within (p : Index) : AnswersWithin s (execBfDeadline p s) := by
  refine .unviewed ?_
  split
  · rfl
  · exact State.channelView_ite (by simp) rfl

theorem execDriveTimeout_within (p : Index) : AnswersWithin s (execDriveTimeout p s) := by
  refine .unviewed ?_
  split
  · rfl
  · exact State.channelView_ite (by simp) rfl

theorem execLockoutButtonChange_within (b : Bool) : AnswersWithin s (execLockoutButtonChange b s) := by
  unfold execLockoutButtonChange
  split
  · exact .unviewed rfl
  · exact .next (.of_view rfl)

theorem execLockoutResetPress_within : AnswersWithin s (execLockoutResetPress s) := by
  refine .unviewed ?_
  split
  · rfl
  · exact State.channelView_ite (s.advanceTo_channelView _)
      ((State.clearLockouts_channelView _ _).trans (s.advanceTo_channelView _))

theorem execLockoutButtonRelease_within : AnswersWithin s (execLockoutButtonRelease s) := by
  refine .unviewed ?_
  split
  · rfl
  · exact s.advanceTo_channelView _

/-! ### Cross link -/

theorem execHeartbeatDue_within : AnswersWithin s (execHeartbeatDue s) :=
  .unviewed (State.channelView_ite (s.advanceTo_channelView _) rfl)

theorem execSendDecide_within : AnswersWithin s (execSendDecide s) :=
  .unviewed (State.channelView_ite (s.advanceTo_channelView _) rfl)

theorem execTelegramStart_within : AnswersWithin s (execTelegramStart s) := by
  refine .unviewed ?_
  split <;> simp

theorem execAttemptVoided_within : AnswersWithin s (execAttemptVoided s) :=
  .unviewed (State.channelView_ite s.startBit_channelView rfl)

theorem execStartBitSeen_within : AnswersWithin s (execStartBitSeen s) :=
  .unviewed (State.channelView_ite s.startBit_channelView rfl)

theorem execArbitrationLost_within : AnswersWithin s (execArbitrationLost s) := .unviewed (State.channelView_ite rfl rfl)

theorem execBitError_within (b : Bool) : AnswersWithin s (execBitError b s) :=
  .unviewed (State.channelView_ite (State.channelView_ite rfl rfl) rfl)

theorem execTelegramCompleted_within : AnswersWithin s (execTelegramCompleted s) := by
  refine .unviewed ?_
  split <;> simp

theorem execTelegramReceived_within (bits : List Bit) : AnswersWithin s (execTelegramReceived bits s) := by
  refine .unviewed ?_
  split
  · rfl
  · exact State.channelView_ite rfl (by simp)

theorem execLineDisturbance_within (bits : Nat) : AnswersWithin s (execLineDisturbance s bits) :=
  .unviewed (State.channelView_ite (s.advanceTo_channelView _) rfl)

theorem execPeerSilenceExpiry_within (u : Index) : AnswersWithin s (execPeerSilenceExpiry u s) := by
  refine .unviewed ?_
  split <;> simp

theorem execSuspensionEnd_within : AnswersWithin s (execSuspensionEnd s) := by
  refine .unviewed ?_
  split <;> simp

theorem execDuplicateAlarmExpiry_within : AnswersWithin s (execDuplicateAlarmExpiry s) := by
  unfold execDuplicateAlarmExpiry
  refine .unviewed ?_
  split
  · rw [State.mapLink_channelView, State.advanceTo_channelView]
  · rfl

/-! ### Staged application and store -/

theorem execChannelGroupApply_within (n : Index) : AnswersWithin s (execChannelGroupApply n s) :=
  .conclude ((KeepsWithin.tryChannel s n).trans (.finishApply _ s))

theorem execPointGroupApply_within (m : Index) : AnswersWithin s (execPointGroupApply m s) := by
  refine .conclude ?_
  split
  · have hat : (if s.unguarded then s else s.toCurrentInstant).channelView = s.channelView :=
      State.channelView_ite rfl (State.channelView_ite rfl (s.advanceTo_channelView _))
    exact (KeepsWithin.of_view ((State.takePoint_channelView _ m).trans hat)).trans (.finishApply _ s)
  · exact .refl s

theorem execTopologyGroupApply_within : AnswersWithin s (execTopologyGroupApply s) :=
  .conclude ((KeepsWithin.of_view s.tryTopology_channelView).trans (.finishApply _ s))

theorem execLinkGroupApply_within : AnswersWithin s (execLinkGroupApply s) :=
  .conclude ((KeepsWithin.of_view s.tryLink_channelView).trans (.finishApply _ s))

theorem execStoreWriteBegin_within : AnswersWithin s (execStoreWriteBegin s) := by
  refine .conclude ?_
  split
  · exact .refl s
  · exact .chooseWrite s

theorem execStoreWriteEnd_within (o : WriteOutcome) : AnswersWithin s (execStoreWriteEnd o s) := by
  refine .unviewed ?_
  split <;> simp

/-! ### Station port -/

theorem State.beginReply_channelView : s.beginReply.channelView = s.channelView := s.advanceTo_channelView _

theorem State.endReply_channelView : s.endReply.channelView = s.channelView :=
  (State.advanceTo_channelView _ _).trans (State.channelView_ite rfl s.beginReply_channelView)

theorem State.beginHandling_channelView : s.beginHandling.channelView = s.channelView :=
  State.channelView_of_parts s.beginHandling_light s.beginHandling_settings

theorem execFrameGapTimeout_within (read : List Byte) : AnswersWithin s (execFrameGapTimeout s read) :=
  .unviewed (State.channelView_ite rfl rfl)

theorem execFramingDiscard_within (cause : FramingCause) (read : List Byte) :
    AnswersWithin s (execFramingDiscard cause s read) := .unviewed (State.channelView_ite rfl rfl)

theorem execFrameCheckFailure_within : AnswersWithin s (execFrameCheckFailure s) :=
  .unviewed (State.channelView_ite rfl rfl)

theorem execForeignFrame_within (address kind : Byte) : AnswersWithin s (execForeignFrame address kind s) :=
  .unviewed (State.channelView_ite rfl (State.channelView_ite rfl (State.channelView_ite rfl
    (State.channelView_ite rfl rfl))))

theorem execOverrunDiscard_within : AnswersWithin s (execOverrunDiscard s) :=
  .unviewed (State.channelView_ite rfl rfl)

theorem execIgnoredBroadcast_within (kind : Byte) : AnswersWithin s (execIgnoredBroadcast kind s) :=
  .unviewed (State.channelView_ite rfl (State.channelView_ite rfl (State.channelView_ite rfl rfl)))

theorem execReplyStart_within : AnswersWithin s (execReplyStart s) :=
  .unviewed (State.channelView_ite s.beginReply_channelView rfl)

theorem KeepsWithin.afterReply (restart : Bool) : KeepsWithin s (s.afterReply restart) := by
  have hstation := (KeepsWithin.of_view s.tryStation_channelView).trans (.finishApply _ s)
  unfold State.afterReply
  split
  · exact .resetPart s _
  · dsimp only
    split
    · exact hstation.trans (.applyDone _)
    · exact hstation

theorem execReplySent_within : AnswersWithin s (execReplySent s) := by
  refine .conclude ?_
  split
  · exact (KeepsWithin.of_view s.endReply_channelView).trans (.afterReply _ _)
  · exact .refl s

/-! ### Requests (R174, R175) -/

variable {s} in
/-- An addressed request keeps what the owning block's act keeps. -/
theorem KeepsWithin.request {kind : Nat} {body : List Byte} {act : State → Handled}
    (h : ∀ t, KeepsWithin t (act t).state) : KeepsWithin s (s.request kind body act) := by
  unfold State.request State.takeFrame
  split
  · exact .refl s
  · split
    · exact .of_view rfl
    · have hjudged : KeepsWithin s (s.beginHandling.judgeRequest kind body act).state := by
        unfold State.judgeRequest
        split
        · exact .of_view s.beginHandling_channelView
        · exact (KeepsWithin.of_view s.beginHandling_channelView).trans (h _)
      exact hjudged.congr_view (State.mapPort_channelView _ _)

variable {s} in
/-- A request's command keeps what the act keeps. -/
theorem AnswersWithin.request {kind : Nat} {body : List Byte} {act : State → State → Handled}
    (h : ∀ t, KeepsWithin t (act s t).state) : AnswersWithin s (Machine.conclude s fun s => s.request kind body (act s)) :=
  .conclude (.request h)

variable {s} in
/-- A request whose act leaves the channel view alone. -/
theorem AnswersWithin.idle {kind : Nat} {body : List Byte} {act : State → State → Handled}
    (h : ∀ t, (act s t).state.channelView = t.channelView) :
    AnswersWithin s (Machine.conclude s fun s => s.request kind body (act s)) :=
  .request fun t => .of_view (h t)

variable {s} in
/-- An accepted request keeps what its effect keeps. -/
theorem KeepsWithin.accept {t : State} (h : KeepsWithin s t) (body : List Byte) :
    KeepsWithin s (Machine.accept t body).state := h

variable {s} in
/-- A request that only reads keeps everything. -/
theorem AnswersWithin.read {kind : Nat} {body : List Byte} {answer : State → State → List Byte} :
    AnswersWithin s (Machine.conclude s fun s => s.request kind body fun t => Machine.accept t (answer s t)) :=
  .idle (act := fun s t => Machine.accept t (answer s t)) fun _ => rfl

theorem execUnknownKind_within (kind : Byte) : AnswersWithin s (execUnknownKind kind s) := by
  refine .conclude ?_
  split
  · exact .refl s
  · exact .request fun t => .refl t

theorem State.readRecord_channelView (body : List Byte) : (s.readRecord body).state.channelView = s.channelView := by
  unfold State.readRecord
  split <;> rfl

theorem State.ackRecord_channelView (number : Nat) : (s.ackRecord number).state.channelView = s.channelView := by
  unfold State.ackRecord
  split
  · rfl
  · split
    · rfl
    · exact State.channelView_ite rfl rfl
    · rfl

theorem State.readSetting_channelView (body : List Byte) : (s.readSetting body).state.channelView = s.channelView := by
  unfold State.readSetting
  dsimp only
  split <;> rfl

theorem KeepsWithin.writeSetting (body : List Byte) : KeepsWithin s (s.writeSetting body).state := by
  unfold State.writeSetting
  dsimp only
  split
  · exact .refl s
  · next f hf =>
    split
    · exact .refl s
    · next w hw => exact .settings rfl fun hb => ⟨hb.2.1.set hf hw, hb.2.2⟩

theorem KeepsWithin.commit : KeepsWithin s s.commit.state := by
  unfold State.commit
  split
  · exact .refl s
  · split
    · exact .refl s
    · split
      · exact .refl s
      · split
        · exact .refl s
        · split
          · exact .refl s
          · exact .accept (.acceptCommit s) _

theorem KeepsWithin.discardPending : KeepsWithin s s.discardPending.state := by
  have copied : KeepsWithin s (s.mapPending fun _ => s.settings.active) := .settings rfl fun hb => ⟨hb.1, hb.2.2⟩
  unfold State.discardPending
  split
  · exact .refl s
  · exact copied.trans (.forgetCaptured _ _)

theorem KeepsWithin.setProtection (target : Nat) : KeepsWithin s (s.setProtection target).state := by
  unfold State.setProtection
  split
  · exact .changeState s _
  · split
    · exact .changeState s _
    · exact .refl s
  · exact .changeState s _
  · exact .changeState s _
  · exact .refl s

theorem KeepsWithin.channelOut (n : Index) : KeepsWithin s (s.channelOut n).state := by
  unfold State.channelOut
  split
  case h_1 | h_2 | h_3 => exact .refl s
  all_goals
    next hd => exact .handChannel (.setChannel fun _ h => h.takeOut (by rw [hd]; decide)) s n

theorem KeepsWithin.channelIn (n : Index) : KeepsWithin s (s.channelIn n).state := by
  unfold State.channelIn
  split
  case h_3 hd => exact .handChannel (.setChannel fun _ h => h.bringIn hd) s n
  all_goals exact .refl s

theorem KeepsWithin.captureReference (n : Index) : KeepsWithin s (s.captureReference n).state := by
  unfold State.captureReference
  dsimp only
  split
  case h_8 hd =>
    split
    · exact .refl s
    · exact .setChannel fun _ h => h.beginCapture _ hd
  all_goals exact .refl s

theorem KeepsWithin.simulateLight (n : Index) (on : Bool) : KeepsWithin s (s.simulateLight n on).state := by
  unfold State.simulateLight
  split
  · exact .refl s
  · split
    case h_1 | h_2 | h_3 => exact .refl s
    all_goals exact .handChannel (.setChannel (c := { s.channel n with simulated := on }) fun _ h => { h with }) s n

theorem State.simulateCurrent_channelView (m : Index) (on : Bool) :
    (s.simulateCurrent m on).state.channelView = s.channelView := by
  unfold State.simulateCurrent
  split
  · rfl
  · exact State.channelView_ite rfl (State.evaluatePoint_channelView _ m)

theorem State.testTrip_channelView (set : List Index) : (s.testTrip set).state.channelView = s.channelView := by
  unfold State.testTrip
  split
  · rfl
  · split
    · split
      · rfl
      · split
        · rfl
        · exact s.requestOrder_channelView _ _ _
    · rfl

theorem State.cancelOrder_channelView (p : Index) : (s.cancelOrder p).state.channelView = s.channelView := by
  unfold State.cancelOrder
  split
  · rfl
  · split
    · exact s.release_channelView p
    · rfl

theorem State.broadcastTime_channelView (body : List Byte) : (s.broadcastTime body).channelView = s.channelView :=
  State.channelView_ite rfl (State.channelView_ite (State.channelView_ite rfl rfl) rfl)

theorem execTimeSet_within (broadcast : Bool) (body : List Byte) : AnswersWithin s (execTimeSet broadcast body s) := by
  refine .conclude ?_
  split
  · exact .of_view (State.channelView_ite rfl (State.channelView_ite rfl (s.broadcastTime_channelView body)))
  · exact .request fun t => .of_view (t.setPartTime_channelView _)

/-! ### The requests that only read -/

theorem execIdentify_within (body : List Byte) : AnswersWithin s (execIdentify body s) := .read

theorem execStatus_within (body : List Byte) : AnswersWithin s (execStatus body s) := .read

theorem execReadChannel_within (body : List Byte) : AnswersWithin s (execReadChannel body s) := .read

theorem execReadPoint_within (body : List Byte) : AnswersWithin s (execReadPoint body s) := .read

theorem execReadPosition_within (body : List Byte) : AnswersWithin s (execReadPosition body s) := .read

theorem execReadZone_within (body : List Byte) : AnswersWithin s (execReadZone body s) := .read

theorem execReadOrders_within (body : List Byte) : AnswersWithin s (execReadOrders body s) := .read

theorem execReadPeers_within (body : List Byte) : AnswersWithin s (execReadPeers body s) := .read

/-! ### The requests that act -/

theorem execReadRecord_within (body : List Byte) : AnswersWithin s (execReadRecord body s) :=
  .idle fun t => t.readRecord_channelView body

theorem execAckRecord_within (body : List Byte) : AnswersWithin s (execAckRecord body s) :=
  .idle fun t => t.ackRecord_channelView _

theorem execFetchNotices_within (body : List Byte) : AnswersWithin s (execFetchNotices body s) :=
  .idle (act := fun _ => State.fetchNotices) fun _ => rfl

theorem execReadSetting_within (body : List Byte) : AnswersWithin s (execReadSetting body s) :=
  .idle fun t => t.readSetting_channelView body

theorem execWriteSetting_within (body : List Byte) : AnswersWithin s (execWriteSetting body s) :=
  .request fun t => .writeSetting t body

theorem execCommit_within (body : List Byte) : AnswersWithin s (execCommit body s) := .request .commit

theorem execDiscard_within (body : List Byte) : AnswersWithin s (execDiscard body s) := .request .discardPending

theorem execSetState_within (body : List Byte) : AnswersWithin s (execSetState body s) :=
  .request fun t => .setProtection t _

theorem execChannelOut_within (body : List Byte) : AnswersWithin s (execChannelOut body s) :=
  .request fun t => .channelOut t _

theorem execChannelIn_within (body : List Byte) : AnswersWithin s (execChannelIn body s) :=
  .request fun t => .channelIn t _

theorem execCaptureReference_within (body : List Byte) : AnswersWithin s (execCaptureReference body s) :=
  .request fun t => .captureReference t _

theorem execSimulateLight_within (body : List Byte) : AnswersWithin s (execSimulateLight body s) :=
  .request fun t => .simulateLight t _ _

theorem execSimulateCurrent_within (body : List Byte) : AnswersWithin s (execSimulateCurrent body s) :=
  .idle fun t => t.simulateCurrent_channelView _ _

theorem execTestTrip_within (body : List Byte) : AnswersWithin s (execTestTrip body s) :=
  .idle fun t => t.testTrip_channelView _

theorem execCancelOrder_within (body : List Byte) : AnswersWithin s (execCancelOrder body s) :=
  .idle fun t => t.cancelOrder_channelView _

theorem execResetLockout_within (body : List Byte) : AnswersWithin s (execResetLockout body s) :=
  .idle fun t => t.clearLockouts_channelView _

theorem execRestart_within (body : List Byte) : AnswersWithin s (execRestart body s) :=
  .idle (act := fun _ t => Machine.accept (t.mapPort fun p => { p with restartAfter := true }) []) fun t =>
    t.mapPort_channelView _

/-! ### Every command, every step -/

/-- Every command keeps the rule on channels. -/
theorem exec_within (c : Instr) : AnswersWithin s (exec c s) := by
  cases c with
  | powerOn => exact execPowerOn_within s
  | powerLoss => exact execPowerLoss_within s
  | restartTerminalChange b => exact execRestartTerminalChange_within s b
  | restartTerminalPress => exact execRestartTerminalPress_within s
  | restartTerminalRelease => exact execRestartTerminalRelease_within s
  | startingEnd => exact execStartingEnd_within s
  | testTimeout => exact execTestTimeout_within s
  | lightSample raw => exact execLightSample_within s raw
  | backgroundUpdate => exact execBackgroundUpdate_within s
  | supervisionSlot n => exact execSupervisionSlot_within s n
  | burstEnd n => exact execBurstEnd_within s n
  | captureBurstStart n => exact execCaptureBurstStart_within s n
  | captureEnd n => exact execCaptureEnd_within s n
  | currentSample samples => exact execCurrentSample_within s samples
  | ocHoldExpiry m => exact execOcHoldExpiry_within s m
  | cpClear m => exact execCpClear_within s m
  | contactRawChange p c on => exact execContactRawChange_within s p c on
  | debounceExpiry p c => exact execDebounceExpiry_within s p c
  | discrepancyExpiry p => exact execDiscrepancyExpiry_within s p
  | minPulseExpiry p => exact execMinPulseExpiry_within s p
  | bfDeadline p => exact execBfDeadline_within s p
  | driveTimeout p => exact execDriveTimeout_within s p
  | lockoutButtonChange b => exact execLockoutButtonChange_within s b
  | lockoutResetPress => exact execLockoutResetPress_within s
  | lockoutButtonRelease => exact execLockoutButtonRelease_within s
  | heartbeatDue => exact execHeartbeatDue_within s
  | sendDecide => exact execSendDecide_within s
  | telegramStart => exact execTelegramStart_within s
  | attemptVoided => exact execAttemptVoided_within s
  | startBitSeen => exact execStartBitSeen_within s
  | arbitrationLost => exact execArbitrationLost_within s
  | bitError b => exact execBitError_within s b
  | telegramCompleted => exact execTelegramCompleted_within s
  | telegramReceived bits => exact execTelegramReceived_within s bits
  | lineDisturbance bits => exact execLineDisturbance_within s bits
  | peerSilenceExpiry u => exact execPeerSilenceExpiry_within s u
  | suspensionEnd => exact execSuspensionEnd_within s
  | duplicateAlarmExpiry => exact execDuplicateAlarmExpiry_within s
  | channelGroupApply n => exact execChannelGroupApply_within s n
  | pointGroupApply m => exact execPointGroupApply_within s m
  | topologyGroupApply => exact execTopologyGroupApply_within s
  | linkGroupApply => exact execLinkGroupApply_within s
  | storeWriteBegin => exact execStoreWriteBegin_within s
  | storeWriteEnd o => exact execStoreWriteEnd_within s o
  | frameGapTimeout read => exact execFrameGapTimeout_within s read
  | framingDiscard cause read => exact execFramingDiscard_within s cause read
  | frameCheckFailure => exact execFrameCheckFailure_within s
  | foreignFrame address kind => exact execForeignFrame_within s address kind
  | overrunDiscard => exact execOverrunDiscard_within s
  | ignoredBroadcast kind => exact execIgnoredBroadcast_within s kind
  | unknownKind kind => exact execUnknownKind_within s kind
  | replyStart => exact execReplyStart_within s
  | replySent => exact execReplySent_within s
  | identify body => exact execIdentify_within s body
  | status body => exact execStatus_within s body
  | readChannel body => exact execReadChannel_within s body
  | readPoint body => exact execReadPoint_within s body
  | readPosition body => exact execReadPosition_within s body
  | readZone body => exact execReadZone_within s body
  | readOrders body => exact execReadOrders_within s body
  | readPeers body => exact execReadPeers_within s body
  | readRecord body => exact execReadRecord_within s body
  | ackRecord body => exact execAckRecord_within s body
  | fetchNotices body => exact execFetchNotices_within s body
  | readSetting body => exact execReadSetting_within s body
  | writeSetting body => exact execWriteSetting_within s body
  | commit body => exact execCommit_within s body
  | discard body => exact execDiscard_within s body
  | setState body => exact execSetState_within s body
  | channelOut body => exact execChannelOut_within s body
  | channelIn body => exact execChannelIn_within s body
  | captureReference body => exact execCaptureReference_within s body
  | simulateLight body => exact execSimulateLight_within s body
  | simulateCurrent body => exact execSimulateCurrent_within s body
  | testTrip body => exact execTestTrip_within s body
  | cancelOrder body => exact execCancelOrder_within s body
  | resetLockout body => exact execResetLockout_within s body
  | timeSet broadcast body => exact execTimeSet_within s broadcast body
  | restart body => exact execRestart_within s body

/-- Every step keeps the rule on channels. -/
theorem step_within : AnswersWithin s (step s) := by
  unfold step
  split
  · exact .next (.of_view (State.channelView_ite (s.advanceTo_channelView _) rfl))
  · next c rest _ =>
    intro t ht
    exact (KeepsWithin.of_view rfl).trans (exec_within { s with pending := rest } c t ht)

/-- Settles O7: each command that replaces a channel record keeps it within the ceiling its group then gives, and each that
writes settings keeps K and θ_set within their ranges. -/
theorem channelsStayWithin : Obligations.ChannelsStayWithin := fun s hs t ht => step_within s t ht hs

end Sys2Proof.Machine
end

section
/-! The background at the end of an interval (R14, R15). -/

namespace Sys2Proof.Machine

open Wire

/-- The conditions of R14. -/
theorem Channel.updates_iff (c : Channel) :
    c.updates = true ↔ c.detection = .dark ∧ c.touchedLight = false ∧ 50 ≤ c.evaluated := by
  simp only [Channel.updates, Bool.and_eq_true, beq_iff_eq, Bool.not_eq_true', decide_eq_true_eq, and_assoc]
  rfl

/-- A record at the end of an interval, with the step of R15 written out. -/
theorem Channel.endInterval_eq (c : Channel) (used : Bool) :
    c.endInterval used =
      let mean := c.evaluatedSum / c.evaluated
      { c with
        background :=
          if used = true ∧ c.detection = .dark ∧ c.touchedLight = false ∧ 50 ≤ c.evaluated then
            if c.background < mean then c.background + max 1 ((mean - c.background) / 16)
            else if mean < c.background then c.background - max 1 ((c.background - mean) / 16)
            else c.background
          else c.background
        evaluated := 0, evaluatedSum := 0, touchedLight := false } := by
  simp only [Channel.endInterval, backgroundStep, Bool.and_eq_true, Channel.updates_iff]

/-- The step of R15 goes towards the mean, by at least 1, and never past it. -/
theorem backgroundStep_towards (b m : Nat) :
    (b < m → b < backgroundStep b m ∧ backgroundStep b m ≤ m) ∧
      (m < b → m ≤ backgroundStep b m ∧ backgroundStep b m < b) ∧ (b = m → backgroundStep b m = b) := by
  unfold backgroundStep
  refine ⟨fun h => ?_, fun h => ?_, fun h => ?_⟩
  · rw [if_pos h]
    omega
  · rw [if_neg (Nat.lt_asymm h), if_pos h]
    omega
  · rw [if_neg (by omega), if_neg (by omega)]

/-- Settles O19: the end of an interval is `Channel.endInterval` of every record, and its step is that of R15. -/
theorem backgroundUpdates : Obligations.BackgroundUpdates := by
  unfold Obligations.BackgroundUpdates
  refine ⟨fun s hp => ⟨fun h => ?_, fun h => ?_⟩, backgroundStep_towards, rfl, rfl, rfl⟩
  · show execBackgroundUpdate s = _
    rw [execBackgroundUpdate, conclude_powered s _ hp, if_pos (by simpa [Config.intervalLength] using h)]
  · show execBackgroundUpdate s = _
    rw [execBackgroundUpdate, conclude_powered s _ hp, if_neg (by simp [h, Config.intervalLength])]
    simp only [Channel.endInterval_eq]

end Sys2Proof.Machine
end

section
/-! A light sample of one channel (R4 to R13): the record it leaves, said once for every command that takes it, and that
nothing else is touched but the decision path. -/

namespace Sys2Proof.Machine

open Wire

variable {s t : State}

/-! ### Parts of the frame -/

theorem State.light_of_apart (h : t.apart = s.apart) : t.light = s.light := (congrArg (fun u : State => u.light) h :)

theorem State.settings_of_apart (h : t.apart = s.apart) : t.settings = s.settings :=
  (congrArg (fun u : State => u.settings) h :)

theorem State.partTime_of_apart (h : t.apart = s.apart) : t.partTime = s.partTime :=
  (congrArg (fun u : State => u.partTime) h :)

theorem State.clock_of_apart (h : t.apart = s.apart) : t.clock = s.clock := (congrArg (fun u : State => u.clock) h :)

theorem State.channel_of_apart (h : t.apart = s.apart) (n : Index) : t.channel n = s.channel n := by
  unfold State.channel
  rw [State.light_of_apart h]

theorem State.channelSet_of_apart (h : t.apart = s.apart) (n : Index) : t.channelSet n = s.channelSet n := by
  unfold State.channelSet
  rw [State.settings_of_apart h]

/-- A record replaced is read back where there are sixteen. -/
theorem State.channel_setChannel_same {n : Index} (c : Channel) (hl : s.light.channels.length = 16) (hn : n ∈ upTo 16) :
    (s.setChannel n c).channel n = c := by
  obtain ⟨h1, h16⟩ := mem_upTo.mp hn
  exact item_put_same _ _ _ h1 (by rw [hl]; exact h16)

/-- A record replaced by itself. -/
theorem State.setChannel_self (s : State) (n : Index) : s.setChannel n (s.channel n) = s := by
  unfold State.setChannel State.channel
  rw [put_item_self]

/-! ### The record a sample leaves -/

/-- A record after a sample under a group, at a part time: an UNUSED channel's stands; a capture or a burst takes the
reading; outside detection the last value alone; in detection the sample is tallied and qualified (R4, R29, R37). -/
def Channel.sampled (c : Channel) (k : ChannelSettings) (raw : Nat) (now : PartTime) : Channel :=
  if k.kind == .unused then c
  else
    match c.capture, c.burst with
    | some q, _ => { c with capture := some (q.take raw) }
    | none, some b => { c with burst := some { pulses := b.pulses + 1, sum := b.sum + raw } }
    | none, none =>
      let l := compensate raw c.gain
      let θ := k.threshold c.background
      if c.detection.evaluated then (({ c with lastValue := l } : Channel).tally θ l).qualify θ k.qualify l now
      else { c with lastValue := l }

section

variable {c : Channel} {k : ChannelSettings} (raw : Nat) (now : PartTime)

theorem Channel.sampled_unused (hk : k.kind = .unused) : c.sampled k raw now = c := by simp [Channel.sampled, hk]

theorem Channel.sampled_capture (hk : k.kind ≠ .unused) {q : Capture} (hq : c.capture = some q) :
    c.sampled k raw now = { c with capture := some (q.take raw) } := by simp [Channel.sampled, hk, hq]

theorem Channel.sampled_burst (hk : k.kind ≠ .unused) (hq : c.capture = none) {b : Burst} (hb : c.burst = some b) :
    c.sampled k raw now = { c with burst := some { pulses := b.pulses + 1, sum := b.sum + raw } } := by
  simp [Channel.sampled, hk, hq, hb]

theorem Channel.sampled_idle (hk : k.kind ≠ .unused) (hq : c.capture = none) (hb : c.burst = none)
    (hd : c.detection.evaluated = false) :
    c.sampled k raw now = { c with lastValue := compensate raw c.gain } := by simp [Channel.sampled, hk, hq, hb, hd]

theorem Channel.sampled_evaluated (hk : k.kind ≠ .unused) (hq : c.capture = none) (hb : c.burst = none)
    (hd : c.detection.evaluated = true) :
    c.sampled k raw now =
      (({ c with lastValue := compensate raw c.gain } : Channel).tally (k.threshold c.background)
        (compensate raw c.gain)).qualify (k.threshold c.background) k.qualify (compensate raw c.gain) now := by
  simp [Channel.sampled, hk, hq, hb, hd]

/-- Qualification leaves the last value alone. -/
theorem Channel.qualify_lastValue (θ count l : Nat) : (c.qualify θ count l now).lastValue = c.lastValue := by
  unfold Channel.qualify
  split
  · split
    · split <;> rfl
    · rfl
  · split
    · split <;> rfl
    · rfl
  case h_3 | h_4 =>
    generalize (if l < dropLevel θ then c.drops + 1 else 0) = drops
    dsimp only
    split
    · rfl
    · split <;> rfl
  all_goals rfl

end

/-- The record that a sample at the present part time leaves of a channel. -/
def State.sampledChannel (s : State) (n : Index) (raw : Nat) : Channel :=
  (s.channel n).sampled (s.channelSet n) raw s.partTime

/-! ### What else a sample does -/

/-- A record replaced without a change of detection or simulation hands nothing over and posts nothing. -/
theorem State.handChannel_unchanged {n : Index} {c : Channel} (l : Nat) (hd : c.detection = (s.channel n).detection)
    (hs : c.simulated = (s.channel n).simulated) :
    s.handChannel (s.noteSteady (s.setChannel n c) n l) n = s.setChannel n c := by
  have hdet : ((s.setChannel n c).channel n).detection = (s.channel n).detection := by
    rcases item_put_cases s.light.channels (.fresh false) c n n with h | ⟨-, h⟩
    · exact (congrArg (fun c : Channel => c.detection) h :)
    · exact (congrArg (fun c : Channel => c.detection) h).trans hd
  have hnote : s.noteSteady (s.setChannel n c) n l = s.setChannel n c := by simp [State.noteSteady, hdet]
  obtain ⟨hl, hsl⟩ := s.setChannel_flags (n := n) (c := c) (by rw [hd]) (by rw [hd, hs])
  rw [hnote]
  simp [State.handChannel, hl, hsl]

/-- A sample of a channel leaves its record as `State.sampledChannel` says; STEADY entered is announced (R11), and a change
of its contribution to light goes to its zones (R12). -/
theorem State.sampleChannel_eq (s : State) (n : Index) (raw : Nat) :
    s.sampleChannel n raw =
      s.handChannel (s.noteSteady (s.setChannel n (s.sampledChannel n raw)) n (s.sampledChannel n raw).lastValue) n := by
  unfold State.sampleChannel
  split
  · next hu =>
    have hc : s.sampledChannel n raw = s.channel n := Channel.sampled_unused _ _ (by simpa [State.usedChannel] using hu)
    rw [State.handChannel_unchanged _ (by rw [hc]) (by rw [hc]), hc, s.setChannel_self]
  · next hu =>
    have hk : (s.channelSet n).kind ≠ .unused := by simpa [State.usedChannel] using hu
    dsimp only
    split
    · next _ q hq =>
      have hc : s.sampledChannel n raw = _ := Channel.sampled_capture _ _ hk hq
      rw [State.handChannel_unchanged _ (by rw [hc]) (by rw [hc]), hc]
    · next _ b hq hb =>
      have hc : s.sampledChannel n raw = _ := Channel.sampled_burst _ _ hk hq hb
      rw [State.handChannel_unchanged _ (by rw [hc]) (by rw [hc]), hc]
    · next hq hb =>
      unfold State.sampleOpen
      dsimp only
      split
      · next hd =>
        have hc : s.sampledChannel n raw = _ := Channel.sampled_idle _ _ hk hq hb (by simpa using hd)
        rw [State.handChannel_unchanged _ (by rw [hc]) (by rw [hc]), hc]
      · next hd =>
        have hc : s.sampledChannel n raw = _ := Channel.sampled_evaluated _ _ hk hq hb (by simpa using hd)
        rw [hc, Channel.qualify_lastValue]
        rfl

/-- Beside the record only the decision path may change. -/
theorem State.sampleChannel_apart (s : State) (n : Index) (raw : Nat) :
    (s.sampleChannel n raw).apart = (s.setChannel n (s.sampledChannel n raw)).apart := by
  rw [s.sampleChannel_eq, State.handChannel_apart, State.noteSteady_apart]

theorem State.sampleChannel_length {n raw : Nat} (hl : s.light.channels.length = 16) :
    (s.sampleChannel n raw).light.channels.length = 16 := by
  rw [State.light_of_apart (s.sampleChannel_apart n raw)]
  simp [State.setChannel, hl]

/-- A sample of one channel leaves what a sample of another makes of it. -/
theorem State.sampledChannel_of_setChannel {n m : Index} {c : Channel} (h : t.apart = (s.setChannel n c).apart)
    (hne : m ≠ n) (raw : Nat) : t.sampledChannel m raw = s.sampledChannel m raw := by
  have hch : t.channel m = s.channel m := (State.channel_of_apart h m).trans (State.channel_setChannel_other c hne)
  have hset : t.channelSet m = s.channelSet m := State.channelSet_of_apart h m
  have hnow : t.partTime = s.partTime := (State.partTime_of_apart h).trans (s.setChannel_partTime n c)
  unfold State.sampledChannel
  rw [hch, hset, hnow]

/-! ### An order of taking (R72) -/

theorem mem_of_mem_firsts {l : List Index} {n : Index} (h : n ∈ firsts l) : n ∈ l := by
  induction l with
  | nil => exact h
  | cons x l ih =>
    rcases List.mem_cons.mp h with rfl | h
    · exact List.mem_cons_self
    · exact List.mem_cons_of_mem x (ih (List.mem_filter.mp h).1)

theorem firsts_nodup (l : List Index) : (firsts l).Nodup := by
  induction l with
  | nil => exact List.nodup_nil
  | cons x l ih => exact List.nodup_cons.mpr ⟨by simp, ih.filter _⟩

/-- Every number is taken once. -/
theorem inOrder_nodup (pref : List Index) (k : Nat) : (inOrder pref k).Nodup := by
  refine List.nodup_append.mpr ⟨(firsts_nodup pref).filter _, List.Nodup.filter _ List.nodup_range', ?_⟩
  rintro n hn m hm rfl
  have hin := mem_of_mem_firsts (List.mem_filter.mp hn).1
  simpa [hin] using (List.mem_filter.mp hm).2

/-- An order of taking names no other numbers. -/
theorem mem_inOrder_iff {pref : List Index} {n k : Nat} : n ∈ inOrder pref k ↔ n ∈ upTo k := by
  refine ⟨fun h => ?_, mem_inOrder pref⟩
  rcases List.mem_append.mp h with h | h
  · exact mem_upTo.mpr (by simpa using (List.mem_filter.mp h).2)
  · exact (List.mem_filter.mp h).1

/-! ### One sample instant of all channels -/

/-- The sixteen records replaced together. -/
def State.mapChannels (s : State) (f : Index → Channel) : State :=
  { s with light := { s.light with channels := (upTo 16).map f } }

theorem State.mapChannels_apart (s : State) (f : Index → Channel) : (s.mapChannels f).apart = s.apart.mapChannels f := rfl

theorem State.mapChannels_congr (h : t.apart = s.apart) {f g : Index → Channel} (hf : ∀ n ∈ upTo 16, f n = g n) :
    (t.mapChannels f).apart = (s.mapChannels g).apart := by
  rw [State.mapChannels_apart, State.mapChannels_apart, h]
  unfold State.mapChannels
  rw [List.map_congr_left hf]

theorem State.mapChannels_channel (s : State) (f : Index → Channel) {n : Index} (hn : n ∈ upTo 16) :
    (s.mapChannels f).channel n = f n := item_map_upTo f _ hn

/-- Sixteen records replaced by themselves. -/
theorem State.mapChannels_self (hl : s.light.channels.length = 16) : s.mapChannels s.channel = s := by
  have h := map_upTo_item id (Channel.fresh false) hl
  rw [List.map_id] at h
  unfold State.mapChannels
  rw [show (upTo 16).map s.channel = s.light.channels from h]

/-- The records after the samples of the channels of a list: theirs sampled, the others as they were. -/
def State.sampledOf (s : State) (r : Index → Nat) (l : List Index) (n : Index) : Channel :=
  if n ∈ l then s.sampledChannel n (r n) else s.channel n

/-- After the sample of a list's first channel the rest's samples leave what the whole list's leave. -/
theorem State.sampledOf_cons {r : Index → Nat} {x : Index} {l : List Index} (hx : x ∉ l) (hu : x ∈ upTo 16)
    (hl : s.light.channels.length = 16) (h : t.apart = (s.setChannel x (s.sampledChannel x (r x))).apart) (n : Index) :
    t.sampledOf r l n = s.sampledOf r (x :: l) n := by
  unfold State.sampledOf
  rcases eq_or_ne n x with rfl | hne
  · rw [if_neg hx, if_pos List.mem_cons_self, State.channel_of_apart h, State.channel_setChannel_same _ hl hu]
  · rw [State.sampledChannel_of_setChannel h hne, State.channel_of_apart h, State.channel_setChannel_other _ hne]
    simp only [List.mem_cons, hne, false_or]

/-- The samples of several channels, each taken once. -/
theorem State.foldl_sampleChannel_apart (r : Index → Nat) {l : List Index} (hn : l.Nodup) (hm : ∀ n ∈ l, n ∈ upTo 16)
    (s : State) (hl : s.light.channels.length = 16) :
    (l.foldl (fun t n => t.sampleChannel n (r n)) s).apart = (s.mapChannels (s.sampledOf r l)).apart := by
  induction l generalizing s with
  | nil =>
    rw [show s.sampledOf r [] = s.channel from funext fun n => if_neg List.not_mem_nil, State.mapChannels_self hl]
    rfl
  | cons x l ih =>
    obtain ⟨hx, hn⟩ := List.nodup_cons.mp hn
    obtain ⟨hu, hm⟩ := List.forall_mem_cons.mp hm
    have happ := s.sampleChannel_apart x (r x)
    rw [List.foldl_cons, ih hn hm _ (State.sampleChannel_length hl), funext (State.sampledOf_cons hx hu hl happ),
      State.mapChannels_apart, happ, State.mapChannels_apart]
    rfl

/-- A channel enters STEADY by its sample (R11). -/
def State.entersSteady (s : State) (n raw : Nat) : Bool :=
  (s.channel n).detection != .steady && (s.sampledChannel n raw).detection == .steady

/-- Its STEADY_LIGHT (R11). -/
def State.steadyNotice (s : State) (n raw : Nat) : Notice :=
  { kind := .steadyLight, subject := n, value := (s.sampledChannel n raw).lastValue, time := s.partTime }

/-- STEADY_LIGHT of each channel of a list that enters STEADY by its sample. -/
def State.steadyNotices (s : State) (r : Index → Nat) (l : List Index) : List Notice :=
  (l.filter fun n => s.entersSteady n (r n)).map fun n => s.steadyNotice n (r n)

theorem State.steadyNotices_cons (s : State) (r : Index → Nat) (x : Index) (l : List Index) :
    s.steadyNotices r (x :: l) =
      if s.entersSteady x (r x) then s.steadyNotice x (r x) :: s.steadyNotices r l else s.steadyNotices r l := by
  unfold State.steadyNotices
  rw [List.filter_cons]
  split <;> rfl

/-- The sample of one channel leaves what the others announce. -/
theorem State.steadyNotices_of_setChannel {r : Index → Nat} {x : Index} {l : List Index} {c : Channel} (hx : x ∉ l)
    (h : t.apart = (s.setChannel x c).apart) : t.steadyNotices r l = s.steadyNotices r l := by
  have hne (n : Index) (hn : n ∈ l) : n ≠ x := fun he => hx (he ▸ hn)
  have hsampled (n : Index) (hn : n ∈ l) : t.sampledChannel n (r n) = s.sampledChannel n (r n) :=
    State.sampledChannel_of_setChannel h (hne n hn) _
  have hch (n : Index) (hn : n ∈ l) : t.channel n = s.channel n :=
    (State.channel_of_apart h n).trans (State.channel_setChannel_other c (hne n hn))
  have hnow : t.partTime = s.partTime := (State.partTime_of_apart h).trans (s.setChannel_partTime x c)
  have henters : (l.filter fun n => t.entersSteady n (r n)) = l.filter fun n => s.entersSteady n (r n) :=
    List.filter_congr fun n hn => by simp only [State.entersSteady, hch n hn, hsampled n hn]
  unfold State.steadyNotices
  rw [henters]
  refine List.map_congr_left fun n hn => ?_
  rw [State.steadyNotice, State.steadyNotice, hsampled n (List.mem_filter.mp hn).1, hnow]

/-- A sample changes no contribution of its channel to light. -/
def State.sampleQuiet (s : State) (n raw : Nat) : Prop :=
  (s.sampledChannel n raw).detection.lightFlag = s.lightFlag n ∧
    ((s.sampledChannel n raw).simulated && (s.sampledChannel n raw).detection.evaluated) = s.simulatedLight n

theorem State.sampleQuiet.of_setChannel {n m raw : Nat} {c : Channel} (hq : s.sampleQuiet n raw)
    (h : t.apart = (s.setChannel m c).apart) (hne : n ≠ m) : t.sampleQuiet n raw := by
  have hch : t.channel n = s.channel n := (State.channel_of_apart h n).trans (State.channel_setChannel_other c hne)
  unfold State.sampleQuiet State.lightFlag State.simulatedLight at hq ⊢
  rw [State.sampledChannel_of_setChannel h hne, hch]
  exact hq

/-- A sample that changes no contribution to light replaces the record and announces STEADY, no more. -/
theorem State.sampleChannel_quiet {n raw : Nat} (h : s.sampleQuiet n raw) (hl : s.light.channels.length = 16)
    (hn : n ∈ upTo 16) :
    s.sampleChannel n raw =
      { s.setChannel n (s.sampledChannel n raw) with
        notices := if s.entersSteady n raw then enqueue s.notices (s.steadyNotice n raw) else s.notices } := by
  obtain ⟨hf, hs⟩ := h
  have hc := State.channel_setChannel_same (s.sampledChannel n raw) hl hn
  rw [s.sampleChannel_eq]
  have hnote (l : Nat) :
      (s.noteSteady (s.setChannel n (s.sampledChannel n raw)) n l).channel n = s.sampledChannel n raw := by
    rw [State.channel_of_apart (State.noteSteady_apart _ _ _ _), hc]
  have hhand (l : Nat) : s.handChannel (s.noteSteady (s.setChannel n (s.sampledChannel n raw)) n l) n =
      s.noteSteady (s.setChannel n (s.sampledChannel n raw)) n l := by
    have hfl : (s.noteSteady (s.setChannel n (s.sampledChannel n raw)) n l).lightFlag n = s.lightFlag n := by
      rw [State.lightFlag, hnote, hf]
    have hsl : (s.noteSteady (s.setChannel n (s.sampledChannel n raw)) n l).simulatedLight n = s.simulatedLight n := by
      rw [State.simulatedLight, hnote, hs]
    simp [State.handChannel, hfl, hsl]
  rw [hhand]
  unfold State.noteSteady State.entersSteady
  rw [hc]
  split <;> rfl

/-- Samples that change no contribution to light replace the records and announce STEADY in the order of taking. -/
theorem State.foldl_sampleChannel_quiet (r : Index → Nat) {l : List Index} (hn : l.Nodup) (hm : ∀ n ∈ l, n ∈ upTo 16)
    (s : State) (hl : s.light.channels.length = 16) (hq : ∀ n ∈ l, s.sampleQuiet n (r n)) :
    l.foldl (fun t n => t.sampleChannel n (r n)) s =
      { s.mapChannels (s.sampledOf r l) with notices := (s.steadyNotices r l).foldl enqueue s.notices } := by
  induction l generalizing s with
  | nil =>
    rw [show s.sampledOf r [] = s.channel from funext fun n => if_neg List.not_mem_nil, State.mapChannels_self hl]
    rfl
  | cons x l ih =>
    obtain ⟨hx, hn⟩ := List.nodup_cons.mp hn
    obtain ⟨hu, hm⟩ := List.forall_mem_cons.mp hm
    obtain ⟨hqx, hq⟩ := List.forall_mem_cons.mp hq
    have happ := s.sampleChannel_apart x (r x)
    have hof := funext (State.sampledOf_cons hx hu hl happ)
    have hquiet : ∀ n ∈ l, (s.sampleChannel x (r x)).sampleQuiet n (r n) := fun n h =>
      (hq n h).of_setChannel happ fun he => hx (he ▸ h)
    rw [List.foldl_cons, ih hn hm _ (State.sampleChannel_length hl) hquiet, funext (State.sampledOf_cons hx hu hl happ),
      State.steadyNotices_of_setChannel hx happ, State.sampleChannel_quiet hqx hl hu, State.steadyNotices_cons]
    split <;> rfl

end Sys2Proof.Machine
end

section
/-! LIGHT_SAMPLE (R4): the instant it comes at, the records it leaves, and what it leaves alone. -/

namespace Sys2Proof.Machine

open Wire

variable {s t : State}

/-! ### The instant (R4) -/

theorem le_ceilTo {k : Nat} (hk : 0 < k) (n : Nat) : n ≤ ceilTo k n := by
  have hdiv := Nat.div_add_mod (n + k - 1) k
  have hmod := Nat.mod_lt (n + k - 1) hk
  unfold ceilTo
  rw [Nat.mul_comm]
  omega

/-- A multiple of the interval is not passed by rounding up what does not pass it. -/
theorem ceilTo_le {k n m : Nat} (hk : 0 < k) (hm : k ∣ m) (h : n ≤ m) : ceilTo k n ≤ m := by
  obtain ⟨j, rfl⟩ := hm
  have hlt : (n + k - 1) / k < j + 1 := (Nat.div_lt_iff_lt_mul hk).mpr (by rw [Nat.add_mul, Nat.mul_comm j]; omega)
  unfold ceilTo
  rw [Nat.mul_comm]
  exact Nat.mul_le_mul_left k (Nat.lt_succ_iff.mp hlt)

theorem State.clock_le_nextLight (s : State) : s.clock ≤ s.nextLight :=
  (le_ceilTo (by decide) s.clock).trans (Nat.le_max_right _ _)

/-- No instant let pass, the next is 100 µs after the last. -/
theorem State.nextLight_of_last {u : Instant} (hu : s.light.lastSample = some u) (hd : 1200 ∣ u)
    (hc : s.clock ≤ u + 1200) : s.nextLight = u + 1200 := by
  have hceil : ceilTo Config.lightInterval s.clock ≤ u + 1200 := ceilTo_le (by decide) (hd.add (dvd_refl 1200)) hc
  unfold State.nextLight
  rw [hu]
  exact Nat.max_eq_left hceil

/-- The first instant is the restart (notes/assumptions/11.md). -/
theorem State.nextLight_first (hl : s.light.lastSample = none) (hc : s.clock = 0) : s.nextLight = 0 := by
  unfold State.nextLight
  rw [hl, hc]
  rfl

/-- The state when the sample instant has come, before any channel is taken. -/
def State.atSample (s : State) : State :=
  { s.advanceTo s.nextLight with
    light := { s.light with lastSample := some s.nextLight, interval := s.light.interval + 1 } }

theorem State.atSample_clock (s : State) : s.atSample.clock = s.nextLight :=
  (s.advanceTo_clock s.nextLight).trans (Nat.max_eq_right s.clock_le_nextLight)

theorem State.atSample_channel (s : State) (n : Index) : s.atSample.channel n = s.channel n := rfl

theorem State.atSample_settings (s : State) : s.atSample.settings = s.settings := s.advanceTo_settings _

theorem State.atSample_channelSet (s : State) (n : Index) : s.atSample.channelSet n = s.channelSet n := by
  unfold State.channelSet
  rw [s.atSample_settings]

/-! ### The command -/

/-- The raw reading of a channel. -/
def reading (raw : List Nat) (n : Index) : Nat := min 4095 (item raw 0 n)

/-- The state after LIGHT_SAMPLE where nothing is owed. -/
def State.afterSample (s : State) (raw : List Nat) : State := settle s (s.atSample.sampleAll raw)

theorem exec_lightSample (raw : List Nat) (hp : s.powered = true) (ho : s.lightOwes = false) :
    exec (.lightSample raw) s = .next (s.afterSample raw) := by
  show execLightSample raw s = _
  rw [execLightSample, conclude_powered s _ hp, if_neg (by simp [ho])]
  unfold State.afterSample State.atSample
  dsimp only
  rw [State.advanceTo_light]

/-- A step of the front end that is owed comes first (notes/assumptions/12.md). -/
theorem exec_lightSample_owed (raw : List Nat) (hp : s.powered = true) (ho : s.lightOwes = true) :
    exec (.lightSample raw) s = .next (settle s s) := by
  show execLightSample raw s = _
  rw [execLightSample, conclude_powered s _ hp, if_pos ho]

theorem State.atSample_sampledChannel (s : State) (n : Index) (r : Nat) :
    s.atSample.sampledChannel n r = (s.channel n).sampled (s.channelSet n) r s.atSample.partTime := by
  unfold State.sampledChannel
  rw [State.atSample_channel, State.atSample_channelSet]

/-- Beside the sixteen records only the decision path changes after the instant has come. -/
theorem State.afterSample_apart (raw : List Nat) (hl : s.light.channels.length = 16) :
    (s.afterSample raw).apart = (s.atSample.mapChannels fun n => s.atSample.sampledChannel n (reading raw n)).apart := by
  refine (settle_apart s _).trans ((State.foldl_sampleChannel_apart (reading raw) (inOrder_nodup _ _)
    (fun n hn => mem_inOrder_iff.mp hn) s.atSample hl).trans (State.mapChannels_congr rfl fun n hn => ?_))
  exact if_pos (mem_inOrder_iff.mpr hn)

section

variable (raw : List Nat) (hl : s.light.channels.length = 16)
include hl

theorem State.afterSample_clock : (s.afterSample raw).clock = s.nextLight :=
  (State.clock_of_apart (s.afterSample_apart raw hl)).trans s.atSample_clock

theorem State.afterSample_partTime : (s.afterSample raw).partTime = s.atSample.partTime :=
  (State.partTime_of_apart (s.afterSample_apart raw hl) :)

theorem State.afterSample_light : (s.afterSample raw).light =
    { lastSample := some s.nextLight, interval := s.light.interval + 1
      channels := (upTo 16).map fun n => s.atSample.sampledChannel n (reading raw n) } :=
  (State.light_of_apart (s.afterSample_apart raw hl) :)

/-- Each record is the one its sample leaves. -/
theorem State.afterSample_channel {n : Index} (hn : n ∈ upTo 16) :
    (s.afterSample raw).channel n =
      (s.channel n).sampled (s.channelSet n) (reading raw n) (s.afterSample raw).partTime := by
  rw [State.channel_of_apart (s.afterSample_apart raw hl), State.mapChannels_channel _ _ hn,
    State.atSample_sampledChannel, State.afterSample_partTime raw hl]

/-- Beside the light front end only time has passed and the decision path changed. -/
theorem State.afterSample_frame : (s.afterSample raw).apart =
    ({ s.advanceTo (s.afterSample raw).clock with light := (s.afterSample raw).light } : State).apart := by
  rw [s.afterSample_apart raw hl, State.afterSample_clock raw hl, State.afterSample_light raw hl]
  rfl

end

/-! ### Captures (R37) -/

/-- The first four instants of a capture burst give its pulses, the mean is taken at the fourth. -/
theorem Capture.take_after {k : Capture} (raw : Nat) (h : 4 ≤ k.pulses) :
    k.take raw = { k with begun := max 1 k.begun, samples := k.samples + 1 } := by
  simp [Capture.take, Nat.not_lt.mpr h]

theorem Capture.take_pulse {k : Capture} (raw : Nat) (h : k.pulses < 3) :
    k.take raw = { k with
      begun := max 1 k.begun, samples := k.samples + 1, pulses := k.pulses + 1, sum := k.sum + raw } := by
  have h4 : k.pulses < 4 := by omega
  have h3 : k.pulses ≠ 3 := by omega
  simp [Capture.take, h4, h3]

theorem Capture.take_last {k : Capture} (raw : Nat) (h : k.pulses = 3) :
    k.take raw = { k with
      begun := max 1 k.begun, samples := k.samples + 1, pulses := 4, sum := k.sum + raw
      means := k.means + (k.sum + raw) / 4 } := by
  simp [Capture.take, h]

/-! ### Samples that change no contribution to light (R11, R12) -/

/-- Such a sample leaves the decision path as it was, but for the announcements of STEADY. -/
theorem State.sampleAll_quiet (raw : List Nat) (hl : s.light.channels.length = 16)
    (hq : ∀ n ∈ upTo 16, (s.afterSample raw).lightFlag n = s.lightFlag n ∧
      (s.afterSample raw).simulatedLight n = s.simulatedLight n) :
    s.atSample.sampleAll raw =
      { s.atSample.mapChannels (s.atSample.sampledOf (reading raw) (inOrder s.atSample.sched.channels 16)) with
        notices := (s.atSample.steadyNotices (reading raw) (inOrder s.atSample.sched.channels 16)).foldl enqueue
          s.atSample.notices } := by
  refine State.foldl_sampleChannel_quiet (reading raw) (inOrder_nodup _ _) (fun n hn => mem_inOrder_iff.mp hn)
    s.atSample hl fun n hn => ?_
  obtain ⟨hf, hs⟩ := hq n (mem_inOrder_iff.mp hn)
  have hch : (s.afterSample raw).channel n = s.atSample.sampledChannel n (reading raw n) := by
    rw [State.afterSample_channel raw hl (mem_inOrder_iff.mp hn), State.afterSample_partTime raw hl,
      State.atSample_sampledChannel]
  rw [State.lightFlag, hch] at hf
  rw [State.simulatedLight, hch] at hs
  exact ⟨hf, hs⟩

/-- The announcements, by the records before and after. -/
theorem State.atSample_steadyNotices (raw : List Nat) (hl : s.light.channels.length = 16) :
    s.atSample.steadyNotices (reading raw) (inOrder s.atSample.sched.channels 16) =
      ((inOrder s.sched.channels 16).filter fun n =>
        (s.channel n).detection != .steady && ((s.afterSample raw).channel n).detection == .steady).map fun n =>
          ({ kind := .steadyLight, subject := n, value := ((s.afterSample raw).channel n).lastValue
             time := (s.afterSample raw).partTime } : Notice) := by
  have hch (n : Index) (hn : n ∈ inOrder s.sched.channels 16) :
      s.atSample.sampledChannel n (reading raw n) = (s.afterSample raw).channel n := by
    rw [State.afterSample_channel raw hl (mem_inOrder_iff.mp hn), State.afterSample_partTime raw hl,
      State.atSample_sampledChannel]
  unfold State.steadyNotices State.entersSteady State.steadyNotice
  rw [show s.atSample.sched = s.sched from s.advanceTo_sched _, State.afterSample_partTime raw hl,
    List.filter_congr fun n hn => by rw [State.atSample_channel, hch n hn]]
  exact List.map_congr_left fun n hn => by rw [hch n (List.mem_filter.mp hn).1]

/-- Settles O17: LIGHT_SAMPLE leaves each record as `Channel.sampled` says, and the samples of one instant that change no
contribution to light come to the replacement of the records and the announcements of STEADY. -/
theorem lightSamplesAreTaken : Obligations.LightSamplesAreTaken := by
  unfold Obligations.LightSamplesAreTaken
  refine ⟨fun s raw hp => ⟨exec_lightSample_owed raw hp, fun ho hl => ⟨_, exec_lightSample raw hp ho, ?_⟩⟩,
    fun s raw hp ho hl => ⟨_, exec_lightSample raw hp ho, fun hq => ?_⟩⟩
  · have hclock := State.afterSample_clock raw hl
    have hlight := State.afterSample_light raw hl
    refine ⟨fun u hu hd hc => hclock.trans (State.nextLight_of_last hu hd hc),
      fun hn hc => hclock.trans (State.nextLight_first hn hc), by rw [hlight, hclock], by rw [hlight],
      by rw [hlight]; simp [upTo], State.afterSample_frame raw hl, fun n hn => ?_⟩
    have hused : s.usedChannel n = true → (s.channelSet n).kind ≠ .unused := by simp [State.usedChannel]
    dsimp only
    rw [State.afterSample_channel raw hl hn]
    refine ⟨fun hu => Channel.sampled_unused _ _ (by simpa [State.usedChannel] using hu), fun hu hk hb hd => ?_,
      fun hu hk b hb => Channel.sampled_burst _ _ (hused hu) hk hb, fun hu k hk => ?_⟩
    · refine Channel.sampled_idle _ _ (hused hu) hk hb ?_
      rcases hd with hd | hd <;> rw [hd] <;> rfl
    · rw [Channel.sampled_capture _ _ (hused hu) hk]
      exact ⟨fun h => by rw [Capture.take_after _ h], fun h => by rw [Capture.take_pulse _ h]; rfl,
        fun h => by rw [Capture.take_last _ h]; rfl⟩
  · rw [← State.atSample_steadyNotices raw hl]
    have hall := State.sampleAll_quiet raw hl hq
    unfold State.afterSample
    simp only [settle_zones, settle_orders, settle_outputs, settle_lockout, settle_records, settle_store, settle_notices,
      hall]
    exact ⟨s.advanceTo_zones _, s.advanceTo_orders _, s.advanceTo_outputs _, s.advanceTo_lockout _,
      s.advanceTo_records _, s.advanceTo_store _, by
        rw [show s.atSample.notices = s.notices from s.advanceTo_notices _]⟩

/-! ### Detection (R5 to R11) -/

section

variable {c : Channel} {θ count l : Nat} (now : PartTime)

/-- A sample below θ in DARK (R8). -/
theorem Channel.qualify_dark_below (hd : c.detection = .dark) (h : l < θ) :
    c.qualify θ count l now = { c with pickupCount := 0 } := by
  simp [Channel.qualify, hd, Nat.not_le.mpr h]

/-- The first light sample of an episode (R8). -/
theorem Channel.qualify_dark_light (hd : c.detection = .dark) (h : θ ≤ l) (hk : 1 < count) :
    c.qualify θ count l now = { c with detection := .pickup, pickupCount := 1 } := by
  simp [Channel.qualify, hd, h, Nat.not_le.mpr hk]

/-- A sample below θ in PICKUP ends the episode (R9). -/
theorem Channel.qualify_pickup_below (hd : c.detection = .pickup) (h : l < θ) :
    c.qualify θ count l now = { c with detection := .dark, pickupCount := 0 } := by
  simp [Channel.qualify, hd, Nat.not_le.mpr h]

/-- A further light sample short of K (R9). -/
theorem Channel.qualify_pickup_light (hd : c.detection = .pickup) (h : θ ≤ l) (hk : c.pickupCount + 1 < count) :
    c.qualify θ count l now = { c with pickupCount := c.pickupCount + 1 } := by
  simp [Channel.qualify, hd, h, Nat.not_le.mpr hk]

/-- The light sample at which the count reaches K (R8, R9). -/
theorem Channel.qualify_enters (h : θ ≤ l)
    (hd : (c.detection = .dark ∧ count ≤ 1) ∨ (c.detection = .pickup ∧ count ≤ c.pickupCount + 1)) :
    c.qualify θ count l now = c.enterLit now := by
  rcases hd with ⟨hd, hk⟩ | ⟨hd, hk⟩ <;> simp [Channel.qualify, hd, h, hk]

/-- The drop count after a sample in LIT or STEADY (R10). -/
def Channel.dropsAt (c : Channel) (θ l : Nat) : Nat := if l < θ - θ / 8 then c.drops + 1 else 0

/-- The tenth sample below the drop level ends the episode (R10). -/
theorem Channel.qualify_drops (hd : c.detection = .lit ∨ c.detection = .steady) (h : 10 ≤ c.dropsAt θ l) :
    c.qualify θ count l now = { c with detection := .dark, pickupCount := 0, drops := 0, litSince := none } := by
  have h' : Config.dropCount ≤ if l < dropLevel θ then c.drops + 1 else 0 := h
  rcases hd with hd | hd <;> simp only [Channel.qualify, hd, if_pos h']

/-- A sample that leaves the channel lit takes it to STEADY after 2000 ms (R10, R11). -/
theorem Channel.qualify_lit (hd : c.detection = .lit ∨ c.detection = .steady) (h : c.dropsAt θ l < 10) :
    c.qualify θ count l now =
      if c.detection = .lit ∧ c.longLit now = true then { c with detection := .steady, drops := c.dropsAt θ l }
      else { c with drops := c.dropsAt θ l } := by
  have h' : ¬ Config.dropCount ≤ if l < dropLevel θ then c.drops + 1 else 0 := Nat.not_le.mpr h
  rcases hd with hd | hd <;>
    simp only [Channel.qualify, hd, if_neg h', Bool.and_eq_true, beq_iff_eq] <;> rfl

theorem elim_false_iff {α : Type} {o : Option α} {p : α → Bool} : o.elim false p = true ↔ ∃ u ∈ o, p u = true := by
  cases o <;> simp

theorem partTimeModulus_eq : Config.partTimeModulus = 4294967296 := by norm_num [Config.partTimeModulus]

theorem steadyMs_eq : Config.steadyMs = 2000 := rfl

/-- 2000 ms of part time past lit since, modulo its wrap (R11). -/
theorem Channel.longLit_iff : c.longLit now = true ↔ ∃ u ∈ c.litSince, 2000 ≤ (now + 4294967296 - u) % 4294967296 := by
  rw [← partTimeModulus_eq, ← steadyMs_eq]
  unfold Channel.longLit
  simp only [elim_false_iff, decide_eq_true_eq]

end

/-- In the states whose samples are evaluated an episode is what is not DARK. -/
theorem Detection.episode_eq {d : Detection} (h : d.evaluated = true) : d.episode = (d != .dark) := by
  revert h
  cases d <;> decide

/-- A record whose detection state is written over with itself. -/
theorem Channel.with_detection {c : Channel} {d : Detection} (h : c.detection = d) :
    ({ c with detection := d } : Channel) = c := by
  subst h
  rfl

/-- Settles O18: the record `Channel.sampled` leaves in detection, by the cases of qualification. -/
theorem lightSampleQualifies : Obligations.LightSampleQualifies := by
  unfold Obligations.LightSampleQualifies
  intro s raw n hp ho hl hn hu hk hb hd c k l θ drops base
  refine ⟨_, exec_lightSample raw hp ho, ?_⟩
  have heval : c.detection.evaluated = true := by
    simp only [List.mem_cons, List.not_mem_nil, or_false] at hd
    rcases hd with h | h | h | h <;> rw [show c.detection = _ from h] <;> rfl
  have hbase : ({ c with lastValue := l } : Channel).tally θ l = base := by
    show ({ c with
      lastValue := l, evaluated := c.evaluated + 1, evaluatedSum := c.evaluatedSum + l
      touchedLight := c.touchedLight || c.detection.episode || decide (θ ≤ l) } : Channel) = base
    rw [Detection.episode_eq heval]
  have hch : (s.afterSample raw).channel n = base.qualify θ k.qualify l (s.afterSample raw).partTime := by
    have hused : k.kind ≠ .unused := by simpa [State.usedChannel] using hu
    rw [State.afterSample_channel raw hl hn, Channel.sampled_evaluated _ _ hused hk hb heval, ← hbase]
    rfl
  beta_reduce
  rw [hch]
  refine ⟨fun hd h => base.qualify_dark_below _ hd h, fun hd h hq => base.qualify_dark_light _ hd h hq,
    fun hd h => base.qualify_pickup_below _ hd h, fun hd h hq => base.qualify_pickup_light _ hd h hq, fun h => ?_,
    fun hd h => base.qualify_drops _ hd h, fun hd h => ?_⟩
  · exact base.qualify_enters _ (h.elim (fun h => h.2.1) fun h => h.2.1)
      (h.imp (fun h => ⟨h.1, h.2.2⟩) fun h => ⟨h.1, h.2.2⟩)
  · have hlit := base.qualify_lit (θ := θ) (count := k.qualify) (l := l) (s.afterSample raw).partTime hd h
    rw [hlit]
    intro long
    have hlong : base.longLit (s.afterSample raw).partTime = true ↔ long := Channel.longLit_iff _
    refine ⟨fun hs => ?_, fun hs => ?_⟩
    · split
      · rfl
      · next hn =>
        have hsteady : base.detection = .steady := hd.resolve_left fun hl => hn ⟨hl, hlong.mpr (hs.resolve_left (by
          rw [show c.detection = .lit from hl]; decide))⟩
        exact (Channel.with_detection (c := { base with drops := drops }) hsteady).symm
    · rw [if_neg fun h => hs.2 (hlong.mp h.2)]
      exact (Channel.with_detection (c := { base with drops := drops }) hs.1).symm

end Sys2Proof.Machine
end

section
/-! The requests on channels and points (R17, R18, R20, R36, R51): what each makes of a channel by its detection state. -/

namespace Sys2Proof.Machine

open Wire

variable {s : State} {n : Index}

/-! ### The port around a request (R174, R175, R181) -/

/-- A request that reaches the owning block is answered with what the block makes of it. -/
theorem conclude_request {kind : Nat} {body : List Byte} {act : State → Handled} (h : s.ready)
    (hr : judgeBody s.control.state kind body = none) :
    conclude s (fun s => s.request kind body act) = .next (settle s ((act s.beginHandling).compose kind)) := by
  rw [conclude_powered s _ h.1, State.request_taken h hr]

/-- An index byte in its range earns no refusal. -/
theorem Field.refusal_index {last x : Nat} (h : x ∈ upTo last) : (Field.index last).refusal x = none := by
  obtain ⟨h1, h2⟩ := mem_upTo.mp h
  simp [Field.refusal, h1, h2]

/-- Nor does an enumeration or flag byte in its. -/
theorem Field.refusal_choice {last x : Nat} (h : x ≤ last) : (Field.choice last).refusal x = none := by
  simp [Field.refusal, h]

/-- A body of one index byte reaches the owning block. -/
theorem judgeBody_index {st : Protection} {kind last : Nat} {x : Byte} (hk : kindFields kind = some [.index last])
    (hs : st ≠ .starting) (hx : x.toNat ∈ upTo last) : judgeBody st kind [x] = none := by
  refine judgeBody_none hk hs rfl ?_
  simp [bodyRefusal, at0, Field.refusal_index hx]

/-- The flag byte of a request that sets or clears. -/
def flagByte (on : Bool) : Byte := if on then 1 else 0

theorem flagByte_read (x : Byte) (on : Bool) : (at0 [x, flagByte on] 1 == 1) = on := by cases on <;> rfl

theorem flagByte_le (x : Byte) (on : Bool) : at0 [x, flagByte on] 1 ≤ 1 := by
  cases on with
  | false => exact Nat.zero_le 1
  | true => exact Nat.le_refl 1

/-- A body of an index byte and a flag byte reaches the owning block. -/
theorem judgeBody_flag {st : Protection} {kind last : Nat} {x : Byte} (on : Bool)
    (hk : kindFields kind = some [.index last, .choice 1]) (hs : st ≠ .starting) (hx : x.toNat ∈ upTo last) :
    judgeBody st kind [x, flagByte on] = none := by
  refine judgeBody_none hk hs rfl ?_
  have hindex : (Field.index last).refusal (at0 [x, flagByte on] 0) = none := Field.refusal_index hx
  simp only [bodyRefusal, hindex, Field.width, Field.refusal_choice (flagByte_le x on)]

/-- The reply does not depend on what the decision path did. -/
theorem accept_compose_apart {t u : State} (h : t.apart = u.apart) (body : List Byte) (kind : Nat) :
    ((accept t body).compose kind).apart = ((accept u body).compose kind).apart := by
  have key (v : State) : ((accept v body).compose kind).apart = (accept v.apart body).compose kind := rfl
  rw [key, key, h]

/-- A channel's record replaced by an accepted request. -/
theorem accept_setChannel_compose (c : Channel) (kind : Nat) :
    (accept (s.beginHandling.setChannel n c) []).compose kind = (s.answered kind [0]).setChannel n c :=
  (congrArg (fun u : State => u.setChannel n c) (accept_compose (s := s) (kind := kind) []) :)

/-- A point's record replaced by an accepted request. -/
theorem accept_setPoint_compose (p : Point) (kind : Nat) :
    (accept (s.beginHandling.setPoint n p) []).compose kind = (s.answered kind [0]).setPoint n p :=
  (congrArg (fun u : State => u.setPoint n p) (accept_compose (s := s) (kind := kind) []) :)

/-- A channel's record replaced by an accepted request, and its zones told. -/
theorem accept_handChannel_apart (c : Channel) (kind : Nat) (t : State) :
    ((accept (t.handChannel (s.beginHandling.setChannel n c) n) []).compose kind).apart =
      ((s.answered kind [0]).setChannel n c).apart := by
  rw [accept_compose_apart (t.handChannel_apart _ n), accept_setChannel_compose]

theorem State.beginHandling_channel (s : State) (n : Index) : s.beginHandling.channel n = s.channel n := by
  unfold State.channel
  rw [s.beginHandling_light]

theorem State.beginHandling_point (s : State) (m : Index) : s.beginHandling.point m = s.point m := by
  unfold State.point
  rw [s.beginHandling_current]

/-! ### The judgements, by detection state -/

/-- The states from which a channel can be taken OUT: all of a used channel's but OUT and REFERENCING. -/
def Detection.inService (d : Detection) : Prop := d ∈ [Detection.suspended, .dark, .pickup, .lit, .steady]

theorem Detection.inService_iff {d : Detection} : d.inService ↔ d ≠ .unused ∧ d ≠ .out ∧ d ≠ .referencing := by
  unfold Detection.inService
  cases d <;> decide

section

theorem State.channelOut_unused (hd : (s.channel n).detection = .unused) : s.channelOut n = refuse s .badIndex := by
  simp [State.channelOut, hd]

theorem State.channelOut_referencing (hd : (s.channel n).detection = .referencing) : s.channelOut n = refuse s .busy := by
  simp [State.channelOut, hd]

theorem State.channelOut_out (hd : (s.channel n).detection = .out) : s.channelOut n = accept s [] := by
  simp [State.channelOut, hd]

theorem State.channelOut_inService (hd : (s.channel n).detection.inService) :
    s.channelOut n = accept (s.handChannel (s.setChannel n (s.channel n).takeOut) n) [] := by
  obtain ⟨h1, h2, h3⟩ := Detection.inService_iff.mp hd
  unfold State.channelOut
  split
  case h_1 | h_2 | h_3 => contradiction
  all_goals rfl

theorem State.channelIn_unused (hd : (s.channel n).detection = .unused) : s.channelIn n = refuse s .badIndex := by
  simp [State.channelIn, hd]

theorem State.channelIn_referencing (hd : (s.channel n).detection = .referencing) : s.channelIn n = refuse s .busy := by
  simp [State.channelIn, hd]

theorem State.channelIn_out (hd : (s.channel n).detection = .out) :
    s.channelIn n = accept (s.handChannel (s.setChannel n (s.channel n).bringIn) n) [] := by
  simp [State.channelIn, hd]

theorem State.channelIn_inService (hd : (s.channel n).detection.inService) : s.channelIn n = refuse s .wrongState := by
  obtain ⟨h1, h2, h3⟩ := Detection.inService_iff.mp hd
  unfold State.channelIn
  split
  case h_1 | h_2 | h_3 => contradiction
  all_goals rfl

theorem State.captureReference_unused (hd : (s.channel n).detection = .unused) :
    s.captureReference n = refuse s .badIndex := by simp [State.captureReference, hd]

theorem State.captureReference_referencing (hd : (s.channel n).detection = .referencing) :
    s.captureReference n = refuse s .busy := by simp [State.captureReference, hd]

theorem State.captureReference_burst (hd : (s.channel n).detection = .out) (hb : (s.channel n).burst.isSome) :
    s.captureReference n = refuse s .busy := by simp [State.captureReference, hd, hb]

theorem State.captureReference_out (hd : (s.channel n).detection = .out) (hb : (s.channel n).burst = none) :
    s.captureReference n = accept (s.setChannel n { s.channel n with
      detection := .referencing
      capture := some { begun := 0, samples := 0, pulses := 0, sum := 0, means := 0 } }) [] := by
  simp [State.captureReference, hd, hb]

theorem State.captureReference_inService (hd : (s.channel n).detection.inService) :
    s.captureReference n = refuse s .wrongState := by
  obtain ⟨h1, h2, h3⟩ := Detection.inService_iff.mp hd
  unfold State.captureReference
  dsimp only
  split
  case h_8 => contradiction
  case h_1 | h_2 => contradiction
  all_goals rfl

theorem State.simulateLight_outsideTest (on : Bool) (ht : s.control.state ≠ .test) :
    s.simulateLight n on = refuse s .wrongState := by simp [State.simulateLight, ht]

variable (on : Bool) (ht : s.control.state = .test)
include ht

theorem State.simulateLight_unused (hd : (s.channel n).detection = .unused) :
    s.simulateLight n on = refuse s .badIndex := by simp [State.simulateLight, ht, hd]

theorem State.simulateLight_referencing (hd : (s.channel n).detection = .referencing) :
    s.simulateLight n on = refuse s .busy := by simp [State.simulateLight, ht, hd]

theorem State.simulateLight_out (hd : (s.channel n).detection = .out) :
    s.simulateLight n on = refuse s .wrongState := by simp [State.simulateLight, ht, hd]

theorem State.simulateLight_inService (hd : (s.channel n).detection.inService) :
    s.simulateLight n on = accept (s.handChannel (s.setChannel n { s.channel n with simulated := on }) n) [] := by
  obtain ⟨h1, h2, h3⟩ := Detection.inService_iff.mp hd
  unfold State.simulateLight
  rw [if_neg (by simp [ht])]
  split
  case h_1 | h_2 | h_3 => contradiction
  all_goals rfl

end

/-! ### The commands -/

section

variable {x : Byte} (h : s.ready) (hs : s.control.state ≠ .starting) (hx : x.toNat ∈ upTo 16)
include h hs hx

theorem exec_channelOut :
    exec (.channelOut [x]) s = .next (settle s ((s.beginHandling.channelOut x.toNat).compose 17)) :=
  conclude_request h (judgeBody_index rfl hs hx)

theorem exec_channelIn :
    exec (.channelIn [x]) s = .next (settle s ((s.beginHandling.channelIn x.toNat).compose 18)) :=
  conclude_request h (judgeBody_index rfl hs hx)

theorem exec_captureReference :
    exec (.captureReference [x]) s = .next (settle s ((s.beginHandling.captureReference x.toNat).compose 19)) :=
  conclude_request h (judgeBody_index rfl hs hx)

theorem exec_simulateLight (on : Bool) :
    exec (.simulateLight [x, flagByte on]) s =
      .next (settle s ((s.beginHandling.simulateLight x.toNat on).compose 20)) := by
  refine (conclude_request (act := fun t => t.simulateLight (at0 [x, flagByte on] 0) (at0 [x, flagByte on] 1 == 1)) h
    (judgeBody_flag (kind := 20) on rfl hs hx)).trans ?_
  rw [flagByte_read]
  rfl

omit hx in
theorem exec_simulateCurrent (on : Bool) (hx : x.toNat ∈ upTo 4) :
    exec (.simulateCurrent [x, flagByte on]) s =
      .next (settle s ((s.beginHandling.simulateCurrent x.toNat on).compose 21)) := by
  refine (conclude_request
    (act := fun t => t.simulateCurrent (at0 [x, flagByte on] 0) (at0 [x, flagByte on] 1 == 1)) h
    (judgeBody_flag (kind := 21) on rfl hs hx)).trans ?_
  rw [flagByte_read]
  rfl

end

/-- A refusal by the owning block is answered with its code, and nothing else happens. -/
theorem answered_of_refused {i : Instr} {kind : Nat} {hd : Handled} {r : Result} {b : Byte}
    (he : exec i s = .next (settle s (hd.compose kind))) (hr : hd = refuse s.beginHandling r) (hb : byte r.code = b) :
    exec i s = .next (settle s (s.answered kind [b])) := by
  rw [he, hr, refuse_compose, hb]

/-- An acceptance that changes nothing. -/
theorem answered_of_accepted {i : Instr} {kind : Nat} {hd : Handled}
    (he : exec i s = .next (settle s (hd.compose kind))) (ha : hd = accept s.beginHandling []) :
    exec i s = .next (settle s (s.answered kind [0])) := by
  rw [he, ha, accept_compose]

/-- An acceptance that changes a channel's record, and its zones as far as its contribution to light changes. -/
theorem gives_of_handed {i : Instr} {kind : Nat} {hd : Handled} {c : Channel} {t : State}
    (he : exec i s = .next (settle s (hd.compose kind)))
    (ha : hd = accept (t.handChannel (s.beginHandling.setChannel n c) n) []) :
    Gives i s fun u => u.apart = ((s.answered kind [0]).setChannel n c).apart := by
  refine ⟨_, he, ?_⟩
  beta_reduce
  rw [settle_apart, ha, accept_handChannel_apart]

/-- SIMULATE_CURRENT in TEST: the simulation is set, and the zones are told if it changed (R51). -/
theorem State.simulateCurrent_inTest {m : Index} (on : Bool) (ht : s.control.state = .test) :
    s.simulateCurrent m on =
      accept (if (s.point m).simulated == on then s.setPoint m { s.point m with simulated := on }
        else (s.setPoint m { s.point m with simulated := on }).evaluatePoint m) [] := by
  simp [State.simulateCurrent, ht]

theorem State.simulateCurrent_outsideTest {m : Index} (on : Bool) (ht : s.control.state ≠ .test) :
    s.simulateCurrent m on = refuse s .wrongState := by simp [State.simulateCurrent, ht]

/-- A point's record replaced by itself. -/
theorem State.setPoint_self (s : State) (m : Index) : s.setPoint m (s.point m) = s := by
  unfold State.setPoint State.point
  rw [put_item_self]

section

variable {x : Byte} (h : s.ready) (hs : s.control.state ≠ .starting) (hx : x.toNat ∈ upTo 16) (on : Bool)
include h hs hx

/-- An UNUSED channel's index is refused with BAD_INDEX (R17, R18, R20, R36). -/
theorem channelRequests_unused (hd : (s.channel x.toNat).detection = .unused) :
    exec (.channelOut [x]) s = .next (settle s (s.answered 17 [3])) ∧
      exec (.channelIn [x]) s = .next (settle s (s.answered 18 [3])) ∧
      exec (.captureReference [x]) s = .next (settle s (s.answered 19 [3])) ∧
      (s.control.state = .test → exec (.simulateLight [x, flagByte on]) s = .next (settle s (s.answered 20 [3]))) := by
  rw [← s.beginHandling_channel] at hd
  exact ⟨answered_of_refused (exec_channelOut h hs hx) (State.channelOut_unused hd) rfl,
    answered_of_refused (exec_channelIn h hs hx) (State.channelIn_unused hd) rfl,
    answered_of_refused (exec_captureReference h hs hx) (State.captureReference_unused hd) rfl, fun ht =>
      answered_of_refused (exec_simulateLight h hs hx on)
        (State.simulateLight_unused on (s.beginHandling_state.trans ht) hd) rfl⟩

/-- A channel in a capture is BUSY (R17, R18, R20, R36). -/
theorem channelRequests_referencing (hd : (s.channel x.toNat).detection = .referencing) :
    exec (.channelOut [x]) s = .next (settle s (s.answered 17 [6])) ∧
      exec (.channelIn [x]) s = .next (settle s (s.answered 18 [6])) ∧
      exec (.captureReference [x]) s = .next (settle s (s.answered 19 [6])) ∧
      (s.control.state = .test → exec (.simulateLight [x, flagByte on]) s = .next (settle s (s.answered 20 [6]))) := by
  rw [← s.beginHandling_channel] at hd
  exact ⟨answered_of_refused (exec_channelOut h hs hx) (State.channelOut_referencing hd) rfl,
    answered_of_refused (exec_channelIn h hs hx) (State.channelIn_referencing hd) rfl,
    answered_of_refused (exec_captureReference h hs hx) (State.captureReference_referencing hd) rfl, fun ht =>
      answered_of_refused (exec_simulateLight h hs hx on)
        (State.simulateLight_referencing on (s.beginHandling_state.trans ht) hd) rfl⟩

/-- A channel in OUT stays so, is brought in, or begins a capture outside a burst (R17, R18, R35, R36). -/
theorem channelRequests_out (hd : (s.channel x.toNat).detection = .out) :
    exec (.channelOut [x]) s = .next (settle s (s.answered 17 [0])) ∧
      (Gives (.channelIn [x]) s fun t =>
        t.apart = ((s.answered 18 [0]).setChannel x.toNat (s.channel x.toNat).bringIn).apart) ∧
      ((s.channel x.toNat).burst.isSome → exec (.captureReference [x]) s = .next (settle s (s.answered 19 [6]))) ∧
      ((s.channel x.toNat).burst = none → exec (.captureReference [x]) s = .next (settle s
        ((s.answered 19 [0]).setChannel x.toNat { s.channel x.toNat with
          detection := .referencing
          capture := some { begun := 0, samples := 0, pulses := 0, sum := 0, means := 0 } }))) ∧
      (s.control.state = .test → exec (.simulateLight [x, flagByte on]) s = .next (settle s (s.answered 20 [5]))) := by
  rw [← s.beginHandling_channel] at hd ⊢
  refine ⟨answered_of_accepted (exec_channelOut h hs hx) (State.channelOut_out hd),
    gives_of_handed (exec_channelIn h hs hx) (State.channelIn_out hd),
    fun hb => answered_of_refused (exec_captureReference h hs hx) (State.captureReference_burst hd hb) rfl, fun hb => ?_,
    fun ht => answered_of_refused (exec_simulateLight h hs hx on)
      (State.simulateLight_out on (s.beginHandling_state.trans ht) hd) rfl⟩
  rw [exec_captureReference h hs hx, State.captureReference_out hd hb, accept_setChannel_compose]

/-- A channel SUSPENDED or in detection is taken OUT or simulated, and no more (R17, R18, R20, R36). -/
theorem channelRequests_inService (hd : (s.channel x.toNat).detection.inService) :
    (Gives (.channelOut [x]) s fun t =>
        t.apart = ((s.answered 17 [0]).setChannel x.toNat (s.channel x.toNat).takeOut).apart) ∧
      exec (.channelIn [x]) s = .next (settle s (s.answered 18 [5])) ∧
      exec (.captureReference [x]) s = .next (settle s (s.answered 19 [5])) ∧
      (s.control.state = .test → Gives (.simulateLight [x, flagByte on]) s fun t =>
        t.apart = ((s.answered 20 [0]).setChannel x.toNat { s.channel x.toNat with simulated := on }).apart) := by
  rw [← s.beginHandling_channel] at hd ⊢
  exact ⟨gives_of_handed (exec_channelOut h hs hx) (State.channelOut_inService hd),
    answered_of_refused (exec_channelIn h hs hx) (State.channelIn_inService hd) rfl,
    answered_of_refused (exec_captureReference h hs hx) (State.captureReference_inService hd) rfl, fun ht =>
      gives_of_handed (exec_simulateLight h hs hx on)
        (State.simulateLight_inService on (s.beginHandling_state.trans ht) hd)⟩

omit hx

/-- SIMULATE_CURRENT (R51). -/
theorem simulateCurrent_acts (hx : x.toNat ∈ upTo 4) :
    (s.control.state ≠ .test →
        exec (.simulateCurrent [x, flagByte on]) s = .next (settle s (s.answered 21 [5]))) ∧
      (s.control.state = .test →
        (Gives (.simulateCurrent [x, flagByte on]) s fun t =>
          t.apart = ((s.answered 21 [0]).setPoint x.toNat { s.point x.toNat with simulated := on }).apart) ∧
        ((s.point x.toNat).simulated = on →
          exec (.simulateCurrent [x, flagByte on]) s = .next (settle s (s.answered 21 [0])))) := by
  have he := exec_simulateCurrent h hs on hx
  refine ⟨fun ht => answered_of_refused he
    (State.simulateCurrent_outsideTest on fun hb => ht (s.beginHandling_state.symm.trans hb)) rfl, fun ht => ?_⟩
  rw [State.simulateCurrent_inTest on (s.beginHandling_state.trans ht), s.beginHandling_point] at he
  refine ⟨⟨_, he, ?_⟩, fun hsame => ?_⟩
  · beta_reduce
    rw [settle_apart, ← accept_setPoint_compose]
    refine accept_compose_apart ?_ [] 21
    split
    · rfl
    · exact State.evaluatePoint_apart _ _
  · have hself : ({ s.point x.toNat with simulated := on } : Point) = s.beginHandling.point x.toNat := by
      rw [s.beginHandling_point, ← hsame]
    rw [if_pos (beq_iff_eq.mpr hsame), hself, State.setPoint_self, accept_compose] at he
    exact he

end

/-- Settles O59: each request's judgement by detection state, through the port. -/
theorem channelRequestsAct : Obligations.ChannelRequestsAct := by
  unfold Obligations.ChannelRequestsAct
  intro s x on h hs hx _ _ n c flag answers
  have hbring : { c with
      detection := if c.health = .broken then .suspended else .dark
      pickupCount := 0, drops := 0, passes := 0, dimFails := 0, brokenFails := 0, skipped := 0 } = c.bringIn := by
    simp only [Channel.bringIn, beq_iff_eq]
  refine ⟨channelRequests_unused h hs hx on, channelRequests_referencing h hs hx on, fun hd => ?_,
    channelRequests_inService h hs hx on, fun ht => ?_, simulateCurrent_acts h hs on⟩
  · rw [hbring]
    exact channelRequests_out h hs hx on hd
  · exact answered_of_refused (exec_simulateLight h hs hx on)
      (State.simulateLight_outsideTest on fun hb => ht (s.beginHandling_state.symm.trans hb)) rfl

end Sys2Proof.Machine
end

section
/-! A supervision slot (R27, R28): the instant it comes at and the record it leaves. -/

namespace Sys2Proof.Machine

open Wire

variable {s t : State} {n : Index}

/-! ### Passing time -/

/-- The whole milliseconds of two pieces of time, and the part of one left over, are those of both together. -/
theorem elapsed_in_two {p phase c a b : Nat} (hc : c < a) (hab : a ≤ b) :
    ((p + (phase + (a - c)) / 12000) % 4294967296 + ((phase + (a - c)) % 12000 + (b - a)) / 12000) % 4294967296 =
        (p + (phase + (b - c)) / 12000) % 4294967296 ∧
      ((phase + (a - c)) % 12000 + (b - a)) % 12000 = (phase + (b - c)) % 12000 := by
  omega

/-- Time that passes in two pieces passes as in one (R1). -/
theorem State.advanceTo_advanceTo {a b : Instant} (h : a ≤ b) : (s.advanceTo a).advanceTo b = s.advanceTo b := by
  by_cases ha : a ≤ s.clock
  · rw [show s.advanceTo a = s from if_pos ha]
  have hb : ¬ b ≤ s.clock := fun hb => ha (h.trans hb)
  obtain ⟨hpart, hphase⟩ := elapsed_in_two (p := s.partTime) (phase := s.msPhase) (Nat.lt_of_not_le ha) h
  rcases h.eq_or_lt with rfl | hab
  · exact if_pos ((s.advanceTo_clock a).symm ▸ Nat.le_max_right _ _)
  · simp only [State.advanceTo, if_neg ha, if_neg hb, if_neg (Nat.not_le.mpr hab), Config.ms, partTimeModulus_eq]
    rw [hpart, hphase]

theorem State.advanceTo_partTime_lt (h : s.partTime < 4294967296) (a : Instant) :
    (s.advanceTo a).partTime < 4294967296 := by
  unfold State.advanceTo
  split
  · exact h
  · exact partTimeModulus_eq ▸ Nat.mod_lt _ (by decide)

/-- Part time counts on in the whole milliseconds that fill up with the time passed (R1). -/
theorem State.advanceTo_partTime (h : s.partTime < 4294967296) (hp : s.msPhase < 12000) (a : Instant) :
    (s.advanceTo a).partTime = (s.partTime + (s.msPhase + (a - s.clock)) / 12000) % 4294967296 := by
  unfold State.advanceTo
  split
  · next ha =>
    have ha : a - s.clock = 0 := Nat.sub_eq_zero_of_le ha
    rw [ha, Nat.add_zero, Nat.div_eq_of_lt hp, Nat.add_zero, Nat.mod_eq_of_lt h]
  · rw [partTimeModulus_eq, Config.ms]

theorem State.advanceTo_msPhase_lt (h : s.msPhase < 12000) (a : Instant) : (s.advanceTo a).msPhase < 12000 := by
  unfold State.advanceTo
  split
  · exact h
  · exact Nat.mod_lt _ (by decide)

theorem State.advanceTo_usedChannel (a : Instant) (n : Index) : (s.advanceTo a).usedChannel n = s.usedChannel n := by
  unfold State.usedChannel State.channelSet
  rw [State.advanceTo_settings]

theorem State.toSlot_eq_advanceTo (s : State) (n : Index) : ∃ a, s.nextLight ≤ a ∧ s.toSlot n = s.advanceTo a := by
  unfold State.toSlot
  dsimp only
  split
  · exact ⟨_, Nat.le_refl _, rfl⟩
  · have hle : s.nextLight ≤ (s.advanceTo s.nextLight).clock := (s.advanceTo_clock _).symm ▸ Nat.le_max_right _ _
    have hceil := (hle.trans (Nat.le_add_right _ _)).trans (le_ceilTo (k := Config.lightInterval) (by decide)
      (_ + ((s.advanceTo s.nextLight).slotWait n * Config.ms - (s.advanceTo s.nextLight).msPhase)))
    exact ⟨_, hceil, State.advanceTo_advanceTo hceil⟩

/-! ### When the slot comes (R27) -/

/-- The conditions of R27. -/
theorem State.slotComes_iff : s.slotComes n = true ↔
    s.usedChannel n = true ∧ slotOffset n ≤ s.partTime % 1000 ∧
      (s.channel n).slotMark ≠ some (s.partTime / 1000) := by
  simp [State.slotComes, and_assoc]

/-- Within a second its offset is not reached before the wait for it is over. -/
theorem offset_not_reached {p d off : Nat} (hp : p < 4294967296) (hoff : off < min 1000 (4294967296 - p / 1000 * 1000))
    (hd : d < off - p % 1000) : (p + d) % 4294967296 % 1000 < off := by
  have hsum : p + d < 4294967296 := by omega
  have hsecond : (p + d) / 1000 = p / 1000 := by omega
  rw [Nat.mod_eq_of_lt hsum]
  omega

/-- Before the offset of the next second, the wrap's short one or not, an offset reached is one of the present second. -/
theorem reached_in_same_second {p d off : Nat} (hp : p < 4294967296) (hoff : off < 1000)
    (hd : d < min 1000 (4294967296 - p / 1000 * 1000) - p % 1000 + off)
    (hreached : off ≤ (p + d) % 4294967296 % 1000) :
    (p + d) % 4294967296 / 1000 = p / 1000 ∧
      (p + d) % 4294967296 % 1000 < min 1000 (4294967296 - p / 1000 * 1000) := by
  rcases Nat.lt_or_ge (p + d) 4294967296 with hsum | hsum
  · rw [Nat.mod_eq_of_lt hsum] at hreached ⊢
    omega
  · -- Past the wrap the milliseconds are those that have passed since.
    have hwrap : (p + d) % 4294967296 = p + d - 4294967296 := by omega
    have hless : p + d - 4294967296 < off := by omega
    exact absurd (hreached.trans (hwrap ▸ Nat.mod_le _ _)) (Nat.not_le.mpr hless)

/-- No slot comes before its wait is over. -/
theorem State.slotComes_of_lt_slotWait {d : Nat} (hs : s.partTime < 4294967296) (hoff : slotOffset n < 1000)
    (hd : d < s.slotWait n) (hch : t.channel n = s.channel n) (ht : t.partTime = (s.partTime + d) % 4294967296) :
    t.slotComes n = false := by
  rw [Bool.eq_false_iff, Ne, State.slotComes_iff, hch, ht]
  rintro ⟨-, hreached, hmark⟩
  simp only [State.slotWait, secondLength, partTimeModulus_eq, Bool.and_eq_true, bne_iff_ne, decide_eq_true_eq] at hd
  split at hd
  · next hfree => exact absurd hreached (Nat.not_le.mpr (offset_not_reached hs hfree.2 hd))
  · next hgone =>
    -- The present second has had its slot, or is too short for one.
    obtain ⟨hsecond, hlength⟩ := reached_in_same_second hs hoff hd hreached
    exact hgone ⟨fun h => hmark (h.trans (congrArg some hsecond.symm)), hreached.trans_lt hlength⟩

/-- An instant before the rounded end of a wait has not filled its milliseconds. -/
theorem wait_not_over {k clock phase wait : Nat} (hk : clock ≤ 1200 * k)
    (h : 1200 * k < max clock (ceilTo 1200 (clock + (wait * 12000 - phase)))) :
    (phase + (1200 * k - clock)) / 12000 < wait := by
  have hend : 1200 * k < clock + (wait * 12000 - phase) := by
    by_contra hge
    have hceil := ceilTo_le (k := 1200) (by decide) (Dvd.intro k rfl) (Nat.not_lt.mp hge)
    omega
  omega

/-- Of the sample instants none before SUPERVISION_SLOT's has the slot. -/
theorem State.slotComes_before_toSlot {k : Nat} (hs : s.partTime < 4294967296) (hp : s.msPhase < 12000)
    (hslot : (s.toSlot n).slotComes n = true) (hk : s.nextLight ≤ 1200 * k) (hlt : 1200 * k < (s.toSlot n).clock) :
    (s.advanceTo (1200 * k)).slotComes n = false := by
  have hoff : slotOffset n < 1000 :=
    (State.slotComes_iff.mp hslot).2.1.trans_lt (Nat.mod_lt _ (by decide))
  have hpt := State.advanceTo_partTime_lt hs s.nextLight
  have hph := State.advanceTo_msPhase_lt hp s.nextLight
  have hclock : (s.advanceTo s.nextLight).clock = s.nextLight :=
    (s.advanceTo_clock _).trans (Nat.max_eq_right s.clock_le_nextLight)
  have hcome : (s.advanceTo s.nextLight).clock ≤ 1200 * k := hclock.trans_le hk
  rw [← State.advanceTo_advanceTo hk]
  unfold State.toSlot at hlt
  generalize s.advanceTo s.nextLight = u at *
  dsimp only at hlt
  split at hlt
  · exact absurd hcome (Nat.not_le.mpr hlt)
  · rw [State.advanceTo_clock] at hlt
    exact State.slotComes_of_lt_slotWait hpt hoff (wait_not_over hcome hlt) (State.advanceTo_channel u _ n)
      (State.advanceTo_partTime hpt hph _)

/-! ### What the slot does (R28) -/

section

variable {c : Channel} (second : Nat)

/-- Outside detection the burst is fired. -/
theorem Channel.takeSlot_fires (hd : c.detection ∈ [Detection.dark, .out, .suspended]) (hb : c.burst = none) :
    c.takeSlot second = { c with slotMark := some second, burst := some { pulses := 0, sum := 0 } } := by
  simp only [List.mem_cons, List.not_mem_nil, or_false] at hd
  rcases hd with hd | hd | hd <;> simp [Channel.takeSlot, hd, hb]

/-- A running burst goes on. -/
theorem Channel.takeSlot_bursting (hd : c.detection ∈ [Detection.dark, .out, .suspended]) (hb : c.burst ≠ none) :
    c.takeSlot second = { c with slotMark := some second } := by
  simp only [List.mem_cons, List.not_mem_nil, or_false] at hd
  rcases hd with hd | hd | hd <;> simp [Channel.takeSlot, hd, hb]

/-- In a light episode the burst is postponed. -/
theorem Channel.takeSlot_postpones (hd : c.detection ∈ [Detection.pickup, .lit, .steady]) :
    c.takeSlot second = { c with slotMark := some second, skipped := min 65535 (c.skipped + 1) } := by
  simp only [List.mem_cons, List.not_mem_nil, or_false] at hd
  rcases hd with hd | hd | hd <;> simp [Channel.takeSlot, hd, bump]

/-- A capture lets the slot pass. -/
theorem Channel.takeSlot_referencing (hd : c.detection = .referencing) :
    c.takeSlot second = { c with slotMark := some second } := by
  simp [Channel.takeSlot, hd]

end

/-! ### The command -/

theorem State.toSlot_channel (s : State) (n : Index) : (s.toSlot n).channel n = s.channel n := by
  obtain ⟨a, -, h⟩ := s.toSlot_eq_advanceTo n
  rw [h, State.advanceTo_channel]

theorem State.toSlot_usedChannel (s : State) (n : Index) : (s.toSlot n).usedChannel n = s.usedChannel n := by
  obtain ⟨a, -, h⟩ := s.toSlot_eq_advanceTo n
  rw [h, State.advanceTo_usedChannel]

/-- Without a slot nothing happens, be it that a step is owed first. -/
theorem exec_supervisionSlot_void (hp : s.powered = true) (h : s.usedChannel n = false ∨ s.lightOwes = true) :
    exec (.supervisionSlot n) s = .next (settle s s) := by
  show execSupervisionSlot n s = _
  rw [execSupervisionSlot, conclude_powered s _ hp]
  split
  · rfl
  · next ho =>
    have hnone : ¬ (s.toSlot n).slotComes n = true := fun hc => by
      simp [← s.toSlot_usedChannel n, (State.slotComes_iff.mp hc).1, ho] at h
    dsimp only
    rw [if_neg hnone]

/-- The slot leaves the record that `Channel.takeSlot` says. -/
theorem exec_supervisionSlot (hp : s.powered = true) (ho : s.lightOwes = false)
    (hc : (s.toSlot n).slotComes n = true) :
    exec (.supervisionSlot n) s =
      .next (settle s ((s.toSlot n).setChannel n ((s.channel n).takeSlot ((s.toSlot n).partTime / 1000)))) := by
  show execSupervisionSlot n s = _
  rw [execSupervisionSlot, conclude_powered s _ hp, if_neg (by simp [ho])]
  dsimp only
  rw [if_pos hc, s.toSlot_channel]

/-- Settles O20: `exec_supervisionSlot` by the cases of R28, and no instant earlier by the length of the wait. -/
theorem supervisionSlotsAct : Obligations.SupervisionSlotsAct := by
  unfold Obligations.SupervisionSlotsAct
  refine ⟨fun s n hp => exec_supervisionSlot_void hp, fun s n hp ho _ hu => ?_, fun s n k =>
    State.slotComes_before_toSlot⟩
  intro u hreached hmark c marked
  have hslot : u.slotComes n = true :=
    State.slotComes_iff.mpr ⟨(s.toSlot_usedChannel n).trans hu, hreached, (s.toSlot_channel n).symm ▸ hmark⟩
  rw [exec_supervisionSlot hp ho hslot]
  refine ⟨fun hd hb => ?_, fun hd hb => ?_, fun hd => ?_, fun hd => ?_⟩
  · rw [Channel.takeSlot_fires _ hd hb]
  · rw [Channel.takeSlot_bursting _ hd hb]
  · rw [Channel.takeSlot_postpones _ hd]
  · rw [Channel.takeSlot_referencing _ hd]

end Sys2Proof.Machine
end

section
/-! The end of a burst (R31 to R34, R16): the class of its return, the record it leaves, the health judged. -/

namespace Sys2Proof.Machine

open Wire

variable {s : State} {n : Index} {c : Channel}

/-! ### The record after the fourth return (R31 to R33) -/

/-- The class of a return, by the kind's threshold (R31). -/
theorem classify_eq (kind : ChannelKind) (reference ret : Nat) :
    classify kind reference ret =
      if ret < 16 then .failBroken
      else if (if kind = .point then 2 * ret < reference else 4 * ret < reference) then .failDim
      else .pass := by
  cases kind <;> rfl

/-- The gain a return sets, by the kind's ceiling (R32). -/
theorem gainOf_eq (kind : ChannelKind) (reference ret : Nat) :
    gainOf kind reference ret = max 256 (min (if kind = .point then 512 else 1024) (256 * reference / ret)) := by
  cases kind <;> rfl

/-- The kind of strike a class is (R33). -/
def BurstResult.strikeKind (r : BurstResult) : StrikeKind :=
  if r = .pass then .none else if r = .failDim then .dim else .broken

/-- The length of the run of strikes after a class (R33). -/
def Channel.strikesAfter (c : Channel) (r : BurstResult) : Nat :=
  if r = .pass then 0 else if c.strikeKind = r.strikeKind then min 3 (c.strikeCount + 1) else 1

/-- The pass run after a class (R33). -/
def Channel.passRunAfter (c : Channel) (r : BurstResult) : Nat := if r = .pass then min 3 (c.passRun + 1) else 0

/-- A class makes or breaks a run (R33). -/
theorem Channel.strike_eq (c : Channel) (r : BurstResult) :
    c.strike r = { c with
      strikeKind := r.strikeKind, strikeCount := c.strikesAfter r, passRun := c.passRunAfter r } := by
  cases r with
  | pass => rfl
  | failDim => simp [Channel.strike, BurstResult.strikeKind, Channel.strikesAfter, Channel.passRunAfter]
  | failBroken => simp [Channel.strike, BurstResult.strikeKind, Channel.strikesAfter, Channel.passRunAfter]

/-- Each class has a counter of its own (R31). -/
theorem Channel.countResult_eq (c : Channel) (r : BurstResult) :
    c.countResult r = { c with
      passes := if r = .pass then min 65535 (c.passes + 1) else c.passes
      dimFails := if r = .failDim then min 65535 (c.dimFails + 1) else c.dimFails
      brokenFails := if r = .failBroken then min 65535 (c.brokenFails + 1) else c.brokenFails } := by
  cases r <;> rfl

/-- The record after the fourth return. -/
theorem Channel.endBurst_eq (c : Channel) (k : ChannelSettings) (sum : Nat) (now : PartTime) :
    c.endBurst k sum now =
      let r := classify k.kind k.reference (sum / 4)
      { c with
        burst := none, lastReturn := some (sum / 4), lastResult := some r, lastBurst := some now
        strikeKind := r.strikeKind, strikeCount := c.strikesAfter r, passRun := c.passRunAfter r
        passes := if r = .pass then min 65535 (c.passes + 1) else c.passes
        dimFails := if r = .failDim then min 65535 (c.dimFails + 1) else c.dimFails
        brokenFails := if r = .failBroken then min 65535 (c.brokenFails + 1) else c.brokenFails
        gain := if r = .failBroken then c.gain else gainOf k.kind k.reference (sum / 4) } := by
  simp only [Channel.endBurst, Channel.countResult_eq, Channel.strike_eq, beq_iff_eq]
  rfl

/-! ### The health judged (R34, R16) -/

/-- Three strikes of a kind, or three passes, decide the health (R34). -/
theorem Channel.judgedHealth_eq (c : Channel) :
    c.judgedHealth =
      if c.strikeCount = 3 ∧ c.strikeKind = .dim then .dim
      else if c.strikeCount = 3 ∧ c.strikeKind = .broken then .broken
      else if c.passRun = 3 then .good
      else c.health := by
  simp only [Channel.judgedHealth, Bool.and_eq_true, beq_iff_eq]

/-- BROKEN suspends a DARK channel, and a channel no longer BROKEN comes back DARK (R16). -/
theorem Channel.takeHealth_eq (c : Channel) (health : Health) :
    c.takeHealth health =
      if health = .broken ∧ c.detection = .dark then
        { c with health, detection := .suspended, pickupCount := 0, drops := 0 }
      else if health ≠ .broken ∧ c.detection = .suspended then { c with health, detection := .dark }
      else { c with health } := by
  simp only [Channel.takeHealth, Bool.and_eq_true, beq_iff_eq, bne_iff_ne]
  split
  · rfl
  · split <;> rfl

/-- Neither state that health enters or leaves is lit (R12, R16). -/
theorem Channel.takeHealth_lightFlag (c : Channel) (h : Health) :
    (c.takeHealth h).detection.lightFlag = c.detection.lightFlag := by
  rw [Channel.takeHealth_eq]
  split
  · next hd => rw [hd.2]; rfl
  · split
    · next hd => rw [hd.2]; rfl
    · rfl

theorem Channel.takeHealth_simulated (c : Channel) (h : Health) : (c.takeHealth h).simulated = c.simulated := rfl

theorem State.judgeHealth_same (h : (s.channel n).judgedHealth = (s.channel n).health) : s.judgeHealth n = s := by
  simp [State.judgeHealth, h]

/-- A change of health is announced and handed to the channel's zones (R34, R12). -/
theorem State.judgeHealth_changed (h : (s.channel n).judgedHealth ≠ (s.channel n).health) :
    s.judgeHealth n =
      s.handChannel ((s.setChannel n ((s.channel n).takeHealth (s.channel n).judgedHealth)).post .channelHealth n
        (s.channel n).judgedHealth.code) n := by
  simp [State.judgeHealth, h]

/-- A change that leaves a channel's contribution to light alone reaches no zone (R12). -/
theorem State.handChannel_of_flags {t : State} (hl : t.lightFlag n = s.lightFlag n)
    (hs : t.simulatedLight n = s.simulatedLight n) : s.handChannel t n = t := by
  simp [State.handChannel, hl, hs]

/-! ### The judgement of a record just replaced -/

/-- A record replaced twice is the last one. -/
theorem State.setChannel_setChannel (s : State) (n : Index) (c d : Channel) :
    (s.setChannel n c).setChannel n d = s.setChannel n d := by
  unfold State.setChannel
  cases n with
  | zero => rfl
  | succ k => simp [put]

/-- A record that leaves the health alone is replaced, no more. -/
theorem State.judgeHealth_setChannel_same (hc : (s.setChannel n c).channel n = c) (h : c.judgedHealth = c.health) :
    (s.setChannel n c).judgeHealth n = s.setChannel n c :=
  State.judgeHealth_same (by rw [hc, h])

section

variable (hc : (s.setChannel n c).channel n = c) (h : c.judgedHealth ≠ c.health)
include hc h

theorem State.judgeHealth_setChannel :
    (s.setChannel n c).judgeHealth n =
      (s.setChannel n c).handChannel
        ((s.setChannel n (c.takeHealth c.judgedHealth)).post .channelHealth n c.judgedHealth.code) n := by
  rw [State.judgeHealth_changed (by rwa [hc]), hc, State.setChannel_setChannel]

/-- Beside the record a change of health touches the decision path alone. -/
theorem State.judgeHealth_setChannel_apart :
    ((s.setChannel n c).judgeHealth n).apart = (s.setChannel n (c.takeHealth c.judgedHealth)).apart := by
  rw [State.judgeHealth_setChannel hc h, State.handChannel_apart, State.post_apart]

/-- CHANNEL_HEALTH is the first notice of a change of health. -/
theorem State.judgeHealth_setChannel_posted :
    Posted s [{ kind := .channelHealth, subject := n, value := c.judgedHealth.code, time := s.partTime }]
      ((s.setChannel n c).judgeHealth n) := by
  refine posted_of_holds fun hl hs => ?_
  have hroom : s.notices.length < 31 := Nat.lt_of_succ_le hl
  rw [State.judgeHealth_setChannel hc h]
  refine State.holds.handChannel ⟨?_, ?_⟩ _ _
  · simpa [or_imp, forall_and] using hs
  · exact ⟨[], (List.append_nil _).trans (enqueue_room s.notices _ hs hroom).symm⟩

/-- Without simulated light a change of health reaches no zone (R12, R16). -/
theorem State.judgeHealth_setChannel_unsimulated (hs : c.simulated = false) :
    (s.setChannel n c).judgeHealth n =
      (s.setChannel n (c.takeHealth c.judgedHealth)).post .channelHealth n c.judgedHealth.code := by
  obtain ⟨hl, hsl⟩ := (s.setChannel n c).setChannel_flags (n := n) (c := c.takeHealth c.judgedHealth)
    (by rw [hc]; exact Channel.takeHealth_lightFlag _ _) (by rw [hc]; simp [Channel.takeHealth_simulated, hs])
  rw [State.setChannel_setChannel] at hl hsl
  rw [State.judgeHealth_setChannel hc h]
  exact State.handChannel_of_flags hl hsl

end

/-! ### The command -/

/-- Without a burst, or before its fourth return, nothing happens. -/
theorem exec_burstEnd_void (hp : s.powered = true)
    (h : (s.channel n).burst.all (fun b => b.pulses != 4) = true) : exec (.burstEnd n) s = .next (settle s s) := by
  show execBurstEnd n s = _
  rw [execBurstEnd, conclude_powered s _ hp]
  split
  · rfl
  · next b hb =>
    rw [hb] at h
    rw [if_pos (show (b.pulses != 4) = true from h)]

/-- The burst's end and then the judgement of health. -/
theorem exec_burstEnd (hp : s.powered = true) {b : Burst} (hb : (s.channel n).burst = some b) (h4 : b.pulses = 4) :
    exec (.burstEnd n) s = .next (settle s
      ((s.setChannel n ((s.channel n).endBurst (s.channelSet n) b.sum s.partTime)).judgeHealth n)) := by
  show execBurstEnd n s = _
  rw [execBurstEnd, conclude_powered s _ hp, hb]
  simp [h4]

/-- Settles O21: the record of `Channel.endBurst_eq`, and what `State.judgeHealth` does with it. -/
theorem burstEndClassifies : Obligations.BurstEndClassifies := by
  unfold Obligations.BurstEndClassifies
  intro s n hp
  refine ⟨exec_burstEnd_void hp, fun b hb h4 hn hl => ?_⟩
  intro c k ret r kind count run health ended
  have hended : c.endBurst k b.sum s.partTime = ended := by
    rw [Channel.endBurst_eq, classify_eq, gainOf_eq]
    rfl
  have hhealth : ended.judgedHealth = health := ended.judgedHealth_eq
  have hc : (s.setChannel n ended).channel n = ended := State.channel_setChannel_same _ hl hn
  have hexec : exec (.burstEnd n) s = .next (settle s ((s.setChannel n ended).judgeHealth n)) :=
    hended ▸ exec_burstEnd hp hb h4
  refine ⟨fun hsame => ?_, fun hchanged => ⟨_, hexec, ?_, ?_, fun hsim => ?_⟩⟩
  · rw [hexec, State.judgeHealth_setChannel_same hc (hhealth.trans hsame)]
  · rw [settle_apart, State.judgeHealth_setChannel_apart hc (hhealth.trans_ne hchanged), Channel.takeHealth_eq, hhealth]
  · unfold Posted
    rw [settle_notices, ← hhealth]
    exact State.judgeHealth_setChannel_posted hc (hhealth.trans_ne hchanged)
  · rw [State.judgeHealth_setChannel_unsimulated hc (hhealth.trans_ne hchanged) hsim]
    simp only [settle_zones, settle_orders, settle_outputs, settle_lockout, settle_records]
    exact ⟨rfl, rfl, rfl, rfl, rfl⟩

end Sys2Proof.Machine
end

section
/-! A reference capture (R19, R37, R38): its bursts, and its end in the candidate. -/

namespace Sys2Proof.Machine

open Wire

variable {s : State} {n : Index}

/-! ### Without an occasion -/

theorem exec_captureBurstStart_idle (hp : s.powered = true) (hc : (s.channel n).capture = none) :
    exec (.captureBurstStart n) s = .next (settle s s) := by
  show execCaptureBurstStart n s = _
  rw [execCaptureBurstStart, conclude_powered s _ hp]
  simp only [hc]

theorem exec_captureEnd_idle (hp : s.powered = true) (hc : (s.channel n).capture = none) :
    exec (.captureEnd n) s = .next (settle s s) := by
  show execCaptureEnd n s = _
  rw [execCaptureEnd, conclude_powered s _ hp]
  simp only [hc]

/-! ### A running capture -/

/-- The next capture burst is due: 100 sample instants have passed since the last one began (R37). -/
def Capture.burstDue (k : Capture) : Prop := 1 ≤ k.begun ∧ k.begun < 16 ∧ k.samples = 100 * k.begun

section

variable {k : Capture} (hp : s.powered = true) (hk : (s.channel n).capture = some k)
include hp hk

/-- A capture burst begins with no pulse taken. -/
theorem exec_captureBurstStart_due (hd : k.burstDue) :
    exec (.captureBurstStart n) s = .next (settle s ((s.advanceTo s.nextLight).setChannel n
      { s.channel n with capture := some { k with begun := k.begun + 1, pulses := 0, sum := 0 } })) := by
  show execCaptureBurstStart n s = _
  rw [execCaptureBurstStart, conclude_powered s _ hp]
  simp only [hk]
  rw [if_pos (by simpa [Capture.burstDue, and_assoc] using hd)]

theorem exec_captureBurstStart_notDue (hd : ¬ k.burstDue) :
    exec (.captureBurstStart n) s = .next (settle s s) := by
  show execCaptureBurstStart n s = _
  rw [execCaptureBurstStart, conclude_powered s _ hp]
  simp only [hk]
  rw [if_neg (by simpa [Capture.burstDue, and_assoc] using hd)]

theorem exec_captureEnd_running (hs : k.samples ≠ 1600) : exec (.captureEnd n) s = .next (settle s s) := by
  show execCaptureEnd n s = _
  rw [execCaptureEnd, conclude_powered s _ hp]
  simp only [hk]
  rw [if_pos (by simpa [Config.captureLength] using hs)]

end

/-- The state after a capture with this candidate: the candidate judged, the channel OUT (R19, R38). -/
def State.endCapture (s : State) (n candidate : Nat) : State :=
  (s.judgeCandidate n candidate).setChannel n
    { (s.judgeCandidate n candidate).channel n with capture := none, detection := .out }

theorem exec_captureEnd {k : Capture} (hp : s.powered = true) (hk : (s.channel n).capture = some k)
    (hs : k.samples = 1600) (hm : k.means ≤ 65520) :
    exec (.captureEnd n) s = .next (settle s ((s.advanceTo s.nextLight).endCapture n (k.means / 16))) := by
  have hsat : saturate (k.means / 16) = k.means / 16 := Nat.min_eq_right (by omega)
  show execCaptureEnd n s = _
  rw [execCaptureEnd, conclude_powered s _ hp]
  simp only [hk]
  rw [if_neg (by simp [hs, Config.captureLength]), hsat]
  rfl

/-! ### The candidate (R38) -/

/-- A candidate within its bounds becomes the pending T_ref and the captured reference. -/
theorem State.endCapture_done {candidate : Nat} (hc : 256 ≤ candidate ∧ candidate ≤ 4000)
    (hl : s.light.channels.length = 16) (hn : n ∈ upTo 16) :
    s.endCapture n candidate =
      { (s.setChannel n { s.channel n with
          capture := none, detection := .out, captured := some candidate }).post .referenceDone n candidate with
        settings := { s.settings with
          pending := { s.settings.pending with
            channels := put s.settings.pending.channels n
              { item s.settings.pending.channels .factory n with reference := candidate } } } } := by
  have hjudged : s.judgeCandidate n candidate =
      ((s.mapPending fun c => c.set 1 n 5 candidate).setChannel n
        { s.channel n with captured := some candidate }).post .referenceDone n candidate :=
    if_pos (by simpa using hc)
  have hch : (s.judgeCandidate n candidate).channel n = { s.channel n with captured := some candidate } := by
    rw [hjudged]
    exact (State.channel_setChannel_same (s := s.mapPending fun c => c.set 1 n 5 candidate) _ hl hn :)
  unfold State.endCapture
  rw [hch, hjudged]
  exact (congrArg (fun u : State => u.post .referenceDone n candidate) (State.setChannel_setChannel _ n _ _) :)

/-- Any other is announced alone. -/
theorem State.endCapture_failed {candidate : Nat} (hc : ¬ (256 ≤ candidate ∧ candidate ≤ 4000)) :
    s.endCapture n candidate =
      (s.setChannel n { s.channel n with capture := none, detection := .out }).post .referenceFailed n candidate := by
  have hjudged : s.judgeCandidate n candidate = s.post .referenceFailed n candidate := if_neg (by simpa using hc)
  unfold State.endCapture
  rw [hjudged]
  rfl

/-- Settles O22: the commands on a running capture, and `State.endCapture` by the candidate's bounds. -/
theorem captureRuns : Obligations.CaptureRuns := by
  unfold Obligations.CaptureRuns
  intro s n hp hn hl u c
  refine ⟨fun hc => ⟨exec_captureBurstStart_idle hp hc, exec_captureEnd_idle hp hc⟩, fun k hk =>
    ⟨exec_captureBurstStart_due hp hk, exec_captureBurstStart_notDue hp hk, exec_captureEnd_running hp hk,
      fun hs hm => ?_⟩⟩
  have hu : u.channel n = c := State.advanceTo_channel s _ n
  have hset : u.settings = s.settings := s.advanceTo_settings _
  have hul : u.light.channels.length = 16 := (s.advanceTo_light _).symm ▸ hl
  rw [exec_captureEnd hp hk hs hm]
  refine ⟨fun hc => ?_, fun hc => ?_⟩
  · rw [State.endCapture_done hc hul hn, hu, hset]
  · rw [State.endCapture_failed hc, hu]

end Sys2Proof.Machine
end

section
/-! The clearing of the current flags (R47, R49): when OC_HOLD_EXPIRY and CP_CLEAR act, and whom a cleared flag reaches. -/

namespace Sys2Proof.Machine

open Wire

variable {s : State} {m : Index}

/-! ### A point handed over (R48, R49) -/

theorem State.point_setPoint_same (p : Point) (hl : s.current.points.length = 4) (hm : m ∈ upTo 4) :
    (s.setPoint m p).point m = p := by
  obtain ⟨h1, h4⟩ := mem_upTo.mp hm
  exact item_put_same _ _ p h1 (hl.symm ▸ h4)

/-- A point that confirms no zone has none evaluated (R48). -/
theorem State.evaluatePoint_unconfirmed (h : ∀ z ∈ upTo 8, m ∉ (s.zone z).confirmation) : s.evaluatePoint m = s := by
  have hnone : ((inOrder s.sched.zones 8).filter fun z => (s.zone z).confirmation.contains m) = [] := by
    refine List.filter_eq_nil_iff.mpr fun z hz => ?_
    simpa using h z (mem_inOrder_iff.mp hz)
  unfold State.evaluatePoint State.evaluateWhere
  rw [hnone]
  rfl

/-- A changed OC alone goes to the zones (R48). -/
theorem State.handPoint_oc {t : State} (hcp : (t.point m).cp = (s.point m).cp) (hoc : (t.point m).oc ≠ (s.point m).oc) :
    s.handPoint t m = t.evaluatePoint m := by
  simp [State.handPoint, hcp, hoc.symm]

/-- A changed CP alone goes to the order of the attached position (R49, R62). -/
theorem State.handPoint_cp {t : State} (hcp : (t.point m).cp ≠ (s.point m).cp) (hoc : (t.point m).oc = (s.point m).oc) :
    s.handPoint t m = t.judgeAttached (s.pointSet m).attached := by
  simp [State.handPoint, hcp.symm, hoc]

/-! ### The commands -/

theorem State.holdRun_iff : s.holdRun m = true ↔ (s.point m).oc = true ∧ (s.point m).holdOver = true := by
  simp [State.holdRun]

theorem State.quietRun_iff : s.quietRun m = true ↔ (s.point m).cp = true ∧ (s.point m).quiet = 32 := by
  simp [State.quietRun, Config.quietCount]

/-- The state with the OC of a point cleared (R47). -/
def State.clearOc (s : State) (m : Index) : State := s.setPoint m { s.point m with oc := false, holdOver := false }

/-- The state with the CP of a point cleared (R49). -/
def State.clearCp (s : State) (m : Index) : State := s.setPoint m { s.point m with cp := false, quiet := 0 }

theorem exec_ocHoldExpiry (hp : s.powered = true) (h : s.holdRun m = true) :
    exec (.ocHoldExpiry m) s = .next (settle s (s.handPoint (s.clearOc m) m)) := by
  show execOcHoldExpiry m s = _
  rw [execOcHoldExpiry, conclude_powered s _ hp, if_pos h]
  rfl

theorem exec_ocHoldExpiry_idle (hp : s.powered = true) (h : ¬ s.holdRun m = true) :
    exec (.ocHoldExpiry m) s = .next (settle s s) := by
  show execOcHoldExpiry m s = _
  rw [execOcHoldExpiry, conclude_powered s _ hp, if_neg h]

theorem exec_cpClear (hp : s.powered = true) (h : s.quietRun m = true) :
    exec (.cpClear m) s = .next (settle s (s.handPoint (s.clearCp m) m)) := by
  show execCpClear m s = _
  rw [execCpClear, conclude_powered s _ hp, if_pos h]
  rfl

theorem exec_cpClear_idle (hp : s.powered = true) (h : ¬ s.quietRun m = true) :
    exec (.cpClear m) s = .next (settle s s) := by
  show execCpClear m s = _
  rw [execCpClear, conclude_powered s _ hp, if_neg h]

section

variable (hl : s.current.points.length = 4) (hm : m ∈ upTo 4)
include hl hm

/-- A cleared OC that confirms no zone reaches nobody (R48). -/
theorem State.handPoint_clearOc (h : (s.point m).oc = true) (hz : ∀ z ∈ upTo 8, m ∉ (s.zone z).confirmation) :
    s.handPoint (s.clearOc m) m = s.clearOc m := by
  have hpoint : (s.clearOc m).point m = { s.point m with oc := false, holdOver := false } :=
    State.point_setPoint_same _ hl hm
  rw [State.handPoint_oc (by rw [hpoint]) (by simp [hpoint, h])]
  exact State.evaluatePoint_unconfirmed hz

/-- A cleared CP has the order of the attached position judged (R62). -/
theorem State.handPoint_clearCp (h : (s.point m).cp = true) :
    s.handPoint (s.clearCp m) m = (s.clearCp m).judgeAttached (s.pointSet m).attached := by
  have hpoint : (s.clearCp m).point m = { s.point m with cp := false, quiet := 0 } := State.point_setPoint_same _ hl hm
  exact State.handPoint_cp (by simp [hpoint, h]) (by rw [hpoint])

end

/-- Settles O24: a cleared OC goes to the zones it confirms, a cleared CP to the order of the attached position. -/
theorem currentFlagsClear : Obligations.CurrentFlagsClear := by
  unfold Obligations.CurrentFlagsClear
  intro s m hp hm hl p k run cleared quieted
  have hrun : run ↔ s.holdRun m = true := State.holdRun_iff.symm
  have hquiet : p.cp = true ∧ p.quiet = 32 ↔ s.quietRun m = true := State.quietRun_iff.symm
  refine ⟨fun h => ⟨_, exec_ocHoldExpiry hp (hrun.mp h), ?_⟩, fun h hz => ?_,
    fun h => exec_ocHoldExpiry_idle hp (mt hrun.mpr h), fun hcp hq hnone => ?_, fun hcp hq q hsome => ?_,
    fun h => exec_cpClear_idle hp (mt hquiet.mpr h)⟩
  · exact (settle_apart s _).trans (State.handPoint_apart s _ m)
  · rw [exec_ocHoldExpiry hp (hrun.mp h), State.handPoint_clearOc hl hm h.1 hz]
    rfl
  · rw [exec_cpClear hp (hquiet.mp ⟨hcp, hq⟩), State.handPoint_clearCp hl hm hcp,
      show (s.pointSet m).attached = none from hnone]
    rfl
  · rw [exec_cpClear hp (hquiet.mp ⟨hcp, hq⟩), State.handPoint_clearCp hl hm hcp,
      show (s.pointSet m).attached = some q from hsome]
    rfl

end Sys2Proof.Machine
end

section
/-! No order goes at a change of OC or CP of a point, so long as every position has a minimum pulse (R108): the order list
grows, or it keeps its length and the incident peaks stand (R50). -/

namespace Sys2Proof.Machine

open Wire

variable {s t u : State}

/-- Every position has a minimum pulse (R102). -/
def State.pulsesRun (s : State) : Prop := ∀ p, 0 < (s.positionSet p).minPulse

/-- With eight positions, those of 1 to 8 are all: any other number reads as the factory's. -/
theorem State.pulsesRun_of_eight (hl : s.settings.active.topology.positions.length = 8)
    (h : ∀ p ∈ upTo 8, 0 < (s.positionSet p).minPulse) : s.pulsesRun := by
  intro p
  by_cases hp : p ∈ upTo 8
  · exact h p hp
  · have hd : s.positionSet p = .factory := item_beyond _ hl hp
    rw [hd]
    decide

/-- From `s` to `t` the decision path alone has changed, and orders have come, or none has and the front end stands. -/
structure OrdersOnlyCome (s t : State) : Prop where
  apart : t.apart = s.apart
  orders : s.orders.length < t.orders.length ∨ t.orders.length = s.orders.length ∧ t.current = s.current

namespace OrdersOnlyCome

theorem refl (s : State) : OrdersOnlyCome s s := ⟨rfl, .inr ⟨rfl, rfl⟩⟩

theorem trans (h : OrdersOnlyCome s t) (h' : OrdersOnlyCome t u) : OrdersOnlyCome s u := by
  refine ⟨h'.apart.trans h.apart, ?_⟩
  rcases h.orders with hlt | ⟨hl, hc⟩ <;> rcases h'.orders with hlt' | ⟨hl', hc'⟩
  · exact .inl (hlt.trans hlt')
  · exact .inl (hl'.symm ▸ hlt)
  · exact .inl (hl ▸ hlt')
  · exact .inr ⟨hl'.trans hl, hc'.trans hc⟩

/-- No order comes, and the front end stands. -/
theorem same (ha : t.apart = s.apart) (ho : t.orders = s.orders) (hc : t.current = s.current) : OrdersOnlyCome s t :=
  ⟨ha, .inr ⟨by rw [ho], hc⟩⟩

theorem pulsesRun (h : OrdersOnlyCome s t) (hs : s.pulsesRun) : t.pulsesRun := by
  intro p
  unfold State.positionSet
  rw [State.settings_of_apart h.apart]
  exact hs p

/-- Repeated operations of which each is only such. -/
theorem foldl {α : Type} {f : State → α → State} {l : List α}
    (h : ∀ t, OrdersOnlyCome s t → ∀ x ∈ l, OrdersOnlyCome t (f t x)) : OrdersOnlyCome s (l.foldl f s) :=
  List.foldlRecOn (motive := OrdersOnlyCome s) l f (refl s) fun t ht x hx => ht.trans (h t ht x hx)

/-! ### The judgement of an order -/

theorem mapOrder (p : Index) (f : Order → Order) : OrdersOnlyCome s (s.mapOrder p f) :=
  ⟨rfl, .inr ⟨by simp [State.mapOrder], rfl⟩⟩

/-- An order whose minimum pulse has not run is confirmed, but not released (R107, R108). -/
theorem confirm {o : Order} (h : s.pulseRun o = false) : OrdersOnlyCome s (s.confirm o) := by
  have hstill : s.confirm o =
      (s.mapOrder o.position fun q => { q with stage := .confirmed }).recordConfirmation o.position :=
    if_neg (show ¬ s.pulseRun o = true by simp [h])
  rw [hstill]
  exact (mapOrder _ _).trans (same rfl rfl rfl)

/-- An order is not released at a judgement that finds its minimum pulse running, or no evidence (R107, R108). -/
theorem judgeOrder {p : Index}
    (h : ∀ o ∈ s.orderAt p, s.pulseRun o = false ∨ s.unsupervised p = false ∧ s.cleared p = false) :
    OrdersOnlyCome s (s.judgeOrder p) := by
  unfold State.judgeOrder
  cases ho : s.orderAt p with
  | none => exact refl s
  | some o =>
    dsimp only
    have hmap : OrdersOnlyCome s (s.mapOrder p fun q => { q with supervised := !s.unsupervised p }) := mapOrder _ _
    split
    · exact hmap
    · rcases h o ho with hpulse | ⟨hsup, hclear⟩
      · have hconf := hmap.trans (confirm (o := o) hpulse)
        split
        · split
          · exact hconf
          · exact hmap
        · split
          · exact hconf
          · exact hmap
      · rw [if_neg (by simp [hsup])]
        split
        · next hc => exact absurd (show s.cleared p = true from hc) (by simp [hclear])
        · exact hmap

end OrdersOnlyCome

/-- A minimum pulse that starts now has not run. -/
theorem State.pulseRun_started_now (hs : s.pulsesRun) {o : Order} (h : o.startedAt = s.clock) : s.pulseRun o = false := by
  have hpos : 0 < (s.positionSet o.position).minPulse * Config.ms := Nat.mul_pos (hs _) (by decide)
  exact decide_eq_false (by rw [State.pulseEnd, h]; exact Nat.not_le_of_lt (Nat.lt_add_of_pos_right hpos))

@[simp] theorem State.setLockout_orders (s : State) (p : Index) : (s.setLockout p).orders = s.orders := by
  unfold State.setLockout
  split <;> rfl

@[simp] theorem State.setLockout_current (s : State) (p : Index) : (s.setLockout p).current = s.current := by
  unfold State.setLockout
  split <;> rfl

@[simp] theorem State.recordCreation_orders (s : State) (b : Bool) (o : Order) (c : Cause) :
    (s.recordCreation b o c).orders = s.orders := by
  unfold State.recordCreation
  split
  · show s.makeRoom.orders = s.orders
    unfold State.makeRoom
    split <;> rfl
  · rfl

/-- The order that stands for a position is one of the list, and of that position. -/
theorem State.mem_of_orderAt {p : Index} {o : Order} (h : o ∈ s.orderAt p) : o ∈ s.orders ∧ o.position = p :=
  ⟨List.mem_of_find?_eq_some h, by simpa using List.find?_some h⟩

namespace OrdersOnlyCome

/-! ### Requests (R103 to R105) -/

/-- With every order of a position started now, its judgement releases none. -/
theorem judgeOrder_startedNow (hs : s.pulsesRun) {p : Index}
    (h : ∀ o ∈ s.orders, o.position = p → o.startedAt = s.clock) : OrdersOnlyCome s (s.judgeOrder p) :=
  judgeOrder fun o ho =>
    have ⟨hmem, hpos⟩ := State.mem_of_orderAt ho
    .inl (State.pulseRun_started_now hs (h o hmem hpos))

/-- A created order stands (R103). -/
theorem createOrder (hs : s.pulsesRun) {p : Index} (hnone : s.orderAt p = none) (c : Cause) (a : Attribute) :
    OrdersOnlyCome s (s.createOrder p c a) := by
  refine ⟨s.createOrder_apart p c a, .inl ?_⟩
  unfold State.createOrder
  dsimp only
  generalize hu : State.recordCreation _ _ _ _ = u
  have hapart : u.apart = s.apart := by
    rw [← hu, State.recordCreation_apart]
    split
    · rw [State.setLockout_apart, State.energise_apart]; rfl
    · rfl
  have horders : u.orders = s.orders ++ [s.newOrder p c a] := by
    rw [← hu, State.recordCreation_orders]
    split
    · rw [State.setLockout_orders, State.energise_orders]
    · rfl
  have hstarted : ∀ o ∈ u.orders, o.position = p → o.startedAt = u.clock := by
    rw [horders, State.clock_of_apart hapart]
    intro o ho hpos
    rcases List.mem_append.mp ho with hold | hnew
    · exact absurd hpos (by simpa using List.find?_eq_none.mp hnone o hold)
    · rw [List.mem_singleton.mp hnew]
      rfl
  have hpulses : u.pulsesRun := fun q => by
    unfold State.positionSet
    rw [State.settings_of_apart hapart]
    exact hs q
  have hlen : s.orders.length < u.orders.length := by simp [horders]
  rcases (judgeOrder_startedNow hpulses hstarted).orders with hlt | ⟨heq, -⟩
  · exact hlen.trans hlt
  · exact heq.symm ▸ hlen

/-- An upgraded order stands (R105). -/
theorem upgradeOrder (hs : s.pulsesRun) (p : Index) : OrdersOnlyCome s (s.upgradeOrder p) := by
  have hdriven {t : State} (h : OrdersOnlyCome s t) :
      OrdersOnlyCome s (((t.energise p).setLockout p).recordUpgrade p) :=
    h.trans (same (by simp) (State.setLockout_orders _ p) (State.setLockout_current _ p))
  have hv := hdriven (mapOrder p fun o =>
    { o with attr := .live, stage := .driving, startedAt := s.clock, deadline := s.failDeadline p, escalated := none })
  refine hv.trans (judgeOrder_startedNow (hv.pulsesRun hs) fun o ho hpos => ?_)
  rw [State.clock_of_apart hv.apart]
  rw [show (State.recordUpgrade _ p).orders = (State.setLockout _ p).orders from rfl, State.setLockout_orders] at ho
  obtain ⟨q, -, rfl⟩ := List.mem_map.mp ho
  by_cases hq : (q.position == p) = true
  · rw [if_pos hq]
  · rw [if_neg hq] at hpos
    exact absurd (beq_of_eq hpos) hq

/-- A request joins an order, upgrades it or creates one (R103 to R105). -/
theorem requestOrder (hs : s.pulsesRun) (p : Index) (c : Cause) (a : Attribute) :
    OrdersOnlyCome s (s.requestOrder p c a) := by
  unfold State.requestOrder
  cases ho : s.orderAt p with
  | none => exact createOrder hs ho c a
  | some o =>
    have hmap : OrdersOnlyCome s (s.mapOrder p fun q => q.addCause c) := mapOrder p _
    dsimp only
    split
    · exact hmap.trans (upgradeOrder (hmap.pulsesRun hs) p)
    · exact hmap

theorem requestAll (hs : s.pulsesRun) (ps : List Index) (c : Cause) (a : Attribute) :
    OrdersOnlyCome s (s.requestAll ps c a) :=
  foldl fun _ ht p _ => requestOrder (ht.pulsesRun hs) p c a

/-! ### Zones (R91 to R94) -/

theorem post (k : NoticeKind) (a b : Nat) : OrdersOnlyCome s (s.post k a b) := same rfl rfl rfl

theorem setZone (z : Index) (q : Zone) : OrdersOnlyCome s (s.setZone z q) := same rfl rfl rfl

theorem requestClearing (hs : s.pulsesRun) (z : Index) (a : Attribute) : OrdersOnlyCome s (s.requestClearing z a) := by
  unfold State.requestClearing
  dsimp only
  split
  · exact post _ _ _
  · exact requestAll hs _ _ _

theorem growZone (hs : s.pulsesRun) (z : Index) (entered : List Index) : OrdersOnlyCome s (s.growZone z entered) := by
  unfold State.growZone
  split
  · split
    · exact requestAll hs _ _ _
    · exact refl s
  · exact refl s

/-- A zone replaced, its trip announced and its clearing set requested (R93, R94). -/
theorem trip (hs : s.pulsesRun) (z : Index) (q : Zone) (a : Attribute) (k : Nat) :
    OrdersOnlyCome s (((s.setZone z q).post .zoneTrip z k).requestClearing z a) :=
  have h := (setZone z q).trans (post .zoneTrip z k)
  h.trans (requestClearing (h.pulsesRun hs) z a)

theorem enterAlert (z : Index) (q : Zone) (r : AlertReason) : OrdersOnlyCome s (s.enterAlert z q r) := by
  unfold State.enterAlert
  dsimp only
  split
  · exact setZone _ _
  · exact (setZone _ _).trans (post _ _ _)

theorem evaluate (hs : s.pulsesRun) (z : Index) (entered : List Index) : OrdersOnlyCome s (s.evaluate z entered) := by
  have hgrow {t : State} (h : OrdersOnlyCome s t) : OrdersOnlyCome s (t.growZone z entered) :=
    h.trans (growZone (h.pulsesRun hs) z entered)
  unfold State.evaluate
  split
  · exact refl s
  · dsimp only
    split
    · exact setZone _ _
    · exact setZone _ _
    · exact setZone _ _
    · exact setZone _ _
    · exact enterAlert _ _ _
    · exact enterAlert _ _ _
    · exact trip hs _ _ _ _
    · exact trip hs _ _ _ _
    · refine hgrow ?_
      split
      · exact setZone _ _
      · split
        · exact trip hs _ _ _ _
        · exact setZone _ _

theorem evaluatePoint (hs : s.pulsesRun) (m : Index) : OrdersOnlyCome s (s.evaluatePoint m) :=
  foldl fun t ht z _ => (evaluate (ht.pulsesRun hs) z []).trans
    (same (t.noteContent_apart _) (t.noteContent_orders _) (t.noteContent_current _))

/-! ### Points (R48, R49) -/

/-- While a point's CP is set, the position it is attached to is neither cleared nor unsupervised (R62). -/
theorem judgeAttached {m : Index} (hm : m ∈ upTo 4) (hcp : (s.point m).cp = true) :
    OrdersOnlyCome s (s.judgeAttached (s.pointSet m).attached) := by
  cases ha : (s.pointSet m).attached with
  | none => exact refl s
  | some p =>
    have hmem : m ∈ s.attachedPoints p := List.mem_filter.mpr ⟨hm, by simp [ha]⟩
    refine judgeOrder fun o _ => .inr ⟨?_, ?_⟩
    · simp [State.unsupervised, List.ne_nil_of_mem hmem]
    · simpa [State.cleared] using fun _ _ => ⟨m, hmem, hcp⟩

/-- A point whose CP has not gone handed over. -/
theorem handPoint (hs : t.pulsesRun) {m : Index} (hm : m ∈ upTo 4) (hset : s.pointSet m = t.pointSet m)
    (hcp : (s.point m).cp = true → (t.point m).cp = true) : OrdersOnlyCome t (s.handPoint t m) := by
  unfold State.handPoint
  have hjudged : OrdersOnlyCome t
      (if (s.point m).cp != (t.point m).cp then t.judgeAttached (s.pointSet m).attached else t) := by
    split
    · next hne =>
      rw [hset]
      refine judgeAttached hm ?_
      cases hold : (s.point m).cp with
      | false => simpa [hold] using hne
      | true => exact hcp hold
    · exact refl t
  dsimp only
  split
  · exact hjudged.trans (evaluatePoint (hjudged.pulsesRun hs) m)
  · exact hjudged

end OrdersOnlyCome

end Sys2Proof.Machine
end

section
/-! CURRENT_SAMPLE (R43 to R50): the points sampled and handed over. With eight positions the incident peak takes the new
magnitudes wherever no order comes; with a ninth listed in the settings it may not. -/

namespace Sys2Proof.Machine

open Wire

variable {s t : State} {m : Index}

/-! ### The command -/

/-- The state when the sample instant has come and the four points are sampled, before any is handed over. -/
def State.atCurrentSample (s : State) (samples : List Int) : State :=
  { s.advanceTo s.nextCurrent with
    current :=
      { next := s.nextCurrent + s.currentInterval, last := some s.nextCurrent
        points := (upTo 4).map fun m => (s.point m).sample (s.pointSet m) (phases samples m) s.nextCurrent } }

theorem State.atCurrentSample_point (samples : List Int) (hm : m ∈ upTo 4) :
    (s.atCurrentSample samples).point m = (s.point m).sample (s.pointSet m) (phases samples m) s.nextCurrent :=
  item_map_upTo _ _ hm

/-- The sampled points handed over, each in its turn (R48, R49). -/
def State.handCurrentSample (s : State) (samples : List Int) : State :=
  (inOrder s.sched.points 4).foldl (s.advanceTo s.nextCurrent).handPoint (s.atCurrentSample samples)

theorem exec_currentSample (samples : List Int) (hp : s.powered = true) (ho : s.currentOwes = false) :
    exec (.currentSample samples) s = .next (settle s (s.handCurrentSample samples)) := by
  show execCurrentSample samples s = _
  rw [execCurrentSample, conclude_powered s _ hp, if_neg (by simp [ho])]
  rfl

/-- The hand-over reaches the decision path alone. -/
theorem State.handCurrentSample_apart (samples : List Int) :
    (s.handCurrentSample samples).apart = (s.atCurrentSample samples).apart :=
  foldl_apart _ _ (fun t m => State.handPoint_apart _ t m) _

/-! ### Eight positions (R1, R50) -/

/-- The decision path leaves every CP alone. -/
theorem State.cp_of_apart (h : t.apart = s.apart) (m : Index) : (t.point m).cp = (s.point m).cp := by
  have key (u : State) : (u.apart.point m).cp = (u.point m).cp :=
    (congrArg Point.cp (item_map (fun p : Point => { p with peak := none }) u.current.points .fresh m) :)
  rw [← key t, ← key s, h]

/-- A sample lets no order go: orders come, or the front end stands as sampled. -/
theorem State.handCurrentSample_onlyCome (samples : List Int) (hs : s.pulsesRun) :
    OrdersOnlyCome (s.atCurrentSample samples) (s.handCurrentSample samples) := by
  have hset : (s.atCurrentSample samples).settings = s.settings := s.advanceTo_settings _
  have hpulses : (s.atCurrentSample samples).pulsesRun := fun p => by
    unfold State.positionSet
    rw [hset]
    exact hs p
  refine .foldl fun t ht m hm => .handPoint (ht.pulsesRun hpulses) (mem_inOrder_iff.mp hm) ?_ fun hcp => ?_
  · unfold State.pointSet
    rw [State.settings_of_apart ht.apart, hset, State.advanceTo_settings]
  · have hold : (s.advanceTo s.nextCurrent).point m = s.point m := by
      unfold State.point
      rw [State.advanceTo_current]
    rw [hold] at hcp
    rw [State.cp_of_apart ht.apart, State.atCurrentSample_point samples (mem_inOrder_iff.mp hm)]
    simp [Point.sample, hcp]

/-- What of O23 holds: where there are eight positions, a sample at which no order comes takes each peak to the largest of
its value and the point's magnitudes (R50), and beside the peaks the front end is as sampled. -/
theorem currentSample_of_eightPositions (samples : List Int) (hp : s.powered = true) (ho : s.currentOwes = false)
    (hl : s.settings.active.topology.positions.length = 8) (hpulse : ∀ q ∈ upTo 8, 0 < (s.positionSet q).minPulse) :
    Gives (.currentSample samples) s fun t =>
      t.apart = (s.atCurrentSample samples).apart ∧
        (t.orders.length = s.orders.length → ∀ m ∈ upTo 4,
          (t.point m).peak = (s.point m).peak.map fun x => (phases samples m).foldl max x) := by
  refine ⟨_, exec_currentSample samples hp ho, (settle_apart s _).trans (State.handCurrentSample_apart samples),
    fun hlen m hm => ?_⟩
  rw [settle_orders] at hlen
  have hbefore : (s.atCurrentSample samples).orders = s.orders := s.advanceTo_orders _
  rcases (State.handCurrentSample_onlyCome samples (State.pulsesRun_of_eight hl hpulse)).orders with hlt | ⟨-, hcurrent⟩
  · rw [hbefore, hlen] at hlt
    exact absurd hlt (Nat.lt_irrefl _)
  · have hpoint : (settle s (s.handCurrentSample samples)).point m = (s.atCurrentSample samples).point m := by
      unfold State.point
      rw [settle_current, hcurrent]
    rw [hpoint, State.atCurrentSample_point samples hm]
    rfl

/-! ### A ninth position -/

/-- In service with a lit channel in Z1 and M1, which confirms Z1, armed. The settings list a ninth position with no minimum
pulse, and Z1's clearing set is that position; positions 1 to 8 have the factory's 150 ms. -/
def ninthPosition : State :=
  { State.reset with
    light := { State.reset.light with
      channels := { Channel.fresh true with detection := .lit } :: List.replicate 15 (.fresh false) }
    current := { State.reset.current with
      points := { Point.fresh with armed := [true, false, false], peak := some 0 } :: List.replicate 3 .fresh }
    zones := .fresh [9] [1] :: List.replicate 7 (.fresh [] [])
    control := { State.reset.control with state := .inService }
    settings := { State.reset.settings with
      active := { Settings.factory with
        topology :=
          { positions :=
              { PositionSettings.factory with nodeA := .source 1, nodeB := .zone 1 } :: List.replicate 7 .factory ++
                [{ PositionSettings.factory with nodeA := .source 1, nodeB := .zone 1, minPulse := 0 }]
            sources := [true, false, false, false]
            zones := { ZoneSettings.factory with mode := .checked, members := [1] } :: List.replicate 7 .factory } } } }

/-- The sample sets M1's OC and trips Z1. The order for the ninth position is confirmed and, without a pulse to wait for,
released as it is created: the trip record opens and closes within the command, and takes the peaks with it. -/
theorem ninthPosition_handed :
    (ninthPosition.handCurrentSample [20000]).orders = ninthPosition.orders ∧
      ((ninthPosition.handCurrentSample [20000]).point 1).peak = none := by decide

/-- Refutes O23, at its peak clause: in `ninthPosition` the orders are the same before and after, but one has come and gone
in between. A state's settings may list more positions than the eight of R1, and the claim asks for the minimum pulses of
those eight alone; `currentSample_of_eightPositions` is the clause with the premise it lacks. -/
theorem not_currentSampleIsTaken : ¬ Obligations.CurrentSampleIsTaken := by
  unfold Obligations.CurrentSampleIsTaken
  intro h
  obtain ⟨-, htaken⟩ := h ninthPosition [20000] rfl
  obtain ⟨t, ht, -, -, -, -, hpoint⟩ := htaken (by decide)
  rw [exec_currentSample [20000] rfl (by decide)] at ht
  obtain rfl : settle ninthPosition (ninthPosition.handCurrentSample [20000]) = t := by injection ht
  obtain ⟨horders, hnone⟩ := ninthPosition_handed
  obtain ⟨-, hpeak⟩ := hpoint 1 (by decide) (by decide)
  have hsome := hpeak (by decide) (by rw [settle_orders, horders])
  have hstill : (settle ninthPosition (ninthPosition.handCurrentSample [20000])).point 1 =
      (ninthPosition.handCurrentSample [20000]).point 1 := by
    unfold State.point
    rw [settle_current]
  rw [hstill, hnone] at hsome
  exact absurd hsome (by decide)

end Sys2Proof.Machine
end

section
/-! What a derivation makes of a position's record (R57 to R59), and what a position conducts and proves (R61, R62). -/

namespace Sys2Proof.Machine

open Wire

variable {s : State} {p : Index}

/-! ### Position records -/

/-- Of two replacements of an entry the later one stands. -/
theorem put_put {α : Type} (l : List α) (n : Index) (v w : α) : put (put l n v) n w = put l n w := by
  cases n with
  | zero => rfl
  | succ k => exact List.set_set v

@[simp] theorem State.setPosition_setPosition (q r : Position) :
    (s.setPosition p q).setPosition p r = s.setPosition p r := by
  simp only [State.setPosition, put_put]

/-- A position replaced by itself. -/
theorem State.setPosition_self (s : State) (p : Index) : s.setPosition p (s.position p) = s := by
  simp only [State.setPosition, State.position, put_item_self]

theorem State.position_setPosition_same (q : Position) (hl : s.positions.length = 8) (hp : p ∈ upTo 8) :
    (s.setPosition p q).position p = q := by
  obtain ⟨h1, h8⟩ := mem_upTo.mp hp
  exact item_put_same _ _ q h1 (hl.symm ▸ h8)

@[simp] theorem State.setPosition_used (q : Position) (r : Index) :
    (s.setPosition p q).usedPosition r = s.usedPosition r := rfl

@[simp] theorem State.setPosition_set (q : Position) (r : Index) :
    (s.setPosition p q).positionSet r = s.positionSet r := rfl

@[simp] theorem State.advanceTo_position (d : Instant) (r : Index) : (s.advanceTo d).position r = s.position r := by
  simp only [State.position, State.advanceTo_positions]

@[simp] theorem State.advanceTo_used (d : Instant) (r : Index) : (s.advanceTo d).usedPosition r = s.usedPosition r := by
  simp only [State.usedPosition, State.advanceTo_settings]

@[simp] theorem State.advanceTo_positionSet (d : Instant) (r : Index) :
    (s.advanceTo d).positionSet r = s.positionSet r := by
  simp only [State.positionSet, State.advanceTo_settings]

/-! ### Derivation (R57 to R59) -/

/-- A derivation leaves the value already held, and no effect (R59). -/
theorem State.derive_same (h : (s.derivedRecord p).derived = (s.position p).derived) :
    s.derive p = s.setPosition p (s.derivedRecord p) := by
  simp [State.derive, h]

/-- A new value is stamped, counted and posted (R59). -/
theorem State.derive_changed (h : (s.derivedRecord p).derived ≠ (s.position p).derived) :
    s.derive p =
      (s.setPosition p { s.derivedRecord p with
        changedAt := s.partTime, changes := bump (s.derivedRecord p).changes }).post
        .positionChange p (s.derivedRecord p).derived.code := by
  simp [State.derive, h]

/-- A position that keeps its value has no effect beyond its record (R59). -/
theorem State.derivePosition_same (h : (s.derivedRecord p).derived = (s.position p).derived) :
    s.derivePosition p = s.setPosition p (s.derivedRecord p) := by
  have hd : ((s.setPosition p (s.derivedRecord p)).position p).derived = (s.position p).derived := by
    rcases item_put_cases s.positions .blank (s.derivedRecord p) p p with hr | ⟨-, hr⟩
    · exact (congrArg Position.derived hr :)
    · exact (congrArg Position.derived hr :).trans h
  simp [State.derivePosition, State.derive_same h, hd]

/-- What a derivation has posted stands before the notices of the blocks it reaches (R59). -/
theorem State.holds.derivePosition {q : List Notice} (h : (s.derive p).holds q) : (s.derivePosition p).holds q := by
  unfold State.derivePosition
  dsimp only
  split
  · exact h
  · split
    · exact (h.judgeOrder p).recompute
    · exact h.recompute.judgeOrder p

/-- A posting made when the queue was that of `s` stands in the state that follows, settled (R150). -/
theorem posted_settle {t u : State} {k : NoticeKind} {a b : Nat} (hn : u.notices = s.notices)
    (hk : k ≠ .lost) (h : ∀ q, (u.post k a b).holds q → t.holds q) :
    Posted s [{ kind := k, subject := a, value := b, time := u.partTime }] (settle s t) := by
  refine posted_of_holds fun hl hs => ?_
  have hpost : (u.post k a b).notices = s.notices ++ [{ kind := k, subject := a, value := b, time := u.partTime }] := by
    have hroom : s.notices.length < 31 := Nat.lt_of_succ_le hl
    rw [State.post, hn]
    exact enqueue_room _ _ hs hroom
  refine State.holds.same (h _ ⟨?_, hpost ▸ List.prefix_rfl⟩) (settle_notices s t)
  simp only [List.mem_append, List.mem_singleton]
  rintro n (hmem | rfl)
  · exact hs n hmem
  · exact hk

/-- A changed value: beside the record the decision path alone, and POSITION_CHANGE before what it posts (R59). -/
theorem State.derivePosition_changed {t : State} (hn : t.notices = s.notices)
    (h : (t.derivedRecord p).derived ≠ (t.position p).derived) :
    (settle s (t.derivePosition p)).apart =
        (t.setPosition p { t.derivedRecord p with
          changedAt := t.partTime, changes := bump (t.derivedRecord p).changes }).apart ∧
      Posted s
        [{ kind := .positionChange, subject := p, value := (t.derivedRecord p).derived.code, time := t.partTime }]
        (settle s (t.derivePosition p)) := by
  constructor
  · rw [settle_apart, State.derivePosition_apart, State.derive_changed h, State.post_apart]
  · refine posted_settle (u := t.setPosition p { t.derivedRecord p with
        changedAt := t.partTime, changes := bump (t.derivedRecord p).changes }) hn (by decide) fun q hq =>
      State.holds.derivePosition ?_
    rw [State.derive_changed h]
    exact hq

/-- The taken states after a contact has been taken (R56). -/
theorem Position.take_taken (q : Position) (c : Contact) :
    (q.setContact c (q.contact c).take).cl.taken = (if c = .cl then q.cl.raw else q.cl.taken) ∧
      (q.setContact c (q.contact c).take).op.taken = (if c = .op then q.op.raw else q.op.taken) := by
  cases c <;> exact ⟨rfl, rfl⟩

theorem Position.setContact_rest (q : Position) (c : Contact) (i : ContactInput) :
    (q.setContact c i).derived = q.derived ∧ (q.setContact c i).expired = q.expired ∧
      (q.setContact c i).travelStart = q.travelStart ∧ (q.setContact c i).changes = q.changes := by
  cases c <;> exact ⟨rfl, rfl, rfl, rfl⟩

/-- The table of R57. -/
theorem derivedOf_table (used wired cl op expired : Bool) :
    derivedOf used wired cl op expired =
      if ¬(used = true ∧ wired = true) then .none
      else if cl && op then .invalid
      else if cl then .closed
      else if op then .opened
      else if expired then .invalid
      else .travel := by
  revert used wired cl op expired
  decide

/-! ### Conduction and evidence (R61, R62) -/

theorem Derived.conducts_iff (d : Derived) : d.conducts = true ↔ d ≠ .opened := by cases d <;> decide

theorem State.mem_conductors : p ∈ s.conductors ↔
    p ∈ upTo 8 ∧ s.usedPosition p = true ∧ (s.position p).derived ≠ .opened := by
  simp only [State.conductors, List.mem_filter, Bool.and_eq_true, Derived.conducts_iff]

/-- Clearing sets are of conducting positions (R61, R67). -/
theorem State.mem_conductors_of_clearing {z : Index} (h : p ∈ s.clearingSet z) : p ∈ s.conductors :=
  List.mem_of_mem_filter h

theorem State.mem_attachedPoints {m : Index} :
    m ∈ s.attachedPoints p ↔ m ∈ upTo 4 ∧ (s.pointSet m).attached = some p := by
  simp only [State.attachedPoints, List.mem_filter, beq_iff_eq]

theorem State.cleared_iff : s.cleared p = true ↔
    s.usedPosition p = true ∧ ((s.position p).derived = .opened ∨ (s.position p).derived = .none) ∧
      ∀ m ∈ upTo 4, (s.pointSet m).attached = some p → (s.point m).cp = false := by
  simp only [State.cleared, Bool.and_eq_true, Bool.or_eq_true, beq_iff_eq, List.all_eq_true, State.mem_attachedPoints,
    Bool.not_eq_true', and_imp, and_assoc]

theorem State.unsupervised_iff : s.unsupervised p = true ↔
    s.usedPosition p = true ∧ (s.position p).derived = .none ∧ ∀ m ∈ upTo 4, (s.pointSet m).attached ≠ some p := by
  simp only [State.unsupervised, Bool.and_eq_true, beq_iff_eq, List.isEmpty_iff, List.eq_nil_iff_forall_not_mem,
    State.mem_attachedPoints, not_and, and_assoc, ne_eq]

/-- Settles O28: clearing sets are drawn from the conductors, and the views of R61 and R62 are what their definitions
filter. -/
theorem conductionAndEvidence : Obligations.ConductionAndEvidence := by
  refine ⟨fun s z p _ hp => ?_, fun s p hp => ?_, fun s p => ⟨State.cleared_iff, State.unsupervised_iff⟩⟩
  · obtain ⟨-, -, hd⟩ := State.mem_conductors.mp (State.mem_conductors_of_clearing hp)
    exact hd
  · rw [State.mem_conductors, and_iff_right hp]

end Sys2Proof.Machine
end

section
/-! The commands of the position inputs (R56 to R60). -/

namespace Sys2Proof.Machine

open Wire

variable {s : State} {p : Index}

/-! ### The commands -/

/-- The state with a contact of a position taken as it stands, before the position is derived (R56). -/
def State.takeContact (s : State) (p : Index) (c : Contact) : State :=
  s.setPosition p ((s.position p).setContact c ((s.position p).contact c).take)

theorem exec_debounceExpiry_idle {c : Contact} (hp : s.powered = true) (h : ((s.position p).contact c).timer = none) :
    exec (.debounceExpiry p c) s = .next (settle s s) := by
  show execDebounceExpiry p c s = _
  rw [execDebounceExpiry, conclude_powered s _ hp]
  simp only [h]

theorem exec_debounceExpiry {c : Contact} {d : Instant} (hp : s.powered = true)
    (h : ((s.position p).contact c).timer = some d) :
    exec (.debounceExpiry p c) s = .next (settle s (((s.advanceTo d).takeContact p c).derivePosition p)) := by
  show execDebounceExpiry p c s = _
  rw [execDebounceExpiry, conclude_powered s _ hp]
  simp only [h, State.takeContact, State.advanceTo_position]

/-- A raw state already held is no change (R56). -/
theorem exec_contactRawChange_same {c : Contact} {on : Bool} (hp : s.powered = true)
    (h : on = ((s.position p).contact c).raw) : exec (.contactRawChange p c on) s = .next (settle s s) := by
  have hset : (s.position p).setContact c (((s.position p).contact c).change s.clock on) = s.position p := by
    cases c <;> simp [ContactInput.change, Position.setContact, Position.contact, h]
  show execContactRawChange p c on s = _
  rw [execContactRawChange, if_pos hp, conclude_powered s _ hp, hset, State.setPosition_self]

/-- A raw change starts the input's timer, or stops it where the input is again as taken (R56). -/
theorem exec_contactRawChange {c : Contact} {on : Bool} (hp : s.powered = true)
    (h : on ≠ ((s.position p).contact c).raw) :
    exec (.contactRawChange p c on) s = .next (settle s (s.setPosition p ((s.position p).setContact c
      { (s.position p).contact c with
        raw := on
        timer := if on = ((s.position p).contact c).taken then none else some (s.clock + Config.debounce) }))) := by
  show execContactRawChange p c on s = _
  rw [execContactRawChange, if_pos hp, conclude_powered s _ hp]
  simp [ContactInput.change, h]

theorem exec_discrepancyExpiry_idle (hp : s.powered = true) (h : (s.position p).derived ≠ .travel) :
    exec (.discrepancyExpiry p) s = .next (settle s s) := by
  show execDiscrepancyExpiry p s = _
  rw [execDiscrepancyExpiry, conclude_powered s _ hp]
  simp [State.discrepancyDue, h]

theorem exec_discrepancyExpiry {v : Instant} (hp : s.powered = true) (h : (s.position p).derived = .travel)
    (hv : (s.position p).travelStart = some v) :
    exec (.discrepancyExpiry p) s = .next (settle s
      (((s.advanceTo (v + (s.positionSet p).discrepancy * Config.ms)).setPosition p
        { s.position p with expired := true }).derivePosition p)) := by
  show execDiscrepancyExpiry p s = _
  rw [execDiscrepancyExpiry, conclude_powered s _ hp]
  simp [State.discrepancyDue, h, hv]

/-- A wired position with both contacts off whose discrepancy time has run derives as INVALID (R57, R58). -/
theorem State.derivedRecord_expired {q : Position} (hl : s.positions.length = 8) (hp : p ∈ upTo 8)
    (hu : s.usedPosition p = true) (hw : (s.positionSet p).wired = true) (hcl : q.cl.taken = false)
    (hop : q.op.taken = false) (he : q.expired = true) :
    (s.setPosition p q).derivedRecord p = { q with expired := true, derived := .invalid, travelStart := none } := by
  unfold State.derivedRecord
  simp [State.position_setPosition_same q hl hp, hu, hw, hcl, hop, he, derivedOf]

/-- Settles O25: the commands of the two timers, evaluated at the position's record. -/
theorem contactTimersRun : Obligations.ContactTimersRun := by
  unfold Obligations.ContactTimersRun
  refine ⟨fun s p on hs hp hl => ⟨exec_contactRawChange (c := .cl) hs, exec_contactRawChange_same (c := .cl) hs,
    exec_contactRawChange (c := .op) hs, exec_contactRawChange_same (c := .op) hs⟩,
    fun s p hs hp hl => ⟨exec_discrepancyExpiry_idle hs, ?_⟩⟩
  intro htravel hu hw hcl hop v hv
  have hl' (d : Instant) : (s.advanceTo d).positions.length = 8 := by rw [State.advanceTo_positions, hl]
  have hr := State.derivedRecord_expired (s := s.advanceTo (v + (s.positionSet p).discrepancy * Config.ms))
    (q := { s.position p with expired := true }) (hl' _) hp (by simpa using hu) (by simpa using hw) hcl hop rfl
  obtain ⟨hapart, hposted⟩ := State.derivePosition_changed (s := s) (p := p)
    (t := (s.advanceTo (v + (s.positionSet p).discrepancy * Config.ms)).setPosition p
      { s.position p with expired := true }) (State.advanceTo_notices s _) (by
        rw [hr, State.position_setPosition_same _ (hl' _) hp]
        simp [htravel])
  rw [hr] at hapart hposted
  rw [State.setPosition_setPosition] at hapart
  exact ⟨_, exec_discrepancyExpiry hs htravel hv, hapart, hposted⟩

/-- Settles O26: the end of a debounce is a derivation of the position with the contact taken. -/
theorem debounceDerives : Obligations.DebounceDerives := by
  unfold Obligations.DebounceDerives
  intro s p c hs hp hl q
  refine ⟨exec_debounceExpiry_idle hs, fun d hd => ?_⟩
  intro u cl op used expired new r
  have hlu : u.positions.length = 8 := by rw [State.advanceTo_positions, hl]
  have hpos : (u.takeContact p c).position p = q.setContact c (q.contact c).take := by
    rw [State.takeContact, State.position_setPosition_same _ hlu hp, State.advanceTo_position]
  obtain ⟨hcl, hop⟩ := q.take_taken c
  obtain ⟨hderived, hexpired, hstart, hchanges⟩ := q.setContact_rest c (q.contact c).take
  have hrecord : (u.takeContact p c).derivedRecord p = r := by
    have hu : (u.takeContact p c).usedPosition p = s.usedPosition p := s.advanceTo_used d p
    have hw : ((u.takeContact p c).positionSet p).wired = (s.positionSet p).wired := by
      rw [show (u.takeContact p c).positionSet p = s.positionSet p from s.advanceTo_positionSet d p]
    have he : (q.expired && s.usedPosition p && (s.positionSet p).wired && !cl && !op) = expired := by
      simp [expired, used, Bool.and_assoc]
    have hn : derivedOf (s.usedPosition p) (s.positionSet p).wired cl op expired = new := derivedOf_table _ _ _ _ _
    unfold State.derivedRecord
    simp only [hpos, hcl, hop, hu, hw, hderived, hexpired, hstart]
    rw [he, hn]
    simp only [beq_iff_eq]
    rfl
  have hexec := exec_debounceExpiry hs hd
  have hset (x : Position) : (u.takeContact p c).setPosition p x = u.setPosition p x :=
    State.setPosition_setPosition _ _
  refine ⟨fun hnew => ?_, fun hnew => ?_⟩
  · have hsame : ((u.takeContact p c).derivedRecord p).derived = ((u.takeContact p c).position p).derived := by
      rw [hrecord, hpos, hderived]
      exact hnew
    rw [hexec, State.derivePosition_same hsame, hrecord, hset]
  · have hchanged : ((u.takeContact p c).derivedRecord p).derived ≠ ((u.takeContact p c).position p).derived := by
      rw [hrecord, hpos, hderived]
      exact hnew
    obtain ⟨hapart, hposted⟩ := State.derivePosition_changed (t := u.takeContact p c) (s.advanceTo_notices d) hchanged
    rw [hrecord, hset, show r.changes = q.changes from hchanges] at hapart
    rw [hrecord] at hposted
    exact ⟨_, hexec, hapart, hposted⟩

end Sys2Proof.Machine
end

section
/-! What the rule on derived positions and sets reads (R57, R67, R69): the active topology and point groups, the
position records and the zones' sets. What leaves `State.topologyView` alone keeps the rule. -/

namespace Sys2Proof.Machine

open Wire

variable {s t u : State} {p z : Index}

/-! ### The view -/

/-- The sets of a zone (R66). -/
def Zone.sets (q : Zone) : List Index × List Index := (q.clearing, q.confirmation)

/-- What positions and sets are derived from. -/
def State.grid (s : State) : TopologySettings × List PointSettings × List Position :=
  (s.settings.active.topology, s.settings.active.points, s.positions)

/-- What positions and sets are derived from, and the sets the zones hold. -/
def State.topologyView (s : State) :
    (TopologySettings × List PointSettings × List Position) × List (List Index × List Index) :=
  (s.grid, s.zones.map Zone.sets)

/-- An operation of the decision path leaves alone what positions and sets are derived from. -/
theorem State.grid_of_apart (h : t.apart = s.apart) : t.grid = s.grid := (congrArg State.grid h :)

/-- An operation of the decision path that leaves the zones alone leaves the view alone. -/
theorem State.topologyView_of_apart (ha : t.apart = s.apart) (hz : t.zones = s.zones) :
    t.topologyView = s.topologyView := by
  rw [State.topologyView, State.grid_of_apart ha, hz]
  rfl

theorem State.topologyView_of_parts (hs : t.settings = s.settings) (hp : t.positions = s.positions)
    (hz : t.zones = s.zones) : t.topologyView = s.topologyView := by
  simp only [State.topologyView, State.grid, hs, hp, hz]

/-- Both branches leave the view alone. -/
theorem State.topologyView_ite {c : Prop} [Decidable c] (ht : t.topologyView = s.topologyView)
    (hu : u.topologyView = s.topologyView) : (if c then t else u).topologyView = s.topologyView := by
  split
  · exact ht
  · exact hu

/-- Repeated operations that leave the view alone leave it alone together. -/
theorem foldl_topologyView {α : Type} (f : State → α → State) (h : ∀ t x, (f t x).topologyView = t.topologyView)
    (l : List α) (s : State) : (l.foldl f s).topologyView = s.topologyView :=
  List.foldlRecOn (motive := fun t => t.topologyView = s.topologyView) l f rfl fun t ht x _ => (h t x).trans ht

/-! ### The rule -/

/-- A position's derived value is that of its inputs (R57). -/
def State.derivedAt (s : State) (p : Index) : Prop :=
  (s.position p).derived =
    derivedOf (s.usedPosition p) (s.positionSet p).wired (s.position p).cl.taken (s.position p).op.taken
      (s.position p).expired

/-- All derived positions are those of their inputs. -/
def State.positionsDerived (s : State) : Prop := s.positions.length = 8 ∧ ∀ p ∈ upTo 8, s.derivedAt p

/-- All sets are those of their inputs (R67, R69). -/
def State.setsComputed (s : State) : Prop :=
  s.zones.length = 8 ∧ ∀ z ∈ upTo 8, (s.zone z).sets = (s.clearingSet z, s.confirmationSet (s.clearingSet z))

/-- The rule without the lengths of the front ends' lists. -/
def State.topologyComputed (s : State) : Prop := s.positionsDerived ∧ s.setsComputed

theorem State.topologyCurrent_iff : s.topologyCurrent ↔ s.shaped ∧ s.topologyComputed := by
  simp only [State.topologyCurrent, State.topologyComputed, State.positionsDerived, State.setsComputed,
    Zone.sets, Prod.mk.injEq]
  constructor
  · rintro ⟨hs, hd, hz⟩
    exact ⟨hs, ⟨hs.2.2.1, hd⟩, hs.2.2.2.1, hz⟩
  · rintro ⟨hs, ⟨-, hd⟩, -, hz⟩
    exact ⟨hs, hd, hz⟩

theorem State.positionsDerived.of_grid (hs : s.positionsDerived) (h : t.grid = s.grid) : t.positionsDerived := by
  simp only [State.grid, Prod.mk.injEq] at h
  obtain ⟨ht, -, hp⟩ := h
  simpa only [State.positionsDerived, State.derivedAt, State.position, State.usedPosition, State.positionSet, ht, hp]
    using hs

/-- A clearing set stands on the topology group and the derived positions alone (R61, R67). -/
theorem State.clearingSet_congr (ht : t.settings.active.topology = s.settings.active.topology)
    (hd : ∀ p ∈ upTo 8, (t.position p).derived = (s.position p).derived) (z : Index) :
    t.clearingSet z = s.clearingSet z := by
  have hc : t.conductors = s.conductors :=
    List.filter_congr fun p hp => by rw [hd p hp, State.usedPosition, State.usedPosition, ht]
  simp only [State.clearingSet, hc, ht]

/-- A confirmation set stands on the points' attachments alone (R69). -/
theorem State.confirmationSet_congr (ha : ∀ m ∈ upTo 4, (t.pointSet m).attached = (s.pointSet m).attached)
    (clearing : List Index) : t.confirmationSet clearing = s.confirmationSet clearing :=
  List.filter_congr fun m hm => by rw [ha m hm]

/-- The sets of a zone read from those of all zones. -/
theorem State.zone_sets (s : State) (z : Index) : (s.zone z).sets = item (s.zones.map Zone.sets) ([], []) z :=
  (item_map Zone.sets s.zones (.fresh [] []) z).symm

/-- Sets stay computed while neither they nor what they stand on changes. -/
theorem State.setsComputed.congr (hs : s.setsComputed) (hz : t.zones.map Zone.sets = s.zones.map Zone.sets)
    (ht : t.settings.active.topology = s.settings.active.topology)
    (hd : ∀ p ∈ upTo 8, (t.position p).derived = (s.position p).derived)
    (ha : ∀ m ∈ upTo 4, (t.pointSet m).attached = (s.pointSet m).attached) : t.setsComputed := by
  obtain ⟨hl, hsets⟩ := hs
  refine ⟨?_, fun z h => ?_⟩
  · simpa using (congrArg List.length hz).trans (by simpa using hl)
  · rw [State.zone_sets, hz, ← State.zone_sets, State.clearingSet_congr ht hd, State.confirmationSet_congr ha]
    exact hsets z h

theorem State.topologyComputed.of_view (hs : s.topologyComputed) (h : t.topologyView = s.topologyView) :
    t.topologyComputed := by
  obtain ⟨hg, hz⟩ := Prod.mk.inj h
  refine ⟨hs.1.of_grid hg, ?_⟩
  simp only [State.grid, Prod.mk.injEq] at hg
  obtain ⟨ht, hk, hp⟩ := hg
  exact hs.2.congr hz ht (fun p _ => by rw [State.position, State.position, hp])
    fun m _ => by rw [State.pointSet, State.pointSet, hk]

/-- What is proved of every operation: with the rule before it, the rule holds after it. -/
def KeepsTopology (s t : State) : Prop := s.topologyComputed → t.topologyComputed

namespace KeepsTopology

theorem refl (s : State) : KeepsTopology s s := id

theorem trans (h : KeepsTopology s t) (h' : KeepsTopology t u) : KeepsTopology s u := h' ∘ h

theorem of_view (h : t.topologyView = s.topologyView) : KeepsTopology s t := fun hs => hs.of_view h

/-- Only the view matters. -/
theorem congr_view (h : KeepsTopology s t) (hu : u.topologyView = t.topologyView) : KeepsTopology s u :=
  h.trans (of_view hu)

theorem foldl {α : Type} {f : State → α → State} (h : ∀ t x, KeepsTopology t (f t x)) (l : List α) (s : State) :
    KeepsTopology s (l.foldl f s) :=
  List.foldlRecOn (motive := KeepsTopology s) l f (refl s) fun t ht x _ => ht.trans (h t x)

end KeepsTopology

end Sys2Proof.Machine
end

section
/-! The operations of the decision path leave the topology view alone: an evaluation changes a zone's state and none of its
sets. -/

namespace Sys2Proof.Machine

open Wire

variable (s : State)

/-! ### Single updates, and the order unit -/

@[simp] theorem State.post_topologyView (k : NoticeKind) (a b : Nat) :
    (s.post k a b).topologyView = s.topologyView := rfl
@[simp] theorem State.mapLink_topologyView (f : Link → Link) : (s.mapLink f).topologyView = s.topologyView := rfl
@[simp] theorem State.countLink_topologyView (f : LinkCounters → LinkCounters) :
    (s.countLink f).topologyView = s.topologyView := rfl
@[simp] theorem State.mapPort_topologyView (f : Port → Port) : (s.mapPort f).topologyView = s.topologyView := rfl
@[simp] theorem State.mapPeer_topologyView (v : Index) (f : Peer → Peer) :
    (s.mapPeer v f).topologyView = s.topologyView := rfl
@[simp] theorem State.setChannel_topologyView (n : Index) (c : Channel) :
    (s.setChannel n c).topologyView = s.topologyView := rfl

@[simp] theorem State.setPartTime_topologyView (v : Nat) : (s.setPartTime v).topologyView = s.topologyView :=
  State.topologyView_of_parts (by rfl) (by rfl) (by rfl)
@[simp] theorem State.advanceTo_topologyView (d : Instant) : (s.advanceTo d).topologyView = s.topologyView :=
  State.topologyView_of_parts (by simp) (by simp) (by simp)
@[simp] theorem State.noteContent_topologyView (t : State) : (s.noteContent t).topologyView = t.topologyView :=
  State.topologyView_of_apart (by simp) (by simp)
@[simp] theorem settle_topologyView (t : State) : (settle s t).topologyView = t.topologyView :=
  State.topologyView_of_apart (by simp) (by simp)
@[simp] theorem State.clearLockouts_topologyView (ps : List Index) :
    (s.clearLockouts ps).topologyView = s.topologyView := State.topologyView_of_apart (by simp) (by simp)
@[simp] theorem State.release_topologyView (p : Index) : (s.release p).topologyView = s.topologyView :=
  State.topologyView_of_apart (by simp) (by simp)
@[simp] theorem State.confirm_topologyView (o : Order) : (s.confirm o).topologyView = s.topologyView :=
  State.topologyView_of_apart (by simp) (by simp)
@[simp] theorem State.judgeOrder_topologyView (p : Index) : (s.judgeOrder p).topologyView = s.topologyView :=
  State.topologyView_of_apart (by simp) (by simp)
@[simp] theorem State.judgeAttached_topologyView (o : Option Index) :
    (s.judgeAttached o).topologyView = s.topologyView := State.topologyView_of_apart (by simp) (by simp)
@[simp] theorem State.requestOrder_topologyView (p : Index) (c : Cause) (a : Attribute) :
    (s.requestOrder p c a).topologyView = s.topologyView := State.topologyView_of_apart (by simp) (by simp)
@[simp] theorem State.requestEdge_topologyView (v p : Index) : (s.requestEdge v p).topologyView = s.topologyView :=
  State.topologyView_of_apart (by simp) (by simp)
@[simp] theorem State.failOrder_topologyView (o : Order) : (s.failOrder o).topologyView = s.topologyView :=
  State.topologyView_of_apart (by simp) (by simp)
@[simp] theorem State.stallOrder_topologyView (o : Order) : (s.stallOrder o).topologyView = s.topologyView :=
  State.topologyView_of_apart (by simp) (by simp)
@[simp] theorem State.withdrawDry_topologyView : s.withdrawDry.topologyView = s.topologyView :=
  State.topologyView_of_apart (by simp) (by simp)

/-! ### Evaluations (R90, R91) -/

/-- An evaluation leaves every zone the sets it had. -/
theorem State.evaluate_sets (z : Index) (e : List Index) :
    (s.evaluate z e).zones.map Zone.sets = s.zones.map Zone.sets := by
  have replaced {q : Zone} (h : q.sets = (s.zone z).sets) : (put s.zones z q).map Zone.sets = s.zones.map Zone.sets :=
    put_map_same _ h
  unfold State.evaluate
  split
  · rfl
  · dsimp only
    split
    case h_1 | h_2 | h_3 | h_4 => exact replaced (by rfl)
    case h_5 | h_6 => exact State.enterAlert_zones _ _ ▸ replaced (by rfl)
    case h_7 | h_8 => exact State.enterTripped_zones _ _ ▸ replaced (by rfl)
    case h_9 =>
      rw [State.growZone_zones]
      split
      · exact replaced (by rfl)
      · split
        · exact State.upgradeZone_zones _ ▸ replaced (by rfl)
        · exact replaced (by rfl)

@[simp] theorem State.evaluateNoted_topologyView (z : Index) (e : List Index) :
    (s.evaluateNoted z e).topologyView = s.topologyView := by
  rw [State.evaluateNoted, State.noteContent_topologyView, State.topologyView, State.evaluate_sets,
    State.grid_of_apart (s.evaluate_apart z e)]
  rfl

@[simp] theorem State.evaluateWhere_topologyView (w : Index → Bool) :
    (s.evaluateWhere w).topologyView = s.topologyView :=
  foldl_topologyView _ (fun t z => t.evaluateNoted_topologyView z []) _ s
@[simp] theorem State.evaluateAll_topologyView : s.evaluateAll.topologyView = s.topologyView :=
  s.evaluateWhere_topologyView _
@[simp] theorem State.evaluateMember_topologyView (n : Index) : (s.evaluateMember n).topologyView = s.topologyView :=
  s.evaluateWhere_topologyView _
@[simp] theorem State.evaluatePoint_topologyView (m : Index) : (s.evaluatePoint m).topologyView = s.topologyView :=
  s.evaluateWhere_topologyView _
@[simp] theorem State.handOver_topologyView (t : State) : (s.handOver t).topologyView = t.topologyView :=
  foldl_topologyView _ (fun v z => v.evaluateNoted_topologyView z _) _ t
@[simp] theorem State.handLinkInputs_topologyView (t : State) : (s.handLinkInputs t).topologyView = t.topologyView :=
  t.evaluateWhere_topologyView _

@[simp] theorem State.handChannel_topologyView (t : State) (n : Index) :
    (s.handChannel t n).topologyView = t.topologyView :=
  State.topologyView_ite ((State.evaluateMember_topologyView _ n).trans (s.noteContent_topologyView t)) rfl

@[simp] theorem State.handPoint_topologyView (t : State) (m : Index) :
    (s.handPoint t m).topologyView = t.topologyView := by
  have judged (c : Bool) (o : Option Index) : (if c then t.judgeAttached o else t).topologyView = t.topologyView :=
    State.topologyView_ite (t.judgeAttached_topologyView o) rfl
  exact State.topologyView_ite ((State.evaluatePoint_topologyView _ m).trans (judged _ _)) (judged _ _)

/-- A change of protection state changes neither positions nor sets (R153). -/
@[simp] theorem State.changeState_topologyView (new : Protection) :
    (s.changeState new).topologyView = s.topologyView := by
  unfold State.changeState
  dsimp only
  rw [State.evaluateAll_topologyView]
  exact State.topologyView_ite (State.withdrawDry_topologyView _) rfl

end Sys2Proof.Machine
end

section
/-! The operations that change what sets are computed from: a derivation of a position, and the recomputations that follow
it (R52, R56 to R59, R70, R71). -/

namespace Sys2Proof.Machine

open Wire

variable {s t u : State} {p z : Index}

/-! ### Sets (R70, R71) -/

theorem State.resetZone_sets (z : Index) :
    (s.resetZone z).sets = (s.clearingSet z, s.confirmationSet (s.clearingSet z)) := by
  unfold State.resetZone
  dsimp only
  split
  · next h =>
    obtain ⟨hc, hm⟩ := Bool.and_eq_true_iff.mp h
    rw [Zone.sets, eq_of_beq hc, eq_of_beq hm]
  · rfl

theorem State.reconfirmZone_sets (z : Index) :
    (s.reconfirmZone z).sets = ((s.zone z).clearing, s.confirmationSet (s.zone z).clearing) := by
  unfold State.reconfirmZone
  dsimp only
  split
  · next h => rw [Zone.sets, eq_of_beq h]
  · rfl

/-- Zones built by number with the sets of their inputs. -/
theorem State.setsComputed_of_zones {f : Index → Zone}
    (h : ∀ z ∈ upTo 8, (f z).sets = (s.clearingSet z, s.confirmationSet (s.clearingSet z))) :
    ({ s with zones := (upTo 8).map f } : State).setsComputed := by
  refine ⟨by simp [upTo], fun z hz => ?_⟩
  have hzone : ({ s with zones := (upTo 8).map f } : State).zone z = f z := item_map_upTo f _ hz
  rw [hzone]
  exact h z hz

theorem State.replaceSets_topologyComputed (h : s.positionsDerived) : s.replaceSets.topologyComputed :=
  ⟨h.of_grid rfl, State.setsComputed_of_zones fun z _ => s.resetZone_sets z⟩

/-- After a recomputation all sets are those of the derived positions (R70). -/
theorem State.recompute_topologyComputed (h : s.positionsDerived) : s.recompute.topologyComputed :=
  (State.replaceSets_topologyComputed h).of_view (s.handOver_topologyView _)

/-- Where the clearing sets stand, the confirmation sets derived anew are those of their inputs (R52). -/
theorem State.reconfirm_topologyComputed (h : s.positionsDerived)
    (hc : ∀ z ∈ upTo 8, (s.zone z).clearing = s.clearingSet z) : s.reconfirm.topologyComputed :=
  State.topologyComputed.of_view ⟨h.of_grid (t := { s with zones := (upTo 8).map s.reconfirmZone }) rfl,
    State.setsComputed_of_zones fun z hz => by rw [s.reconfirmZone_sets, hc z hz]⟩ (s.handOver_topologyView _)

/-! ### Positions (R56 to R59) -/

/-- Another position reads as before. -/
theorem State.position_setPosition_other (q : Position) {r : Index} (h : r ≠ p) :
    (s.setPosition p q).position r = s.position r := item_put_other _ _ _ h

theorem State.derivedAt_setPosition_other (q : Position) {r : Index} (h : r ≠ p) :
    (s.setPosition p q).derivedAt r ↔ s.derivedAt r := by
  simp only [State.derivedAt, State.position_setPosition_other q h, State.setPosition_used, State.setPosition_set]

/-- The record a derivation leaves has the value of its inputs (R57). -/
theorem State.derive_setPosition (s : State) (p : Index) : ∃ r : Position,
    (s.derive p).positions = (s.setPosition p r).positions ∧
      r.derived = derivedOf (s.usedPosition p) (s.positionSet p).wired r.cl.taken r.op.taken r.expired := by
  unfold State.derive
  dsimp only
  split <;> exact ⟨_, rfl, rfl⟩

@[simp] theorem State.derive_settings (s : State) (p : Index) : (s.derive p).settings = s.settings := by
  unfold State.derive
  dsimp only
  split <;> rfl

@[simp] theorem State.derive_zones (s : State) (p : Index) : (s.derive p).zones = s.zones :=
  State.zones_of_seen (s.derive_seen p)

/-- The positions after a derivation: the one derived has the value of its inputs, the others stand (R57). -/
theorem State.derive_derivedAt (hl : s.positions.length = 8) :
    (s.derive p).positions.length = 8 ∧ (p ∈ upTo 8 → (s.derive p).derivedAt p) ∧
      ∀ r, r ≠ p → (s.derive p).position r = s.position r ∧ ((s.derive p).derivedAt r ↔ s.derivedAt r) := by
  obtain ⟨q, hq, hd⟩ := s.derive_setPosition p
  have hpos (r : Index) : (s.derive p).position r = (s.setPosition p q).position r := by
    rw [State.position, State.position, hq]
  have hat (r : Index) : (s.derive p).derivedAt r ↔ (s.setPosition p q).derivedAt r := by
    simp only [State.derivedAt, hpos, State.usedPosition, State.positionSet, State.derive_settings,
      State.setPosition_settings]
  refine ⟨by simp [hq, State.setPosition, hl], fun hp => (hat p).mpr ?_, fun r hr => ⟨?_, ?_⟩⟩
  · rw [State.derivedAt, State.position_setPosition_same q hl hp]
    exact hd
  · rw [hpos, State.position_setPosition_other q hr]
  · rw [hat, State.derivedAt_setPosition_other q hr]

/-- A position derived while the others and the sets agree: the sets follow if its value changes (R59, R70). -/
theorem State.derivePosition_topologyComputed (hl : s.positions.length = 8)
    (hd : ∀ r ∈ upTo 8, r ≠ p → s.derivedAt r) (hs : s.setsComputed) : (s.derivePosition p).topologyComputed := by
  obtain ⟨hlen, hself, hother⟩ := State.derive_derivedAt (p := p) hl
  have hderived : (s.derive p).positionsDerived := by
    refine ⟨hlen, fun r hr => ?_⟩
    rcases eq_or_ne r p with rfl | hne
    · exact hself hr
    · exact (hother r hne).2.mpr (hd r hr hne)
  unfold State.derivePosition
  dsimp only
  split
  · next hsame =>
    refine ⟨hderived, hs.congr (by simp) (by simp) (fun r _ => ?_) fun m _ => by simp [State.pointSet]⟩
    rcases eq_or_ne r p with rfl | hne
    · exact eq_of_beq hsame
    · rw [(hother r hne).1]
  · split
    · exact State.recompute_topologyComputed
        (hderived.of_grid (State.grid_of_apart (State.judgeOrder_apart _ p)))
    · exact (State.recompute_topologyComputed hderived).of_view (State.judgeOrder_topologyView _ p)

/-- A position's record replaced by one with the same value, and the position derived anew. -/
theorem KeepsTopology.derivePosition {q : Position} (h : q.derived = (s.position p).derived) :
    KeepsTopology s ((s.setPosition p q).derivePosition p) := by
  rintro ⟨⟨hl, hd⟩, hs⟩
  refine State.derivePosition_topologyComputed (by simpa [State.setPosition] using hl)
    (fun r hr hne => (State.derivedAt_setPosition_other q hne).mpr (hd r hr)) ?_
  refine hs.congr rfl rfl (fun r _ => ?_) fun _ _ => rfl
  rcases item_put_cases s.positions .blank q p r with hr | ⟨rfl, hr⟩
  · exact congrArg Position.derived hr
  · exact (congrArg Position.derived hr).trans h

/-- A position's record replaced by one that is the same to a derivation. -/
theorem KeepsTopology.setPosition {q : Position} (hd : q.derived = (s.position p).derived)
    (hcl : q.cl.taken = (s.position p).cl.taken) (hop : q.op.taken = (s.position p).op.taken)
    (he : q.expired = (s.position p).expired) : KeepsTopology s (s.setPosition p q) := by
  rintro ⟨⟨hl, hall⟩, hs⟩
  have hpos (r : Index) : (s.setPosition p q).position r = s.position r ∨ r = p ∧ (s.setPosition p q).position r = q :=
    item_put_cases s.positions .blank q p r
  refine ⟨⟨by simpa [State.setPosition] using hl, fun r hr => ?_⟩, hs.congr rfl rfl (fun r _ => ?_) fun _ _ => rfl⟩
  · have hold := hall r hr
    unfold State.derivedAt at hold ⊢
    rcases hpos r with h | ⟨rfl, h⟩
    · rw [h]
      exact hold
    · rw [h, hd, hcl, hop, he]
      exact hold
  · rcases hpos r with h | ⟨rfl, h⟩
    · rw [h]
    · rw [h, hd]

end Sys2Proof.Machine
end

section
/-! The cross link, the staged application (R167 to R169), the store and the restart (R154, R170 to R172) keep positions
derived and sets computed. -/

namespace Sys2Proof.Machine

open Wire

variable (s : State)

/-! ### The cross link (R132 to R138) -/

@[simp] theorem State.takePeer_topologyView (p : Peer) (c : Content) :
    (s.takePeer p c).topologyView = s.topologyView := by
  have edges (ps : List Index) (u : State) :
      (ps.foldl (fun v q => v.requestEdge p.unit q) u).topologyView = u.topologyView :=
    foldl_topologyView _ (fun v q => v.requestEdge_topologyView p.unit q) ps u
  have heard : (if p.state == .live then s else s.post .peerState p.unit PeerState.live.code).topologyView =
      s.topologyView := State.topologyView_ite rfl rfl
  unfold State.takePeer
  dsimp only
  split <;> simp only [edges, State.handLinkInputs_topologyView, State.mapPeer_topologyView, heard]

@[simp] theorem State.takeDuplicate_topologyView : s.takeDuplicate.topologyView = s.topologyView := by
  unfold State.takeDuplicate
  dsimp only
  exact (State.mapLink_topologyView _ _).trans (State.topologyView_ite (s.countLink_topologyView _) (by simp))

@[simp] theorem State.judgeTelegram_topologyView (bits : List Bit) :
    (s.judgeTelegram bits).topologyView = s.topologyView := by
  unfold State.judgeTelegram
  refine State.topologyView_ite rfl (State.topologyView_ite rfl
    (State.topologyView_ite s.takeDuplicate_topologyView ?_))
  split
  · exact s.takePeer_topologyView _ _
  · rfl

@[simp] theorem State.startBit_topologyView : s.startBit.topologyView = s.topologyView := by
  have hadv : s.toStartBit.topologyView = s.topologyView := s.advanceTo_topologyView _
  unfold State.startBit
  dsimp only
  split
  · rw [State.mapLink_topologyView, hadv]
  · split <;> simp [hadv]

/-! ### The staged application (R167 to R169) -/

@[simp] theorem State.tryChannel_topologyView (n : Index) : (s.tryChannel n).topologyView = s.topologyView :=
  State.topologyView_ite (State.handChannel_topologyView _ _ n) rfl

@[simp] theorem State.tryLink_topologyView : s.tryLink.topologyView = s.topologyView := by
  have happly (u : State) (new : LinkSettings) : (u.applyLink new).topologyView = u.topologyView := by
    unfold State.applyLink
    dsimp only
    rw [State.handLinkInputs_topologyView, foldl_topologyView _ fun t n => t.post_topologyView _ n _]
    rfl
  exact State.topologyView_ite (happly _ _) rfl

@[simp] theorem State.tryStation_topologyView : s.tryStation.topologyView = s.topologyView :=
  State.topologyView_ite rfl rfl

@[simp] theorem State.dropImage_topologyView : s.dropImage.topologyView = s.topologyView :=
  State.topologyView_ite rfl rfl

@[simp] theorem State.applyDone_topologyView : s.applyDone.topologyView = s.topologyView := by
  have hdone (u : State) : (u.post .applyDone 0 u.settings.serial).dropImage.topologyView = u.topologyView :=
    State.dropImage_topologyView _
  unfold State.applyDone
  dsimp only
  exact State.topologyView_ite ((State.changeState_topologyView _ _).trans (hdone _)) (hdone _)

@[simp] theorem State.finishApply_topologyView (before : State) :
    (before.finishApply s).topologyView = s.topologyView :=
  State.topologyView_ite s.applyDone_topologyView rfl

@[simp] theorem State.forgetCaptured_topologyView (which : Index → Bool) :
    (s.forgetCaptured which).topologyView = s.topologyView :=
  foldl_topologyView _ (fun t n => t.setChannel_topologyView n _) _ s

/-- The point groups with one replaced: a point's attachment is the new one's, or as it was. -/
theorem State.attached_putPoint {m : Index} {new : PointSettings} (h : (s.pointSet m).attached = new.attached)
    (k : Index) :
    (item (put s.settings.active.points m new) .factory k).attached = (s.pointSet k).attached := by
  rcases item_put_cases s.settings.active.points .factory new m k with hk | ⟨rfl, hk⟩
  · exact congrArg PointSettings.attached hk
  · exact (congrArg PointSettings.attached hk).trans h.symm

/-- A point that comes to another position has all confirmation sets derived anew (R52). -/
theorem KeepsTopology.applyPoint (m : Index) (new : PointSettings) : KeepsTopology s (s.applyPoint m new) := by
  -- With the group in force the positions and the clearing sets are as they were.
  have applied (u : State)
      (hu : u.topologyView = (s.mapActive fun c => { c with points := put c.points m new }).topologyView)
      (hs : s.topologyComputed) : u.reconfirm.topologyComputed := by
    obtain ⟨hg, hz⟩ := Prod.mk.inj hu
    obtain ⟨ht, hrest⟩ := Prod.mk.inj
      (show u.grid = (s.settings.active.topology, put s.settings.active.points m new, s.positions) from hg)
    obtain ⟨-, hp⟩ := Prod.mk.inj hrest
    have hd (p : Index) : u.position p = s.position p := by rw [State.position, State.position, hp]
    refine State.reconfirm_topologyComputed ⟨hp ▸ hs.1.1, fun p h => ?_⟩ fun z h => ?_
    · have hold := hs.1.2 p h
      simpa only [State.derivedAt, hd, State.usedPosition, State.positionSet, ht] using hold
    · rw [State.clearingSet_congr ht fun p _ => by rw [hd]]
      have hsets : (u.zone z).sets = (s.zone z).sets := by rw [State.zone_sets, hz, State.zone_sets]; rfl
      exact (congrArg Prod.fst hsets).trans (congrArg Prod.fst (hs.2.2 z h))
  unfold State.applyPoint
  dsimp only
  split
  · next hsame =>
    rintro ⟨hd, hs⟩
    exact ⟨hd, hs.congr rfl rfl (fun _ _ => rfl) fun k _ => s.attached_putPoint (eq_of_beq hsame) k⟩
  · split
    · exact applied _ ((State.judgeAttached_topologyView _ _).trans (State.judgeAttached_topologyView _ _))
    · exact fun hs => State.topologyComputed.of_view (applied _ (by rfl) hs)
        ((State.judgeAttached_topologyView _ _).trans (State.judgeAttached_topologyView _ _))

theorem KeepsTopology.takePoint (m : Index) : KeepsTopology s (s.takePoint m) :=
  (KeepsTopology.of_view (by rfl)).trans (.applyPoint _ m _)

theorem KeepsTopology.tryPoint (m : Index) : KeepsTopology s (s.tryPoint m) := by
  unfold State.tryPoint
  split
  · exact .takePoint s m
  · exact .refl s

/-- A position derived anew, whether its discrepancy time has passed or not (R63). -/
theorem State.rederive_derivedAt (old : TopologySettings) {p : Index} (hl : s.positions.length = 8) :
    (s.rederive old p).positions.length = 8 ∧ (p ∈ upTo 8 → (s.rederive old p).derivedAt p) ∧
      ∀ r, r ≠ p → s.derivedAt r → (s.rederive old p).derivedAt r := by
  have derived (q : Position) : ((s.setPosition p q).derive p).positions.length = 8 ∧
      (p ∈ upTo 8 → ((s.setPosition p q).derive p).derivedAt p) ∧
        ∀ r, r ≠ p → s.derivedAt r → ((s.setPosition p q).derive p).derivedAt r := by
    obtain ⟨hlen, hself, hother⟩ := State.derive_derivedAt (s := s.setPosition p q) (p := p)
      (by simpa [State.setPosition] using hl)
    exact ⟨hlen, hself, fun r hr hd => (hother r hr).2.mpr ((State.derivedAt_setPosition_other q hr).mpr hd)⟩
  exact derived _

/-- Of several positions derived anew each has the value of its inputs, and so has any other that had it. -/
theorem State.foldl_rederive_derivedAt (old : TopologySettings) (ps : List Index) (s : State)
    (hl : s.positions.length = 8) :
    (ps.foldl (State.rederive old) s).positions.length = 8 ∧
      ∀ r ∈ upTo 8, r ∈ ps ∨ s.derivedAt r → (ps.foldl (State.rederive old) s).derivedAt r := by
  induction ps generalizing s with
  | nil => exact ⟨hl, fun r _ h => h.resolve_left List.not_mem_nil⟩
  | cons p ps ih =>
    obtain ⟨hlen, hself, hother⟩ := s.rederive_derivedAt old (p := p) hl
    obtain ⟨hl', hall⟩ := ih (s.rederive old p) hlen
    refine ⟨hl', fun r hr h => hall r hr ?_⟩
    rcases eq_or_ne r p with rfl | hne
    · exact .inr (hself hr)
    · exact h.imp (fun hmem => (List.mem_cons.mp hmem).resolve_left hne) (hother r hne)

/-- All positions are derived anew, then all sets computed (R63, R73). -/
theorem KeepsTopology.tryTopology : KeepsTopology s s.tryTopology := by
  have happly (u : State) (new : TopologySettings) : KeepsTopology u (u.applyTopology new) := by
    intro hu
    obtain ⟨hl, hall⟩ := State.foldl_rederive_derivedAt u.settings.active.topology (upTo 8)
      (u.mapActive fun c => { c with topology := new }) hu.1.1
    exact (State.replaceSets_topologyComputed ⟨hl, fun p hp => hall p hp (.inl hp)⟩).of_view
      (State.evaluateAll_topologyView _)
  unfold State.tryTopology
  split
  · exact (KeepsTopology.of_view (by rfl)).trans (happly _ _)
  · exact .refl s

theorem KeepsTopology.acceptCommit : KeepsTopology s s.acceptCommit := by
  -- The parts at their safe points, then APPLY_DONE if none waits.
  have parts (u : State) (hu : u.topologyView = s.topologyView) : KeepsTopology s
      ((upTo 4).foldl State.tryPoint ((upTo 16).foldl State.tryChannel u)).tryTopology.tryLink :=
    (((KeepsTopology.of_view ((foldl_topologyView _ State.tryChannel_topologyView _ u).trans hu)).trans
      (.foldl KeepsTopology.tryPoint _ _)).trans (.tryTopology _)).congr_view (State.tryLink_topologyView _)
  have done (v : State) : (if v.applying then v
      else if v.sched.doneAfterReply then { v with settings := { v.settings with doneOwed := true } }
      else v.applyDone).topologyView = v.topologyView :=
    State.topologyView_ite rfl (State.topologyView_ite rfl v.applyDone_topologyView)
  unfold State.acceptCommit
  dsimp only
  exact (parts _ (by rw [State.forgetCaptured_topologyView]; rfl)).congr_view (done _)

/-! ### The store and the restart (R154, R170 to R172) -/

@[simp] theorem State.storeGood_topologyView (c : WriteContent) : (s.storeGood c).topologyView = s.topologyView := by
  cases c <;> rfl

@[simp] theorem State.storeBad_topologyView (c : WriteContent) : (s.storeBad c).topologyView = s.topologyView := by
  cases c <;> rfl

@[simp] theorem State.endWrite_topologyView (c : WriteContent) (o : WriteOutcome) :
    (s.endWrite c o).topologyView = s.topologyView := by
  cases o with
  | verified => exact State.storeGood_topologyView _ c
  | corrupted => exact State.storeBad_topologyView _ c
  | unchanged => rfl

@[simp] theorem State.chooseWrite_topologyView : s.chooseWrite.topologyView = s.topologyView := by
  unfold State.chooseWrite
  split
  · rfl
  · split
    · rfl
    · exact State.topologyView_ite (State.dropImage_topologyView _) rfl

/-- Loss of supply touches neither positions nor sets nor settings (R154). -/
@[simp] theorem State.losePower_topologyView : s.losePower.topologyView = s.topologyView := by
  have hcut (u : State) (c : WriteContent) : (u.cutOff c).topologyView = u.topologyView := by
    cases c with
    | record r k => exact State.topologyView_ite (u.storeBad_topologyView _) rfl
    | settings _ => exact u.storeBad_topologyView _
    | lockout _ => exact u.storeBad_topologyView _
  show s.cutWrites.topologyView = s.topologyView
  unfold State.cutWrites
  dsimp only
  split
  · rfl
  · exact hcut _ _

/-- A restart derives all positions and computes all sets, whatever the state before (R64, R75). -/
theorem State.restart_topologyComputed (cause : ResetCause) : (s.restart cause).topologyComputed := by
  refine ⟨⟨by simp [State.restart, State.restartZones, upTo], fun p hp => ?_⟩,
    by simp [State.restart, State.restartZones, upTo], fun z hz => ?_⟩
  · have hpos : (s.restart cause).position p = (s.position p).restart ((s.restart cause).usedPosition p)
        ((s.restart cause).positionSet p).wired := item_map_upTo (fun p => (s.position p).restart
          (s.store.loadedSettings.topology.usedPosition p)
          (item s.store.loadedSettings.topology.positions .factory p).wired) _ hp
    rw [State.derivedAt, hpos]
    rfl
  · have hzone : (s.restart cause).zone z = .fresh ((s.restart cause).clearingSet z)
        ((s.restart cause).confirmationSet ((s.restart cause).clearingSet z)) := item_map_upTo (fun z => Zone.fresh
          ((s.restart cause).clearingSet z) ((s.restart cause).confirmationSet ((s.restart cause).clearingSet z))) _ hz
    rw [hzone]
    rfl

theorem KeepsTopology.restart (t : State) (cause : ResetCause) : KeepsTopology s (t.restart cause) :=
  fun _ => t.restart_topologyComputed cause

theorem KeepsTopology.resetPart (cause : ResetCause) : KeepsTopology s (s.resetPart cause) :=
  .restart s s.completeWrites cause

end Sys2Proof.Machine
end

section
/-! Every command keeps positions derived and sets computed, and so does every step. Most commands leave the topology
view alone; the others are the position inputs, the staged application, STARTING_END and the resets. -/

namespace Sys2Proof.Machine

open Wire

variable {s : State}

/-- Whatever next state is answered, the rule on positions and sets holds in it if it held before. -/
def AnswersTopology (s : State) (o : Host.Outcome State Fault Refusal) : Prop := ∀ t, o = .next t → KeepsTopology s t

namespace AnswersTopology

theorem next {t : State} (h : KeepsTopology s t) : AnswersTopology s (.next t) := by
  intro u hu
  cases hu
  exact h

/-- A command keeps what its effect keeps: settling touches neither positions nor sets. -/
theorem conclude {f : State → State} (h : KeepsTopology s (f s)) : AnswersTopology s (conclude s f) := by
  unfold Machine.conclude
  split
  · exact next (h.congr_view (settle_topologyView s _))
  · exact next (.refl s)

/-- A command whose effect leaves the topology view alone. -/
theorem unviewed {f : State → State} (h : (f s).topologyView = s.topologyView) :
    AnswersTopology s (Machine.conclude s f) :=
  conclude (.of_view h)

end AnswersTopology

variable (s)

/-! ### Power, reset and state control -/

theorem execPowerOn_topology : AnswersTopology s (execPowerOn s) := by
  unfold execPowerOn
  split
  · exact .conclude (.refl s)
  · exact .next (.restart s _ _)

theorem execPowerLoss_topology : AnswersTopology s (execPowerLoss s) := by
  unfold execPowerLoss
  split
  · exact .next (.of_view s.losePower_topologyView)
  · exact .next (.refl s)

theorem execRestartTerminalChange_topology (b : Bool) : AnswersTopology s (execRestartTerminalChange b s) := by
  unfold execRestartTerminalChange
  split
  · exact .unviewed rfl
  · exact .next (.of_view rfl)

theorem execRestartTerminalPress_topology : AnswersTopology s (execRestartTerminalPress s) := by
  refine .conclude ?_
  split
  · exact .refl s
  · exact (KeepsTopology.of_view (s.advanceTo_topologyView _)).trans (.resetPart _ _)

theorem execRestartTerminalRelease_topology : AnswersTopology s (execRestartTerminalRelease s) := by
  refine .unviewed ?_
  split
  · rfl
  · exact s.advanceTo_topologyView _

/-- The sets are recomputed from positions that are derived already (R155). -/
theorem execStartingEnd_topology : AnswersTopology s (execStartingEnd s) := by
  refine .conclude ?_
  split
  · exact .refl s
  · refine KeepsTopology.congr_view (fun hs => ?_) (State.changeState_topologyView _ _)
    exact State.recompute_topologyComputed (hs.of_view (s.advanceTo_topologyView _)).1

theorem execTestTimeout_topology : AnswersTopology s (execTestTimeout s) := by
  refine .unviewed ?_
  split <;> simp

/-! ### Light front end and supervision -/

theorem State.sampleChannel_topologyView (n : Index) (raw : Nat) :
    (s.sampleChannel n raw).topologyView = s.topologyView := by
  have hnote (t : State) (l : Nat) : (s.noteSteady t n l).topologyView = t.topologyView :=
    State.topologyView_ite (t.post_topologyView _ _ _) rfl
  have hopen : (s.sampleOpen n raw).topologyView = s.topologyView :=
    State.topologyView_ite rfl ((State.handChannel_topologyView _ _ n).trans (hnote _ _))
  unfold State.sampleChannel
  split
  · rfl
  · dsimp only
    split
    · rfl
    · rfl
    · exact hopen

theorem execLightSample_topology (raw : List Nat) : AnswersTopology s (execLightSample raw s) :=
  .unviewed (State.topologyView_ite rfl
    ((foldl_topologyView _ (fun t n => t.sampleChannel_topologyView n _) _ _).trans (s.advanceTo_topologyView _)))

theorem execBackgroundUpdate_topology : AnswersTopology s (execBackgroundUpdate s) :=
  .unviewed (State.topologyView_ite rfl rfl)

theorem execSupervisionSlot_topology (n : Index) : AnswersTopology s (execSupervisionSlot n s) := by
  have hslot : (s.toSlot n).topologyView = s.topologyView :=
    State.topologyView_ite (s.advanceTo_topologyView _)
      ((State.advanceTo_topologyView _ _).trans (s.advanceTo_topologyView _))
  exact .unviewed (State.topologyView_ite rfl (State.topologyView_ite hslot rfl))

theorem execBurstEnd_topology (n : Index) : AnswersTopology s (execBurstEnd n s) := by
  have judged (t : State) : (t.judgeHealth n).topologyView = t.topologyView :=
    State.topologyView_ite rfl (State.handChannel_topologyView _ _ n)
  refine .unviewed ?_
  split
  · rfl
  · exact State.topologyView_ite rfl (judged _)

theorem execCaptureBurstStart_topology (n : Index) : AnswersTopology s (execCaptureBurstStart n s) := by
  refine .unviewed ?_
  dsimp only
  split
  · rfl
  · exact State.topologyView_ite (s.advanceTo_topologyView _) rfl

theorem execCaptureEnd_topology (n : Index) : AnswersTopology s (execCaptureEnd n s) := by
  have judged (t : State) (candidate : Nat) : (t.judgeCandidate n candidate).topologyView = t.topologyView :=
    State.topologyView_ite rfl rfl
  refine .unviewed ?_
  dsimp only
  split
  · rfl
  · exact State.topologyView_ite rfl ((judged _ _).trans (s.advanceTo_topologyView _))

/-! ### Current front end and position inputs -/

theorem execCurrentSample_topology (samples : List Int) : AnswersTopology s (execCurrentSample samples s) :=
  .unviewed (State.topologyView_ite rfl
    ((foldl_topologyView _ (fun t m => State.handPoint_topologyView _ t m) _ _).trans (s.advanceTo_topologyView _)))

theorem execOcHoldExpiry_topology (m : Index) : AnswersTopology s (execOcHoldExpiry m s) :=
  .unviewed (State.topologyView_ite (s.handPoint_topologyView _ m) rfl)

theorem execCpClear_topology (m : Index) : AnswersTopology s (execCpClear m s) :=
  .unviewed (State.topologyView_ite (s.handPoint_topologyView _ m) rfl)

/-- Neither a derivation nor a set sees a raw state or a timer (R57). -/
theorem execContactRawChange_topology (p : Index) (c : Contact) (on : Bool) :
    AnswersTopology s (execContactRawChange p c on s) := by
  have rewired {i : ContactInput} (h : i.taken = ((s.position p).contact c).taken) :
      KeepsTopology s (s.setPosition p ((s.position p).setContact c i)) := by
    cases c with
    | cl => exact .setPosition rfl h rfl rfl
    | op => exact .setPosition rfl rfl h rfl
  have hchange (i : ContactInput) : (i.change s.clock on).taken = i.taken := by
    unfold ContactInput.change
    split <;> rfl
  unfold execContactRawChange
  split
  · exact .conclude (rewired (hchange _))
  · exact .next (rewired rfl)

theorem execDebounceExpiry_topology (p : Index) (c : Contact) : AnswersTopology s (execDebounceExpiry p c s) := by
  refine .conclude ?_
  split
  · exact .refl s
  · next d _ =>
    refine (KeepsTopology.of_view (s.advanceTo_topologyView d)).trans (.derivePosition ?_)
    rw [State.advanceTo_position]
    exact (Position.setContact_rest _ _ _).1

theorem execDiscrepancyExpiry_topology (p : Index) : AnswersTopology s (execDiscrepancyExpiry p s) := by
  refine .conclude ?_
  split
  · exact .refl s
  · next d _ =>
    refine (KeepsTopology.of_view (s.advanceTo_topologyView d)).trans (.derivePosition ?_)
    rw [State.advanceTo_position]

/-! ### Order unit -/

theorem execMinPulseExpiry_topology (p : Index) : AnswersTopology s (execMinPulseExpiry p s) := by
  refine .unviewed ?_
  split
  · rfl
  · exact State.topologyView_ite (by simp) (State.topologyView_ite (by simp) rfl)

theorem execBfDeadline_topology (p : Index) : AnswersTopology s (execBfDeadline p s) := by
  refine .unviewed ?_
  split
  · rfl
  · exact State.topologyView_ite (by simp) rfl

theorem execDriveTimeout_topology (p : Index) : AnswersTopology s (execDriveTimeout p s) := by
  refine .unviewed ?_
  split
  · rfl
  · exact State.topologyView_ite (by simp) rfl

theorem execLockoutButtonChange_topology (b : Bool) : AnswersTopology s (execLockoutButtonChange b s) := by
  unfold execLockoutButtonChange
  split
  · exact .unviewed rfl
  · exact .next (.of_view rfl)

theorem execLockoutResetPress_topology : AnswersTopology s (execLockoutResetPress s) := by
  refine .unviewed ?_
  split
  · rfl
  · exact State.topologyView_ite (s.advanceTo_topologyView _)
      ((State.clearLockouts_topologyView _ _).trans (s.advanceTo_topologyView _))

theorem execLockoutButtonRelease_topology : AnswersTopology s (execLockoutButtonRelease s) := by
  refine .unviewed ?_
  split
  · rfl
  · exact s.advanceTo_topologyView _

/-! ### Cross link -/

variable {s} in
/-- Time passes, and the link controller changes (R127, R128). -/
theorem State.mapLink_advanceTo_topologyView (d : Instant) (f : Link → Link) :
    ((s.advanceTo d).mapLink f).topologyView = s.topologyView :=
  (State.mapLink_topologyView _ f).trans (s.advanceTo_topologyView d)

theorem execHeartbeatDue_topology : AnswersTopology s (execHeartbeatDue s) :=
  .unviewed (State.topologyView_ite (State.mapLink_advanceTo_topologyView _ _) rfl)

theorem execSendDecide_topology : AnswersTopology s (execSendDecide s) :=
  .unviewed (State.topologyView_ite (State.mapLink_advanceTo_topologyView _ _) rfl)

theorem execTelegramStart_topology : AnswersTopology s (execTelegramStart s) := by
  refine .unviewed ?_
  split
  · exact State.mapLink_advanceTo_topologyView _ _
  · rfl

theorem execAttemptVoided_topology : AnswersTopology s (execAttemptVoided s) :=
  .unviewed (State.topologyView_ite s.startBit_topologyView rfl)

theorem execStartBitSeen_topology : AnswersTopology s (execStartBitSeen s) :=
  .unviewed (State.topologyView_ite s.startBit_topologyView rfl)

theorem execArbitrationLost_topology : AnswersTopology s (execArbitrationLost s) :=
  .unviewed (State.topologyView_ite rfl rfl)

theorem execBitError_topology (b : Bool) : AnswersTopology s (execBitError b s) :=
  .unviewed (State.topologyView_ite (State.topologyView_ite rfl rfl) rfl)

theorem execTelegramCompleted_topology : AnswersTopology s (execTelegramCompleted s) := by
  refine .unviewed ?_
  split
  · exact State.mapLink_advanceTo_topologyView _ _
  · rfl

theorem execTelegramReceived_topology (bits : List Bit) : AnswersTopology s (execTelegramReceived bits s) := by
  refine .unviewed ?_
  split
  · rfl
  · exact State.topologyView_ite rfl (by simp)

theorem execLineDisturbance_topology (bits : Nat) : AnswersTopology s (execLineDisturbance s bits) :=
  .unviewed (State.topologyView_ite
    ((State.countLink_topologyView _ _).trans (State.mapLink_advanceTo_topologyView _ _)) rfl)

theorem execPeerSilenceExpiry_topology (u : Index) : AnswersTopology s (execPeerSilenceExpiry u s) := by
  refine .unviewed ?_
  split <;> simp

theorem execSuspensionEnd_topology : AnswersTopology s (execSuspensionEnd s) := by
  refine .unviewed ?_
  split
  · rfl
  · exact State.mapLink_advanceTo_topologyView _ _

theorem execDuplicateAlarmExpiry_topology : AnswersTopology s (execDuplicateAlarmExpiry s) := by
  unfold execDuplicateAlarmExpiry
  refine .unviewed ?_
  split
  · exact State.mapLink_advanceTo_topologyView _ _
  · rfl

/-! ### Staged application and store -/

theorem execChannelGroupApply_topology (n : Index) : AnswersTopology s (execChannelGroupApply n s) :=
  .unviewed ((State.finishApply_topologyView _ s).trans (s.tryChannel_topologyView n))

theorem execPointGroupApply_topology (m : Index) : AnswersTopology s (execPointGroupApply m s) := by
  refine .conclude ?_
  split
  · have hat : (if s.unguarded then s else s.toCurrentInstant).topologyView = s.topologyView :=
      State.topologyView_ite rfl (State.topologyView_ite rfl (s.advanceTo_topologyView _))
    exact ((KeepsTopology.of_view hat).trans (.takePoint _ m)).congr_view (State.finishApply_topologyView _ s)
  · exact .refl s

theorem execTopologyGroupApply_topology : AnswersTopology s (execTopologyGroupApply s) :=
  .conclude ((KeepsTopology.tryTopology s).congr_view (State.finishApply_topologyView _ s))

theorem execLinkGroupApply_topology : AnswersTopology s (execLinkGroupApply s) :=
  .unviewed ((State.finishApply_topologyView _ s).trans s.tryLink_topologyView)

theorem execStoreWriteBegin_topology : AnswersTopology s (execStoreWriteBegin s) :=
  .unviewed (State.topologyView_ite rfl s.chooseWrite_topologyView)

theorem execStoreWriteEnd_topology (o : WriteOutcome) : AnswersTopology s (execStoreWriteEnd o s) := by
  refine .unviewed ?_
  split <;> simp

/-! ### Station port -/

theorem execFrameGapTimeout_topology (read : List Byte) : AnswersTopology s (execFrameGapTimeout s read) :=
  .unviewed (State.topologyView_ite rfl rfl)

theorem execFramingDiscard_topology (cause : FramingCause) (read : List Byte) :
    AnswersTopology s (execFramingDiscard cause s read) := .unviewed (State.topologyView_ite rfl rfl)

theorem execFrameCheckFailure_topology : AnswersTopology s (execFrameCheckFailure s) :=
  .unviewed (State.topologyView_ite rfl rfl)

theorem execForeignFrame_topology (address kind : Byte) : AnswersTopology s (execForeignFrame address kind s) :=
  .unviewed (State.topologyView_ite rfl (State.topologyView_ite rfl (State.topologyView_ite rfl
    (State.topologyView_ite rfl rfl))))

theorem execOverrunDiscard_topology : AnswersTopology s (execOverrunDiscard s) :=
  .unviewed (State.topologyView_ite rfl rfl)

theorem execIgnoredBroadcast_topology (kind : Byte) : AnswersTopology s (execIgnoredBroadcast kind s) :=
  .unviewed (State.topologyView_ite rfl (State.topologyView_ite rfl (State.topologyView_ite rfl rfl)))

theorem execReplyStart_topology : AnswersTopology s (execReplyStart s) :=
  .unviewed (State.topologyView_ite (s.advanceTo_topologyView _) rfl)

theorem State.endReply_topologyView : s.endReply.topologyView = s.topologyView :=
  (State.advanceTo_topologyView _ _).trans (State.topologyView_ite rfl (s.advanceTo_topologyView _))

theorem KeepsTopology.afterReply (restart : Bool) : KeepsTopology s (s.afterReply restart) := by
  have hstation : (s.finishApply s.tryStation).topologyView = s.topologyView :=
    (State.finishApply_topologyView _ s).trans s.tryStation_topologyView
  unfold State.afterReply
  split
  · exact .resetPart s _
  · exact .of_view (State.topologyView_ite ((State.applyDone_topologyView _).trans hstation) hstation)

theorem execReplySent_topology : AnswersTopology s (execReplySent s) := by
  refine .conclude ?_
  split
  · exact (KeepsTopology.of_view s.endReply_topologyView).trans (.afterReply _ _)
  · exact .refl s

theorem State.broadcastTime_topologyView (body : List Byte) : (s.broadcastTime body).topologyView = s.topologyView :=
  State.topologyView_ite rfl (State.topologyView_ite (State.topologyView_ite rfl rfl) (s.setPartTime_topologyView _))

/-! ### Requests (R174, R175) -/

variable {s} in
/-- An addressed request keeps what the owning block's act keeps. -/
theorem KeepsTopology.request {kind : Nat} {body : List Byte} {act : State → Handled}
    (h : ∀ t, KeepsTopology t (act t).state) : KeepsTopology s (s.request kind body act) := by
  have hbegin : KeepsTopology s s.beginHandling := .of_view (State.topologyView_of_parts (by simp) (by simp) (by simp))
  have hjudged : KeepsTopology s (s.beginHandling.judgeRequest kind body act).state := by
    unfold State.judgeRequest
    split
    · exact hbegin
    · exact hbegin.trans (h _)
  unfold State.request State.takeFrame
  split
  · exact .refl s
  · split
    · exact .of_view rfl
    · exact hjudged.congr_view (State.mapPort_topologyView _ _)

variable {s} in
/-- A request's command keeps what the act keeps. -/
theorem AnswersTopology.request {kind : Nat} {body : List Byte} {act : State → State → Handled}
    (h : ∀ t, KeepsTopology t (act s t).state) :
    AnswersTopology s (Machine.conclude s fun s => s.request kind body (act s)) :=
  .conclude (.request h)

variable {s} in
/-- A request whose act leaves the topology view alone. -/
theorem AnswersTopology.idle {kind : Nat} {body : List Byte} {act : State → State → Handled}
    (h : ∀ t, (act s t).state.topologyView = t.topologyView) :
    AnswersTopology s (Machine.conclude s fun s => s.request kind body (act s)) :=
  .request fun t => .of_view (h t)

variable {s} in
/-- An accepted request keeps what its effect keeps. -/
theorem KeepsTopology.accept {t : State} (h : KeepsTopology s t) (body : List Byte) :
    KeepsTopology s (Machine.accept t body).state := h

variable {s} in
/-- A request that only reads keeps everything. -/
theorem AnswersTopology.read {kind : Nat} {body : List Byte} {answer : State → State → List Byte} :
    AnswersTopology s (Machine.conclude s fun s => s.request kind body fun t => Machine.accept t (answer s t)) :=
  .idle (act := fun s t => Machine.accept t (answer s t)) fun _ => rfl

/-- Both of an act's answers leave the view alone. -/
theorem Handled.topologyView_ite {c : Prop} [Decidable c] {a b : Handled} (ha : a.state.topologyView = s.topologyView)
    (hb : b.state.topologyView = s.topologyView) : (if c then a else b).state.topologyView = s.topologyView := by
  split
  · exact ha
  · exact hb

theorem execUnknownKind_topology (kind : Byte) : AnswersTopology s (execUnknownKind kind s) := by
  refine .conclude ?_
  split
  · exact .refl s
  · exact .request fun t => .refl t

theorem execTimeSet_topology (broadcast : Bool) (body : List Byte) :
    AnswersTopology s (execTimeSet broadcast body s) := by
  refine .conclude ?_
  split
  · exact .of_view (State.topologyView_ite rfl (State.topologyView_ite rfl (s.broadcastTime_topologyView body)))
  · exact .request fun t => .of_view (t.setPartTime_topologyView _)

theorem State.readRecord_topologyView (body : List Byte) : (s.readRecord body).state.topologyView = s.topologyView := by
  unfold State.readRecord
  split <;> rfl

theorem State.ackRecord_topologyView (number : Nat) : (s.ackRecord number).state.topologyView = s.topologyView := by
  unfold State.ackRecord
  split
  · rfl
  · split
    · rfl
    · exact State.topologyView_ite rfl rfl
    · rfl

theorem State.readSetting_topologyView (body : List Byte) :
    (s.readSetting body).state.topologyView = s.topologyView := by
  unfold State.readSetting
  dsimp only
  split <;> rfl

/-- A setting is written to the pending set alone (R166). -/
theorem State.writeSetting_topologyView (body : List Byte) :
    (s.writeSetting body).state.topologyView = s.topologyView := by
  unfold State.writeSetting
  dsimp only
  split
  · rfl
  · split <;> rfl

theorem KeepsTopology.commit : KeepsTopology s s.commit.state := by
  unfold State.commit
  split
  · exact .refl s
  · split
    · exact .refl s
    · split
      · exact .refl s
      · split
        · exact .refl s
        · split
          · exact .refl s
          · exact .accept (.acceptCommit s) _

theorem State.discardPending_topologyView : s.discardPending.state.topologyView = s.topologyView :=
  Handled.topologyView_ite s rfl (State.forgetCaptured_topologyView _ _)

theorem State.setProtection_topologyView (target : Nat) :
    (s.setProtection target).state.topologyView = s.topologyView := by
  have entered (new : Protection) : (s.enterState new).state.topologyView = s.topologyView :=
    s.changeState_topologyView new
  unfold State.setProtection
  split
  · exact entered _
  · exact Handled.topologyView_ite s (entered _) rfl
  · exact entered _
  · exact entered _
  · rfl

theorem State.channelOut_topologyView (n : Index) : (s.channelOut n).state.topologyView = s.topologyView := by
  unfold State.channelOut
  split
  case h_1 | h_2 | h_3 => rfl
  all_goals exact s.handChannel_topologyView _ n

theorem State.channelIn_topologyView (n : Index) : (s.channelIn n).state.topologyView = s.topologyView := by
  unfold State.channelIn
  split
  case h_3 => exact s.handChannel_topologyView _ n
  all_goals rfl

theorem State.captureReference_topologyView (n : Index) :
    (s.captureReference n).state.topologyView = s.topologyView := by
  unfold State.captureReference
  dsimp only
  split
  case h_8 => exact Handled.topologyView_ite s rfl rfl
  all_goals rfl

theorem State.simulateLight_topologyView (n : Index) (on : Bool) :
    (s.simulateLight n on).state.topologyView = s.topologyView := by
  refine Handled.topologyView_ite s rfl ?_
  split
  case h_1 | h_2 | h_3 => rfl
  all_goals exact s.handChannel_topologyView _ n

theorem State.simulateCurrent_topologyView (m : Index) (on : Bool) :
    (s.simulateCurrent m on).state.topologyView = s.topologyView :=
  Handled.topologyView_ite s rfl (State.topologyView_ite rfl (State.evaluatePoint_topologyView _ m))

theorem State.testTrip_topologyView (set : List Index) : (s.testTrip set).state.topologyView = s.topologyView := by
  refine Handled.topologyView_ite s rfl ?_
  split
  · exact Handled.topologyView_ite s rfl (Handled.topologyView_ite s rfl (s.requestOrder_topologyView _ _ _))
  · rfl

theorem State.cancelOrder_topologyView (p : Index) : (s.cancelOrder p).state.topologyView = s.topologyView := by
  unfold State.cancelOrder
  split
  · rfl
  · exact Handled.topologyView_ite s (s.release_topologyView p) rfl

/-! ### The requests that only read -/

theorem execIdentify_topology (body : List Byte) : AnswersTopology s (execIdentify body s) := .read

theorem execStatus_topology (body : List Byte) : AnswersTopology s (execStatus body s) := .read

theorem execReadChannel_topology (body : List Byte) : AnswersTopology s (execReadChannel body s) := .read

theorem execReadPoint_topology (body : List Byte) : AnswersTopology s (execReadPoint body s) := .read

theorem execReadPosition_topology (body : List Byte) : AnswersTopology s (execReadPosition body s) := .read

theorem execReadZone_topology (body : List Byte) : AnswersTopology s (execReadZone body s) := .read

theorem execReadOrders_topology (body : List Byte) : AnswersTopology s (execReadOrders body s) := .read

theorem execReadPeers_topology (body : List Byte) : AnswersTopology s (execReadPeers body s) := .read

/-! ### The requests that act -/

theorem execReadRecord_topology (body : List Byte) : AnswersTopology s (execReadRecord body s) :=
  .idle fun t => t.readRecord_topologyView body

theorem execAckRecord_topology (body : List Byte) : AnswersTopology s (execAckRecord body s) :=
  .idle fun t => t.ackRecord_topologyView _

theorem execFetchNotices_topology (body : List Byte) : AnswersTopology s (execFetchNotices body s) :=
  .idle (act := fun _ => State.fetchNotices) fun _ => rfl

theorem execReadSetting_topology (body : List Byte) : AnswersTopology s (execReadSetting body s) :=
  .idle fun t => t.readSetting_topologyView body

theorem execWriteSetting_topology (body : List Byte) : AnswersTopology s (execWriteSetting body s) :=
  .idle fun t => t.writeSetting_topologyView body

theorem execCommit_topology (body : List Byte) : AnswersTopology s (execCommit body s) := .request .commit

theorem execDiscard_topology (body : List Byte) : AnswersTopology s (execDiscard body s) :=
  .idle State.discardPending_topologyView

theorem execSetState_topology (body : List Byte) : AnswersTopology s (execSetState body s) :=
  .idle fun t => t.setProtection_topologyView _

theorem execChannelOut_topology (body : List Byte) : AnswersTopology s (execChannelOut body s) :=
  .idle fun t => t.channelOut_topologyView _

theorem execChannelIn_topology (body : List Byte) : AnswersTopology s (execChannelIn body s) :=
  .idle fun t => t.channelIn_topologyView _

theorem execCaptureReference_topology (body : List Byte) : AnswersTopology s (execCaptureReference body s) :=
  .idle fun t => t.captureReference_topologyView _

theorem execSimulateLight_topology (body : List Byte) : AnswersTopology s (execSimulateLight body s) :=
  .idle fun t => t.simulateLight_topologyView _ _

theorem execSimulateCurrent_topology (body : List Byte) : AnswersTopology s (execSimulateCurrent body s) :=
  .idle fun t => t.simulateCurrent_topologyView _ _

theorem execTestTrip_topology (body : List Byte) : AnswersTopology s (execTestTrip body s) :=
  .idle fun t => t.testTrip_topologyView _

theorem execCancelOrder_topology (body : List Byte) : AnswersTopology s (execCancelOrder body s) :=
  .idle fun t => t.cancelOrder_topologyView _

theorem execResetLockout_topology (body : List Byte) : AnswersTopology s (execResetLockout body s) :=
  .idle fun t => t.clearLockouts_topologyView _

theorem execRestart_topology (body : List Byte) : AnswersTopology s (execRestart body s) :=
  .idle (act := fun _ t => Machine.accept (t.mapPort fun p => { p with restartAfter := true }) []) fun _ => rfl

/-! ### Every command, every step -/

/-- Every command keeps the rule on positions and sets. -/
theorem exec_topology (c : Instr) : AnswersTopology s (exec c s) := by
  cases c with
  | powerOn => exact execPowerOn_topology s
  | powerLoss => exact execPowerLoss_topology s
  | restartTerminalChange b => exact execRestartTerminalChange_topology s b
  | restartTerminalPress => exact execRestartTerminalPress_topology s
  | restartTerminalRelease => exact execRestartTerminalRelease_topology s
  | startingEnd => exact execStartingEnd_topology s
  | testTimeout => exact execTestTimeout_topology s
  | lightSample raw => exact execLightSample_topology s raw
  | backgroundUpdate => exact execBackgroundUpdate_topology s
  | supervisionSlot n => exact execSupervisionSlot_topology s n
  | burstEnd n => exact execBurstEnd_topology s n
  | captureBurstStart n => exact execCaptureBurstStart_topology s n
  | captureEnd n => exact execCaptureEnd_topology s n
  | currentSample samples => exact execCurrentSample_topology s samples
  | ocHoldExpiry m => exact execOcHoldExpiry_topology s m
  | cpClear m => exact execCpClear_topology s m
  | contactRawChange p c on => exact execContactRawChange_topology s p c on
  | debounceExpiry p c => exact execDebounceExpiry_topology s p c
  | discrepancyExpiry p => exact execDiscrepancyExpiry_topology s p
  | minPulseExpiry p => exact execMinPulseExpiry_topology s p
  | bfDeadline p => exact execBfDeadline_topology s p
  | driveTimeout p => exact execDriveTimeout_topology s p
  | lockoutButtonChange b => exact execLockoutButtonChange_topology s b
  | lockoutResetPress => exact execLockoutResetPress_topology s
  | lockoutButtonRelease => exact execLockoutButtonRelease_topology s
  | heartbeatDue => exact execHeartbeatDue_topology s
  | sendDecide => exact execSendDecide_topology s
  | telegramStart => exact execTelegramStart_topology s
  | attemptVoided => exact execAttemptVoided_topology s
  | startBitSeen => exact execStartBitSeen_topology s
  | arbitrationLost => exact execArbitrationLost_topology s
  | bitError b => exact execBitError_topology s b
  | telegramCompleted => exact execTelegramCompleted_topology s
  | telegramReceived bits => exact execTelegramReceived_topology s bits
  | lineDisturbance bits => exact execLineDisturbance_topology s bits
  | peerSilenceExpiry u => exact execPeerSilenceExpiry_topology s u
  | suspensionEnd => exact execSuspensionEnd_topology s
  | duplicateAlarmExpiry => exact execDuplicateAlarmExpiry_topology s
  | channelGroupApply n => exact execChannelGroupApply_topology s n
  | pointGroupApply m => exact execPointGroupApply_topology s m
  | topologyGroupApply => exact execTopologyGroupApply_topology s
  | linkGroupApply => exact execLinkGroupApply_topology s
  | storeWriteBegin => exact execStoreWriteBegin_topology s
  | storeWriteEnd o => exact execStoreWriteEnd_topology s o
  | frameGapTimeout read => exact execFrameGapTimeout_topology s read
  | framingDiscard cause read => exact execFramingDiscard_topology s cause read
  | frameCheckFailure => exact execFrameCheckFailure_topology s
  | foreignFrame address kind => exact execForeignFrame_topology s address kind
  | overrunDiscard => exact execOverrunDiscard_topology s
  | ignoredBroadcast kind => exact execIgnoredBroadcast_topology s kind
  | unknownKind kind => exact execUnknownKind_topology s kind
  | replyStart => exact execReplyStart_topology s
  | replySent => exact execReplySent_topology s
  | identify body => exact execIdentify_topology s body
  | status body => exact execStatus_topology s body
  | readChannel body => exact execReadChannel_topology s body
  | readPoint body => exact execReadPoint_topology s body
  | readPosition body => exact execReadPosition_topology s body
  | readZone body => exact execReadZone_topology s body
  | readOrders body => exact execReadOrders_topology s body
  | readPeers body => exact execReadPeers_topology s body
  | readRecord body => exact execReadRecord_topology s body
  | ackRecord body => exact execAckRecord_topology s body
  | fetchNotices body => exact execFetchNotices_topology s body
  | readSetting body => exact execReadSetting_topology s body
  | writeSetting body => exact execWriteSetting_topology s body
  | commit body => exact execCommit_topology s body
  | discard body => exact execDiscard_topology s body
  | setState body => exact execSetState_topology s body
  | channelOut body => exact execChannelOut_topology s body
  | channelIn body => exact execChannelIn_topology s body
  | captureReference body => exact execCaptureReference_topology s body
  | simulateLight body => exact execSimulateLight_topology s body
  | simulateCurrent body => exact execSimulateCurrent_topology s body
  | testTrip body => exact execTestTrip_topology s body
  | cancelOrder body => exact execCancelOrder_topology s body
  | resetLockout body => exact execResetLockout_topology s body
  | timeSet broadcast body => exact execTimeSet_topology s broadcast body
  | restart body => exact execRestart_topology s body

/-- Every step keeps the rule on positions and sets. -/
theorem step_topology : AnswersTopology s (step s) := by
  unfold step
  split
  · exact .next (.of_view (State.topologyView_ite (s.advanceTo_topologyView _) rfl))
  · next c rest _ =>
    intro t ht
    exact (KeepsTopology.of_view rfl).trans (exec_topology { s with pending := rest } c t ht)

/-- Settles O11: each command that changes an input of a position derives it anew, and each that changes a derived
position, an attachment or the graph computes the sets anew before it ends; the lists keep their lengths by O10. -/
theorem topologyStaysCurrent : Obligations.TopologyStaysCurrent := by
  intro s hs t ht
  rw [State.topologyCurrent_iff] at hs ⊢
  exact ⟨(step_keeping s t ht).1 hs.1, step_topology s t ht hs.2⟩

end Sys2Proof.Machine
end

section
/-! A search in rounds that stops after a fixed number of them, and the clearing set as one (R67): eight rounds along at
most eight conducting positions reach whatever can be reached. -/

namespace Sys2Proof.Machine

open Wire

/-! ### Searches in rounds -/

section Rounds

variable {α β : Type} {l : List β}

/-- A count grows strictly when nothing counted goes and something comes. -/
theorem countP_lt_of_gained {p q : β → Bool} (hkept : ∀ x ∈ l, p x = true → q x = true)
    (hgained : ∃ x ∈ l, p x = false ∧ q x = true) : l.countP p < l.countP q := by
  obtain ⟨x, hx, hp, hq⟩ := hgained
  obtain ⟨before, after, rfl⟩ := List.append_of_mem hx
  have hbefore := List.countP_mono_left fun y hy => hkept y (List.mem_append_left _ hy)
  have hafter := List.countP_mono_left fun y hy => hkept y (List.mem_append_right _ (List.mem_cons_of_mem _ hy))
  simp only [List.countP_append, List.countP_cons, hp, hq, Bool.false_eq_true, if_true, if_false]
  omega

/-- If each round that starts incomplete brings a further object of `l` in, the search is complete after as many
rounds as `l` has objects. -/
theorem complete_after_rounds {round : α → α} {complete : α → Prop} {isIn : α → β → Bool}
    (hstays : ∀ x, complete x → complete (round x))
    (hkept : ∀ x, ∀ b ∈ l, isIn x b = true → isIn (round x) b = true)
    (hgained : ∀ x, ¬complete x → ∃ b ∈ l, isIn x b = false ∧ isIn (round x) b = true)
    {n : Nat} (hn : l.length ≤ n) (x : α) : complete (round^[n] x) := by
  have progress : ∀ k, complete (round^[k] x) ∨ k ≤ l.countP (isIn (round^[k] x)) := by
    intro k
    induction k with
    | zero => exact .inr (Nat.zero_le _)
    | succ k ih =>
      rw [Function.iterate_succ_apply']
      by_cases h : complete (round^[k] x)
      · exact .inl (hstays _ h)
      · exact .inr ((ih.resolve_left h).trans_lt (countP_lt_of_gained (hkept _) (hgained _ h)))
  by_contra h
  have hall := (progress n).resolve_left h
  have hmore := countP_lt_of_gained (hkept _) (hgained _ h)
  exact absurd (hmore.trans_le List.countP_le_length) (Nat.not_lt.mpr (hn.trans hall))

end Rounds

/-! ### One round along the positions -/

namespace TopologySettings

variable {g : TopologySettings} {edges : List Index} {z a b f n : Node} {p : Index} {seen : List Node}

/-- One position of a round of `spread`: it adds its other node, unless the node to avoid is one of its two. -/
def pass (g : TopologySettings) (z : Node) (seen : List Node) (p : Index) : List Node :=
  let a := (item g.positions .factory p).nodeA
  let b := (item g.positions .factory p).nodeB
  if a == z || b == z then seen
  else if seen.contains a then (if seen.contains b then seen else b :: seen)
  else if seen.contains b then a :: seen
  else seen

theorem spread_eq_foldl : g.spread edges z seen = edges.foldl (g.pass z) seen := rfl

/-- What `pass` adds is the far end of a position that joins it to a node seen. -/
theorem mem_pass : n ∈ g.pass z seen p ↔ n ∈ seen ∨ ∃ m ∈ seen, g.joins [p] z m n := by
  simp only [joins, List.mem_singleton, exists_eq_left]
  generalize hA : (item g.positions .factory p).nodeA = A
  generalize hB : (item g.positions .factory p).nodeB = B
  simp only [pass, hA, hB, Bool.or_eq_true, beq_iff_eq, List.contains_iff_mem]
  split_ifs <;> grind

theorem joins.of_singleton (hp : p ∈ edges) (h : g.joins [p] z a b) : g.joins edges z a b := by
  obtain ⟨q, hq, hends⟩ := h
  exact ⟨q, List.mem_singleton.mp hq ▸ hp, hends⟩

theorem joins.exists_singleton (h : g.joins edges z a b) : ∃ p ∈ edges, g.joins [p] z a b := by
  obtain ⟨p, hp, hends⟩ := h
  exact ⟨p, hp, p, List.mem_singleton_self p, hends⟩

theorem subset_spread : seen ⊆ g.spread edges z seen :=
  List.foldlRecOn (motive := (seen ⊆ ·)) edges (g.pass z) (List.Subset.refl seen)
    fun _ h _ _ _ hn => mem_pass.mpr (.inl (h hn))

/-- A round stays within every set of nodes that has all neighbours of its members. -/
theorem spread_within {S : Node → Prop} (hS : ∀ a b, S a → g.joins edges z a b → S b) (h : ∀ n ∈ seen, S n) :
    ∀ n ∈ g.spread edges z seen, S n := by
  refine List.foldlRecOn (motive := fun l => ∀ n ∈ l, S n) edges (g.pass z) h fun l hl p hp n hn => ?_
  obtain hn | ⟨m, hm, hj⟩ := mem_pass.mp hn
  · exact hl n hn
  · exact hS m n (hl m hm) (hj.of_singleton hp)

/-- A round reaches every neighbour of a node seen. -/
theorem mem_spread_of_joins (ha : a ∈ seen) (h : g.joins edges z a b) : b ∈ g.spread edges z seen := by
  obtain ⟨p, hp, hj⟩ := h.exists_singleton
  obtain ⟨before, after, rfl⟩ := List.append_of_mem hp
  rw [spread_eq_foldl, List.foldl_append, List.foldl_cons]
  exact subset_spread (mem_pass.mpr (.inr ⟨a, subset_spread ha, hj⟩))

/-! ### All rounds -/

/-- Every neighbour of a node of the list is in the list. -/
def complete (g : TopologySettings) (edges : List Index) (z : Node) (seen : List Node) : Prop :=
  ∀ a b, a ∈ seen → g.joins edges z a b → b ∈ seen

/-- Both nodes of a position have been seen. -/
def isInside (g : TopologySettings) (seen : List Node) (p : Index) : Bool :=
  seen.contains (item g.positions .factory p).nodeA && seen.contains (item g.positions .factory p).nodeB

theorem isInside_iff : g.isInside seen p = true ↔
    (item g.positions .factory p).nodeA ∈ seen ∧ (item g.positions .factory p).nodeB ∈ seen := by
  simp only [isInside, Bool.and_eq_true, List.contains_iff_mem]

/-- A round that does not start complete takes a further position inside. -/
theorem spread_gains (h : ¬g.complete edges z seen) :
    ∃ p ∈ edges, g.isInside seen p = false ∧ g.isInside (g.spread edges z seen) p = true := by
  simp only [complete, not_forall] at h
  obtain ⟨a, b, ha, hj, hb⟩ := h
  have ha' : a ∈ g.spread edges z seen := subset_spread ha
  have hb' := mem_spread_of_joins ha hj
  obtain ⟨p, hp, hends, -⟩ := hj
  refine ⟨p, hp, ?_⟩
  rw [← Bool.not_eq_true, isInside_iff, isInside_iff]
  obtain ⟨rfl, rfl⟩ | ⟨rfl, rfl⟩ := hends
  · exact ⟨fun hin => hb hin.2, ha', hb'⟩
  · exact ⟨fun hin => hb hin.1, hb', ha'⟩

theorem reach_eq_iterate : ∀ (k : Nat) (seen : List Node), g.reach edges z k seen = (g.spread edges z)^[k] seen
  | 0, _ => rfl
  | k + 1, seen => reach_eq_iterate k (g.spread edges z seen)

theorem reach_complete (hl : edges.length ≤ 8) : g.complete edges z (g.reach edges z 8 seen) := by
  rw [reach_eq_iterate]
  refine complete_after_rounds (isIn := g.isInside) (l := edges) (fun seen h a b ha hj => ?_) (fun seen p _ h => ?_)
    (fun _ => spread_gains) hl seen
  · exact subset_spread (h a b (spread_within h (fun _ hn => hn) a ha) hj)
  · rw [isInside_iff] at h ⊢
    exact ⟨subset_spread h.1, subset_spread h.2⟩

/-- Eight rounds along at most eight positions find exactly the nodes that a path leads to. -/
theorem mem_reach_iff (hl : edges.length ≤ 8) :
    n ∈ g.reach edges z 8 [f] ↔ Relation.ReflTransGen (g.joins edges z) f n := by
  constructor
  · rw [reach_eq_iterate]
    refine Function.Iterate.rec (fun seen => ∀ n ∈ seen, Relation.ReflTransGen (g.joins edges z) f n) ?_
      (fun seen h => spread_within (fun _ _ => .tail) h) 8 n
    intro m hm
    rw [List.mem_singleton.mp hm]
  · intro h
    induction h with
    | refl =>
      rw [reach_eq_iterate]
      exact Function.Iterate.rec (f ∈ ·) (List.mem_singleton_self f) (fun _ h => subset_spread h) 8
    | tail _ hj ih => exact reach_complete hl _ _ ih hj

theorem reachesSource_iff (hl : edges.length ≤ 8) : g.reachesSource edges z f = true ↔ g.feeds edges z f := by
  simp only [reachesSource, feeds, List.any_eq_true, mem_reach_iff hl]

theorem farNode_eq_some_iff : g.farNode z p = some f ↔ f ≠ z ∧
    (((item g.positions .factory p).nodeA = z ∧ (item g.positions .factory p).nodeB = f) ∨
      ((item g.positions .factory p).nodeB = z ∧ (item g.positions .factory p).nodeA = f)) := by
  simp only [farNode, Bool.and_eq_true, beq_iff_eq, bne_iff_ne]
  split_ifs <;> grind

end TopologySettings

/-! ### The clearing set -/

theorem State.conductors_length (s : State) : s.conductors.length ≤ 8 := List.length_filter_le _ (upTo 8)

theorem State.mem_clearingSet {s : State} {z p : Index} : p ∈ s.clearingSet z ↔ p ∈ s.conductors ∧
    ∃ f, s.settings.active.topology.farNode (.zone z) p = some f ∧
      s.settings.active.topology.reachesSource s.conductors (.zone z) f = true := by
  rw [State.clearingSet, List.mem_filter]
  cases s.settings.active.topology.farNode (.zone z) p with
  | none => simp
  | some f => simp

/-- Settles O27: a member is a conductor whose far node reaches a source, and eight rounds decide that, there being at
most eight conductors. -/
theorem clearingSetIsExact : Obligations.ClearingSetIsExact := by
  intro s z p _
  simp only [State.mem_clearingSet, TopologySettings.farNode_eq_some_iff,
    TopologySettings.reachesSource_iff s.conductors_length, and_assoc,
    State.positionSet]

end Sys2Proof.Machine
end

section
/-! The checks of a commit (R78 to R83): what each says of its object, chains of backups as a search in rounds, and the
first failure as the first of all objects, in the order of the checks, that fails. -/

namespace Sys2Proof.Machine

open Wire

/-! ### Lists searched -/

theorem mem_upTo_pred {m k l : Nat} (hm : m ∈ upTo l) : k ∈ upTo (m - 1) ↔ k ∈ upTo l ∧ k < m := by
  rw [mem_upTo] at hm
  rw [mem_upTo, mem_upTo]
  omega

/-- A list without repetitions has two members that pass a test exactly if two are left when it is filtered. -/
theorem two_le_length_filter_iff {l : List Index} (hl : l.Nodup) {test : Index → Bool} :
    2 ≤ (l.filter test).length ↔ ∃ y ∈ l, ∃ z ∈ l, y ≠ z ∧ test y = true ∧ test z = true := by
  rw [← List.toFinset_card_of_nodup (hl.filter test), Nat.succ_le_iff, Finset.one_lt_card]
  simp only [List.mem_toFinset, List.mem_filter]
  exact ⟨fun ⟨y, ⟨hy, ty⟩, z, ⟨hz, tz⟩, hne⟩ => ⟨y, hy, z, hz, hne, ty, tz⟩,
    fun ⟨y, hy, z, hz, hne, ty, tz⟩ => ⟨y, ⟨hy, ty⟩, z, ⟨hz, tz⟩, hne⟩⟩

/-- In a list without repetitions a search finds an object exactly if that passes and none before it does. -/
theorem find?_eq_some_iff_of_nodup {α : Type} {l before after : List α} {x : α} {test : α → Bool} (hn : l.Nodup)
    (hl : l = before ++ x :: after) : l.find? test = some x ↔ test x = true ∧ ∀ y ∈ before, ¬test y = true := by
  subst hl
  obtain ⟨hx, -⟩ := List.nodup_cons.mp (List.nodup_middle.mp hn)
  rw [List.mem_append, not_or] at hx
  simp only [List.find?_eq_some_iff_append, Bool.not_eq_true', Bool.not_eq_true,
    List.append_cons_inj_of_notMem hx.1 hx.2]
  refine and_congr_right fun _ => ⟨fun ⟨_, _, ⟨hbefore, _⟩, h⟩ => ?_, fun h => ⟨before, after, ⟨rfl, trivial, rfl⟩, h⟩⟩
  exact hbefore ▸ h

/-- The first of the first failures of each check is the first of all failures. -/
theorem head?_filterMap_head? (found : List (Nat × List Index)) :
    (found.filterMap fun x => x.2.head?.map fun i => (x.1, i)).head? =
      (found.flatMap fun x => x.2.map fun i => (x.1, i)).head? := by
  induction found with
  | nil => rfl
  | cons x found ih =>
    obtain ⟨code, objects⟩ := x
    cases objects with
    | nil => exact ih
    | cons i objects => rfl

namespace Settings

variable {c : Settings} {p q n m z : Index} {reached : List Index}

/-! ### Nodes, channels and points (R79, R80, R81) -/

/-- A source that is not marked present (R65). -/
def absentSource (c : Settings) : Node → Bool
  | .source i => !item c.topology.sources false i
  | .none | .zone _ => false

theorem absentSource_iff {a : Node} :
    c.absentSource a = true ↔ ∃ i, a = .source i ∧ item c.topology.sources false i = false := by
  cases a <;> simp [absentSource]

theorem edgeFails_eq : c.edgeFails p =
    ((item c.topology.positions .factory p).nodeA != .none &&
      ((item c.topology.positions .factory p).nodeB == .none ||
        (item c.topology.positions .factory p).nodeA == (item c.topology.positions .factory p).nodeB ||
        c.absentSource (item c.topology.positions .factory p).nodeA ||
        c.absentSource (item c.topology.positions .factory p).nodeB)) := rfl

theorem channelTwice_iff : c.channelTwice n = true ↔ ∃ y ∈ upTo 8, ∃ z ∈ upTo 8, y ≠ z ∧
    n ∈ (item c.topology.zones .factory y).members ∧ n ∈ (item c.topology.zones .factory z).members := by
  simp only [channelTwice, decide_eq_true_eq, two_le_length_filter_iff (l := upTo 8) (by decide), List.contains_iff_mem]

theorem pointAttachFails_iff (hm : m ∈ upTo 4) : c.pointAttachFails m = true ↔
    ∃ p, (item c.points .factory m).attached = some p ∧ ((item c.topology.positions .factory p).nodeA = .none ∨
      ∃ k ∈ upTo 4, k < m ∧ (item c.points .factory k).attached = some p) := by
  cases h : (item c.points .factory m).attached with
  | none => simp [pointAttachFails, h]
  | some p => simp [pointAttachFails, h, TopologySettings.usedPosition, mem_upTo_pred hm, and_assoc]

theorem zoneBlind_iff : c.zoneBlind z = true ↔ (item c.topology.zones .factory z).mode ≠ .blocked ∧
    (item c.topology.zones .factory z).importZones = [] ∧
      ∀ n ∈ (item c.topology.zones .factory z).members, (item c.channels .factory n).kind = .unused := by
  simp only [zoneBlind, Bool.and_eq_true, bne_iff_ne, List.isEmpty_iff, List.all_eq_true, beq_iff_eq, and_assoc]

theorem exportFails_iff : c.exportFails m = true ↔ ∃ i, (item c.points .factory m).exported = some i ∧
    (c.link.unit = 0 ∨ item c.link.owners none i ≠ some c.link.unit) := by
  cases h : (item c.points .factory m).exported with
  | none => simp [exportFails, h]
  | some i => simp [exportFails, h]

/-! ### Chains of backups (R82) -/

/-- The second position is a local backup of the first. -/
def backs (c : Settings) (a b : Index) : Prop := b ∈ c.backups a

/-- A position beyond the list has no backups. -/
theorem backs.mem_upTo (hl : c.topology.positions.length ≤ 8) (h : c.backs p q) : p ∈ upTo 8 := by
  by_contra hp
  have hbeyond : p ∉ upTo c.topology.positions.length := fun hin =>
    hp (Machine.mem_upTo.mpr ((Machine.mem_upTo.mp hin).imp_right hl.trans'))
  rw [backs, backups, item_beyond _ rfl hbeyond] at h
  exact List.not_mem_nil h

/-- One round of `backupReach`. -/
def backupRound (c : Settings) (reached : List Index) : List Index :=
  (upTo 8).filter fun q => reached.contains q || reached.any fun p => (c.backups p).contains q

theorem mem_backupRound : q ∈ c.backupRound reached ↔ q ∈ upTo 8 ∧ (q ∈ reached ∨ ∃ p ∈ reached, c.backs p q) := by
  simp only [backupRound, backs, List.mem_filter, Bool.or_eq_true, List.contains_iff_mem, List.any_eq_true]

theorem backupReach_eq_iterate : ∀ (k : Nat) (reached : List Index), c.backupReach k reached = c.backupRound^[k] reached
  | 0, _ => rfl
  | k + 1, reached => backupReach_eq_iterate k (c.backupRound reached)

/-- Every backup of a position of the list is in the list. -/
def backupsComplete (c : Settings) (reached : List Index) : Prop :=
  ∀ p q, p ∈ reached → q ∈ upTo 8 → c.backs p q → q ∈ reached

theorem backupRound_stays (h : c.backupsComplete reached) : c.backupsComplete (c.backupRound reached) := by
  intro p q hp hq hpq
  obtain ⟨hp8, hin | ⟨o, ho, hop⟩⟩ := mem_backupRound.mp hp
  · exact mem_backupRound.mpr ⟨hq, .inr ⟨p, hin, hpq⟩⟩
  · exact mem_backupRound.mpr ⟨hq, .inr ⟨p, h o p ho hp8 hop, hpq⟩⟩

theorem backupRound_gains (h : ¬c.backupsComplete reached) :
    ∃ q ∈ upTo 8, reached.contains q = false ∧ (c.backupRound reached).contains q = true := by
  simp only [backupsComplete, not_forall] at h
  obtain ⟨p, q, hp, hq, hpq, hnot⟩ := h
  exact ⟨q, hq, by simpa using hnot, List.contains_iff_mem.mpr (mem_backupRound.mpr ⟨hq, .inr ⟨p, hp, hpq⟩⟩)⟩

theorem backupReach_complete : c.backupsComplete (c.backupReach 8 reached) := by
  rw [backupReach_eq_iterate]
  refine complete_after_rounds (complete := c.backupsComplete) (isIn := List.contains) (l := upTo 8)
    (fun _ => backupRound_stays) (fun reached q hq h => ?_) (fun _ => backupRound_gains) (Nat.le_refl 8) reached
  rw [List.contains_iff_mem] at h ⊢
  exact mem_backupRound.mpr ⟨hq, .inl h⟩

/-- Eight rounds from a position's backups find exactly the positions that a chain of backups leads to. Every link of a
chain starts at one of the eight positions, so the rounds, which drop other numbers, lose no chain. -/
theorem mem_backupReach_iff (hl : c.topology.positions.length ≤ 8) (hq : q ∈ upTo 8) :
    q ∈ c.backupReach 8 (c.backups p) ↔ Relation.TransGen c.backs p q := by
  constructor
  · rw [backupReach_eq_iterate]
    refine Function.Iterate.rec (fun reached => ∀ q ∈ reached, Relation.TransGen c.backs p q) (fun _ h => .single h)
      (fun reached h q hq => ?_) 8 q
    obtain ⟨-, hin | ⟨o, ho, hoq⟩⟩ := mem_backupRound.mp hq
    · exact h q hin
    · exact (h o ho).tail hoq
  · intro h
    induction h with
    | single h =>
      rw [backupReach_eq_iterate]
      exact Function.Iterate.rec (_ ∈ ·) h (fun _ hin => mem_backupRound.mpr ⟨hq, .inl hin⟩) 8
    | tail _ hab ih => exact backupReach_complete _ _ (ih (hab.mem_upTo hl)) hq hab

theorem onBackupCycle_iff (hl : c.topology.positions.length ≤ 8) (hp : p ∈ upTo 8) :
    c.onBackupCycle p = true ↔ Relation.TransGen c.backs p p := by
  rw [onBackupCycle, List.contains_iff_mem, mem_backupReach_iff hl hp]

/-! ### The first failure (R78) -/

/-- Every object of every check with the check's code, in the order of judging; the unit itself is object 0 of check 7. -/
def checkedObjects : List (Nat × Index) :=
  (upTo 8).map (1, ·) ++ (upTo 16).map (2, ·) ++ (upTo 4).map (3, ·) ++ (upTo 8).map (4, ·) ++
    (upTo 8).map (5, ·) ++ (upTo 8).map (6, ·) ++ (upTo 4).map (7, ·) ++ [(7, 0)]

/-- The check of that code fails at that object. -/
def failsAt (c : Settings) : Nat × Index → Bool
  | (1, p) => c.edgeFails p
  | (2, n) => c.channelTwice n
  | (3, m) => c.pointAttachFails m
  | (4, p) => c.backupSelf p
  | (5, p) => c.onBackupCycle p
  | (6, z) => c.zoneBlind z
  | (7, 0) => c.ownPeer
  | (7, m) => c.exportFails m
  | _ => false

theorem checkedObjects_nodup : checkedObjects.Nodup := by decide

theorem forall_checkedObjects {P : Nat × Index → Prop} (h1 : ∀ p ∈ upTo 8, P (1, p)) (h2 : ∀ n ∈ upTo 16, P (2, n))
    (h3 : ∀ m ∈ upTo 4, P (3, m)) (h4 : ∀ p ∈ upTo 8, P (4, p)) (h5 : ∀ p ∈ upTo 8, P (5, p))
    (h6 : ∀ z ∈ upTo 8, P (6, z)) (h7 : ∀ m ∈ upTo 4, P (7, m)) (h0 : P (7, 0)) : ∀ f ∈ checkedObjects, P f := by
  simp only [checkedObjects, List.forall_mem_append, List.forall_mem_map, List.forall_mem_singleton]
  exact ⟨⟨⟨⟨⟨⟨⟨h1, h2⟩, h3⟩, h4⟩, h5⟩, h6⟩, h7⟩, h0⟩

theorem failsAt_link (hm : m ∈ upTo 4) : c.failsAt (7, m) = c.exportFails m := by
  cases m with
  | zero => exact absurd (mem_upTo.mp hm).1 (Nat.not_succ_le_zero 0)
  | succ k => rfl

theorem firstFailure_eq_find? : c.firstFailure = checkedObjects.find? c.failsAt := by
  have hlink : (upTo 4).filter (fun m => c.failsAt (7, m)) = (upTo 4).filter c.exportFails :=
    List.filter_congr fun m hm => failsAt_link hm
  have hpeer : [(7, 0)].filter c.failsAt = (if c.ownPeer then [0] else []).map (7, ·) := by
    cases h : c.ownPeer with
    | false => simp [failsAt, h]
    | true => simp [failsAt, h]
  rw [firstFailure, head?_filterMap_head?, ← List.head?_filter]
  congr 1
  simp only [checkedObjects, List.filter_append, List.filter_map, Function.comp_def, hlink, hpeer, List.flatMap_cons,
    List.flatMap_nil, List.map_append, List.append_assoc, List.append_nil]
  rfl

end Settings

/-- Settles O51: the first failure is the first of the objects judged that fails, and each check fails exactly where its
rule says. -/
theorem commitChecksAreExact : Obligations.CommitChecksAreExact := by
  intro c hl g pos zone point absent backs fails judged
  have hfails : ∀ f ∈ judged, (c.failsAt f = true ↔ fails f) := by
    refine Settings.forall_checkedObjects (fun p _ => ?_) (fun n _ => Settings.channelTwice_iff)
      (fun m hm => Settings.pointAttachFails_iff hm) (fun p _ => List.contains_iff_mem)
      (fun p hp => Settings.onBackupCycle_iff hl hp) (fun z _ => Settings.zoneBlind_iff) (fun m hm => ?_)
      List.contains_iff_mem
    · simp only [Settings.failsAt, Settings.edgeFails_eq, Settings.absentSource_iff, Bool.and_eq_true, Bool.or_eq_true,
        bne_iff_ne, beq_iff_eq, or_assoc]
      rfl
    · rw [Settings.failsAt_link hm, Settings.exportFails_iff]
      cases m with
      | zero => exact absurd (mem_upTo.mp hm).1 (Nat.not_succ_le_zero 0)
      | succ k => rfl
  rw [Settings.firstFailure_eq_find?]
  refine ⟨?_, fun f => List.mem_of_find?_eq_some, fun before f after hsplit => ?_⟩
  · rw [List.find?_eq_none]
    exact forall₂_congr fun f hf => not_congr (hfails f hf)
  · rw [find?_eq_some_iff_of_nodup Settings.checkedObjects_nodup hsplit]
    have hmem : ∀ f' ∈ before ++ f :: after, (c.failsAt f' = true ↔ fails f') := hsplit ▸ hfails
    rw [List.forall_mem_append, List.forall_mem_cons] at hmem
    obtain ⟨hbefore, hf, -⟩ := hmem
    exact and_congr hf (forall₂_congr fun f' hf' => not_congr (hbefore f' hf'))

end Sys2Proof.Machine
end

section
/-! The condition of a zone, its readings and its target (R86 to R89). -/

namespace Sys2Proof.Machine

open Wire

variable {s : State} {z : Index}

/-! ### The trip condition (R88) -/

/-- A condition by a real and a dry piece of evidence: a row of R88's table. -/
def Condition.graded (real dry : Bool) : Condition := if real then .live else if dry then .dry else .none

theorem Condition.graded_eq_live {real dry : Bool} : Condition.graded real dry = .live ↔ real = true := by
  cases real <;> cases dry <;> decide

theorem Condition.graded_eq_dry {real dry : Bool} : Condition.graded real dry = .dry ↔ real = false ∧ dry = true := by
  cases real <;> cases dry <;> decide

theorem Condition.graded_eq_none {real dry : Bool} :
    Condition.graded real dry = .none ↔ real = false ∧ dry = false := by
  cases real <;> cases dry <;> decide

section Rows

variable (fallback : Fallback) (unavailable realLight dryLight realCurrent dryCurrent : Bool)

theorem conditionOf_lightOnly : conditionOf .lightOnly fallback unavailable realLight dryLight realCurrent dryCurrent =
    .graded realLight dryLight := rfl

theorem conditionOf_available : conditionOf .checked fallback false realLight dryLight realCurrent dryCurrent =
    .graded (realLight && realCurrent) (dryLight && dryCurrent) := rfl

theorem conditionOf_fallback : conditionOf .checked .lightOnly true realLight dryLight realCurrent dryCurrent =
    .graded realLight dryLight := rfl

theorem conditionOf_hold : conditionOf .checked .hold true realLight dryLight realCurrent dryCurrent = .none := rfl

theorem conditionOf_blocked : conditionOf .blocked fallback unavailable realLight dryLight realCurrent dryCurrent =
    .none := rfl

end Rows

/-- Settles O29: each row of R88's table grades one choice of evidence, or is never met. -/
theorem tripConditionFollowsItsTable : Obligations.TripConditionFollowsItsTable := by
  intro mode fallback unavailable realLight dryLight realCurrent dryCurrent
  cases mode with
  | blocked => simp [conditionOf_blocked]
  | lightOnly =>
    simp only [conditionOf_lightOnly, Condition.graded_eq_live, Condition.graded_eq_dry,
      Condition.graded_eq_none, ne_eq]
    grind
  | checked =>
    cases unavailable with
    | false =>
      simp only [conditionOf_available, Condition.graded_eq_live, Condition.graded_eq_dry,
        Condition.graded_eq_none, ne_eq]
      grind
    | true =>
      cases fallback with
      | hold => simp [conditionOf_hold]
      | lightOnly =>
        simp only [conditionOf_fallback, Condition.graded_eq_live, Condition.graded_eq_dry,
          Condition.graded_eq_none, ne_eq]
        grind

/-! ### The readings (R86, R87) -/

theorem Detection.lightFlag_iff {d : Detection} : d.lightFlag = true ↔ d = .lit ∨ d = .steady := by
  cases d <;> decide

theorem Detection.evaluated_iff {d : Detection} :
    d.evaluated = true ↔ d ∈ [Detection.dark, .pickup, .lit, .steady] := by
  cases d <;> decide

theorem Peer.usable_iff {p : Peer} :
    p.usable = true ↔ p.state = .live ∧ (p.reported = some .inService ∨ p.reported = some .test) := by
  have hreported : p.reported.elim false Reported.usable = true ↔
      p.reported = some .inService ∨ p.reported = some .test := by
    rcases p.reported with _ | (_ | _ | _ | _) <;> decide
  rw [Peer.usable, Bool.and_eq_true, beq_iff_eq, hreported]

theorem State.realLight_iff : s.realLight z = true ↔
    (∃ n ∈ (s.zoneSet z).members, (s.channel n).detection = .lit ∨ (s.channel n).detection = .steady) ∨
      ∃ i ∈ (s.zoneSet z).importZones, ∃ p ∈ s.link.peers, p.usable = true ∧ i ∈ p.light := by
  simp [State.realLight, State.lightFlag, Detection.lightFlag_iff, State.presentedZone]

theorem State.dryLight_iff : s.dryLight z = true ↔ s.realLight z = true ∨ (s.control.state = .test ∧
    ∃ n ∈ (s.zoneSet z).members, (s.channel n).simulated = true ∧
      (s.channel n).detection ∈ [Detection.dark, .pickup, .lit, .steady]) := by
  simp only [State.dryLight, State.inTest, State.simulatedLight, Bool.or_eq_true, Bool.and_eq_true, beq_iff_eq,
    List.any_eq_true, Detection.evaluated_iff]

/-- A link current that its owner presents (R136). -/
theorem State.presentedCurrent_iff {i : Index} : s.presentedCurrent i = true ↔ ∃ p ∈ s.link.peers,
    item s.settings.active.link.owners none i = some p.unit ∧ p.usable = true ∧ i ∈ p.current := by
  unfold State.presentedCurrent
  split
  · next ho => simp [ho]
  · next u ho => simp [ho, and_assoc, @eq_comm _ u]

theorem State.ownerUsable_iff {i : Index} : s.ownerUsable i = true ↔ ∃ p ∈ s.link.peers,
    item s.settings.active.link.owners none i = some p.unit ∧ p.usable = true := by
  unfold State.ownerUsable
  split
  · next ho => simp [ho]
  · next u ho => simp [ho, @eq_comm _ u]

theorem State.realCurrent_iff : s.realCurrent z = true ↔ (∃ m ∈ (s.zone z).confirmation, (s.point m).oc = true) ∨
    ∃ i ∈ (s.zoneSet z).importCurrents, ∃ p ∈ s.link.peers,
      item s.settings.active.link.owners none i = some p.unit ∧ p.usable = true ∧ i ∈ p.current := by
  simp only [State.realCurrent, Bool.or_eq_true, List.any_eq_true, State.presentedCurrent_iff]

theorem State.dryCurrent_iff : s.dryCurrent z = true ↔ s.realCurrent z = true ∨
    (s.control.state = .test ∧ ∃ m ∈ (s.zone z).confirmation, (s.point m).simulated = true) := by
  simp only [State.dryCurrent, State.inTest, Bool.or_eq_true, Bool.and_eq_true, beq_iff_eq, List.any_eq_true]

theorem State.unavailable_iff : s.unavailable z = true ↔ (s.zone z).confirmation = [] ∧
    ∀ i ∈ (s.zoneSet z).importCurrents, ∀ p ∈ s.link.peers,
      item s.settings.active.link.owners none i = some p.unit → ¬ p.usable = true := by
  have hnone : (!(s.zoneSet z).importCurrents.any s.ownerUsable) = true ↔
      ∀ i ∈ (s.zoneSet z).importCurrents, ¬ s.ownerUsable i = true := by simp
  rw [State.unavailable, Bool.and_eq_true, List.isEmpty_iff, hnone]
  simp only [State.ownerUsable_iff, not_exists, not_and]

/-! ### The target (R89) -/

theorem State.target_eq (q : Zone) : s.target z q =
    if q.condition = .live ∧ s.control.state ≠ .outOfService then .tripped .live
    else if q.condition = .dry ∧ s.control.state ≠ .outOfService then .tripped .dry
    else if q.condition ≠ .none then .alert .heldOutOfService
    else if q.dryLight = false then .quiet
    else .alert
      (if (s.zoneSet z).mode = .blocked then .zoneBlocked
      else if q.unavailable = true ∧ (s.zoneSet z).fallback = .hold then .currentUnavailable
      else .noCurrent) := by
  cases hc : q.condition with
  | none => cases hd : q.dryLight <;> simp [State.target, targetOf, alertReasonOf, hc, hd]
  | dry | live =>
    by_cases hout : s.control.state = .outOfService <;> simp [State.target, targetOf, alertReasonOf, hc, hout]

/-- Settles O30: each reading is an `any` over the members, points, imports or peers that its rule names. -/
theorem readingsAndTargetFollowTheirRules : Obligations.ReadingsAndTargetFollowTheirRules := by
  intro s z
  simp only [← Peer.usable_iff]
  exact ⟨State.realLight_iff, State.dryLight_iff, State.realCurrent_iff, State.dryCurrent_iff, State.unavailable_iff,
    rfl, State.target_eq _⟩

/-- A zone is DRY in TEST alone: elsewhere each dry reading equals its real one (R88). -/
theorem State.inTest_of_dry (h : (s.readings z).condition = .dry) : s.control.state = .test := by
  by_contra htest
  have hin : s.inTest = false := beq_eq_false_iff_ne.mpr htest
  have hlight : s.realLight z = s.dryLight z := by simp [State.dryLight, hin]
  have hcurrent : s.realCurrent z = s.dryCurrent z := by simp [State.dryCurrent, hin]
  obtain ⟨-, -, hnot, -⟩ := tripConditionFollowsItsTable (s.zoneSet z).mode (s.zoneSet z).fallback (s.unavailable z)
    (s.realLight z) (s.dryLight z) (s.realCurrent z) (s.dryCurrent z)
  exact hnot hlight hcurrent h

/-- In OUT_OF_SERVICE no target is TRIPPED, and outside TEST none is TRIPPED DRY (R89). -/
theorem State.target_tripped {a : Attribute} (h : s.target z (s.readings z) = .tripped a) :
    s.control.state ≠ .outOfService ∧ (a = .dry → s.control.state = .test) := by
  rw [State.target_eq] at h
  split at h
  · next hc =>
    cases h
    exact ⟨hc.2, fun hd => Attribute.noConfusion hd⟩
  · split at h
    · next hc => exact ⟨hc.2, fun _ => State.inTest_of_dry hc.1⟩
    · split at h
      · cases h
      · split at h <;> cases h

end Sys2Proof.Machine
end

section
/-! One evaluation of a used zone, said once: the record it leaves, and what it posts and requests (R91 to R95). -/

namespace Sys2Proof.Machine

open Wire

variable {s : State} {z : Index}

/-! ### The record an evaluation leaves -/

/-- A replaced entry reads as the new value, unless the list has none of that number. -/
theorem item_put_self {α : Type} (l : List α) (d v : α) (n : Index) :
    item (put l n v) d n = v ∨ item l d n = d ∧ item (put l n v) d n = d := by
  cases n with
  | zero => exact .inr ⟨rfl, rfl⟩
  | succ k =>
    rcases Nat.lt_or_ge k l.length with hk | hk
    · exact .inl (item_put_same l d v (Nat.succ_pos k) hk)
    · exact .inr (by simp [put, item, hk])

/-- The record of a zone after its evaluation, from the record with the readings taken (R91 to R95). -/
def Zone.moveTo (q : Zone) (now : PartTime) : Target → Zone
  | .quiet =>
    if q.state = .quiet then q
    else { q with
      state := .quiet, attr := none, remoteHeld := false, alertReason := none, alertMark := false, since := now }
  | .alert r =>
    if q.state = .alert then { q with alertReason := some r }
    else { q with
      state := .alert, attr := none, remoteHeld := false, alertReason := some r, alertMark := true, since := now }
  | .tripped a =>
    if q.state = .tripped then
      if q.attr = some a then q else { q with attr := some a, remoteHeld := a == .live, since := now }
    else { q with
      state := .tripped, attr := some a, remoteHeld := a == .live, alertReason := none, trips := bump q.trips
      since := now }

/-- The record an evaluation leaves in zone `z`. -/
def State.evaluated (s : State) (z : Index) : Zone :=
  (s.readings z).moveTo s.partTime (s.target z (s.readings z))

/-- An evaluation replaces its zone's record and no other (R90). -/
theorem State.evaluate_zones_eq (e : List Index) (he : s.control.state.evaluates = true) (hu : s.usedZone z = true) :
    (s.evaluate z e).zones = put s.zones z (s.evaluated z) := by
  unfold State.evaluate State.evaluated
  simp only [he, hu, Bool.not_true, Bool.or_false, Bool.false_eq_true, if_false]
  split
  case h_1 ht hs => rw [ht, Zone.moveTo, if_pos hs]; rfl
  case h_2 ht hs | h_3 ht hs => rw [ht, Zone.moveTo, if_neg (by simp [hs])]; rfl
  case h_4 ht hs => rw [ht, Zone.moveTo, if_pos hs]; rfl
  case h_5 ht hs | h_6 ht hs => rw [ht, Zone.moveTo, if_neg (by simp [hs])]; exact State.enterAlert_zones _ _
  case h_7 ht hs | h_8 ht hs => rw [ht, Zone.moveTo, if_neg (by simp [hs])]; exact State.enterTripped_zones _ _
  case h_9 a ht hs =>
    rw [State.growZone_zones, ht, Zone.moveTo, if_pos hs]
    by_cases ha : (s.readings z).attr = some a
    · rw [if_pos ha, if_pos (beq_iff_eq.mpr ha)]
      rfl
    · rw [if_neg ha, if_neg (by simpa using ha)]
      cases a with
      | live => exact State.upgradeZone_zones _
      | dry => rfl

/-- Settles O31: the transition of R91's table that the present state and the target choose. -/
theorem evaluationReachesItsTarget : Obligations.EvaluationReachesItsTarget := by
  intro s z e hz hl hu he
  refine ⟨fun y _ hy => State.evaluate_other e hy, ?_⟩
  obtain ⟨h1, h8⟩ := mem_upTo.mp hz
  have hzone : (s.evaluate z e).zone z = s.evaluated z := by
    unfold State.zone
    rw [State.evaluate_zones_eq e he hu]
    exact item_put_same _ _ _ h1 (by rw [hl]; exact h8)
  refine hzone.trans ?_
  unfold State.evaluated
  cases s.target z (s.readings z) <;> rfl

/-! ### What an evaluation posts and requests (R92 to R94) -/

theorem presentEntries_isEmpty (l : List (Option RemoteEntry)) :
    (presentEntries l).isEmpty = l.all fun e => e.isNone := by
  induction l with
  | nil => rfl
  | cons x l ih => cases x <;> simp_all [presentEntries]

/-- The trip of a zone announced, and its clearing set requested or NO_SOURCE posted, with these records of the zones
(R93, items 2, 3 and 5). -/
def State.announceTrip (s : State) (z : Index) (a : Attribute) (zones : List Zone) : State :=
  let u : State := { s with
    zones
    notices := enqueue s.notices { kind := .zoneTrip, subject := z, value := a.code, time := s.partTime } }
  if (s.zone z).clearing.isEmpty && (s.zoneSet z).remoteList.all fun e => e.isNone then u.post .noSource z a.code
  else u.requestAll (s.zone z).clearing ⟨.zone, z⟩ a

/-- A zone's record replaced by one with its sets, and its trip. -/
theorem State.setZone_trip {q : Zone} (h : q.sets = (s.zone z).sets) (a : Attribute) :
    ((s.setZone z q).post .zoneTrip z a.code).requestClearing z a = s.announceTrip z a (put s.zones z q) := by
  have hc : ((s.setZone z q).zone z).clearing = (s.zone z).clearing := by
    rcases item_put_cases s.zones (.fresh [] []) q z z with hz | ⟨-, hz⟩
    · exact congrArg Zone.clearing hz
    · exact (congrArg Zone.clearing hz).trans (congrArg Prod.fst h)
  have hr : (!((s.setZone z q).post .zoneTrip z a.code).hasRemoteList z) =
      (s.zoneSet z).remoteList.all fun e => e.isNone := (Bool.not_not _).trans (presentEntries_isEmpty _)
  unfold State.requestClearing State.announceTrip
  dsimp only
  rw [hr, show (((s.setZone z q).post .zoneTrip z a.code).zone z).clearing = _ from hc]
  rfl

/-- A TRIPPED zone requests each position that entered its clearing set (R94). -/
theorem State.growZone_tripped {a : Attribute} (hs : (s.zone z).state = .tripped) (ha : (s.zone z).attr = some a)
    (e : List Index) : s.growZone z e = s.requestAll e ⟨.zone, z⟩ a := by
  rw [State.growZone, ha]
  exact if_pos (beq_iff_eq.mpr hs)

theorem State.evaluated_tripped {a : Attribute} (ht : s.target z (s.readings z) = .tripped a) :
    (s.evaluated z).state = .tripped ∧ (s.evaluated z).attr = some a := by
  rw [State.evaluated, ht, Zone.moveTo]
  split
  · next hs =>
    split
    · next ha => exact ⟨hs, ha⟩
    · exact ⟨hs, rfl⟩
  · exact ⟨rfl, rfl⟩

section Targets

variable (e : List Index) (he : s.control.state.evaluates = true) (hu : s.usedZone z = true)
include he hu

theorem State.evaluate_quiet (ht : s.target z (s.readings z) = .quiet) :
    s.evaluate z e = { s with zones := (s.evaluate z e).zones } := by
  unfold State.evaluate
  simp only [he, hu, Bool.not_true, Bool.or_false, Bool.false_eq_true, if_false, ht]
  cases (s.readings z).state <;> rfl

theorem State.evaluate_alert {r : AlertReason} (ht : s.target z (s.readings z) = .alert r) :
    s.evaluate z e = { s with
      zones := (s.evaluate z e).zones
      notices :=
        if (s.readings z).state = .alert ∨ (s.readings z).alertMark = true then s.notices
        else enqueue s.notices { kind := .zoneAlert, subject := z, value := r.code, time := s.partTime } } := by
  have entered : s.enterAlert z (s.readings z) r = { s with
      zones := (s.enterAlert z (s.readings z) r).zones
      notices :=
        if (s.readings z).alertMark = true then s.notices
        else enqueue s.notices { kind := .zoneAlert, subject := z, value := r.code, time := s.partTime } } := by
    unfold State.enterAlert
    dsimp only
    split <;> rfl
  unfold State.evaluate
  simp only [he, hu, Bool.not_true, Bool.or_false, Bool.false_eq_true, if_false, ht]
  cases (s.readings z).state with
  | alert => rfl
  | quiet | tripped => simpa using entered

/-- Entry into TRIPPED (R93). -/
theorem State.evaluate_enterTripped {a : Attribute} (ht : s.target z (s.readings z) = .tripped a)
    (hs : (s.readings z).state ≠ .tripped) :
    s.evaluate z e = s.announceTrip z a (s.evaluate z []).zones := by
  rw [State.evaluate_zones_eq [] he hu]
  have entered : s.enterTripped z (s.readings z) a = s.announceTrip z a (put s.zones z (s.evaluated z)) := by
    unfold State.evaluated
    rw [ht, Zone.moveTo, if_neg hs]
    exact State.setZone_trip (by rfl) a
  rw [← entered]
  unfold State.evaluate
  simp only [he, hu, Bool.not_true, Bool.or_false, Bool.false_eq_true, if_false, ht]
  cases hq : (s.readings z).state with
  | tripped => exact absurd hq hs
  | quiet | alert => rfl

/-- A zone that stays TRIPPED: its record first, then the growth of its clearing set (R94). -/
theorem State.evaluate_staysTripped {a : Attribute} (ht : s.target z (s.readings z) = .tripped a)
    (hs : (s.readings z).state = .tripped) : s.evaluate z e =
      (if (s.readings z).attr = some a then s.setZone z (s.readings z)
      else if a = .live then s.upgradeZone z (s.readings z)
      else s.downgradeZone z (s.readings z)).growZone z e := by
  unfold State.evaluate
  simp only [he, hu, Bool.not_true, Bool.or_false, Bool.false_eq_true, if_false, ht, hs, beq_iff_eq]
  cases a <;> rfl

/-- A zone TRIPPED before and after its evaluation requests each position that entered (R94). -/
theorem State.growZone_evaluated {a : Attribute} (ht : s.target z (s.readings z) = .tripped a)
    (hs : (s.readings z).state = .tripped) {u : State} (h : u.zones = (s.evaluate z []).zones) :
    u.growZone z e = u.requestAll e ⟨.zone, z⟩ a := by
  have hzone : u.zone z = s.evaluated z := by
    rw [State.zone, h, State.evaluate_zones_eq [] he hu]
    refine (item_put_self s.zones (.fresh [] []) (s.evaluated z) z).resolve_right fun hnone => ?_
    exact absurd ((congrArg Zone.state hnone.1).symm.trans hs) (by decide)
  obtain ⟨hstate, hattr⟩ := State.evaluated_tripped ht
  exact State.growZone_tripped (hzone ▸ hstate) (hzone ▸ hattr) e

/-- No upgrade: no trip is announced, and the positions that entered alone are requested (R94). -/
theorem State.evaluate_keptTripped {a : Attribute} (ht : s.target z (s.readings z) = .tripped a)
    (hs : (s.readings z).state = .tripped) (ha : (s.readings z).attr = some a ∨ a = .dry) :
    s.evaluate z e = State.requestAll { s with zones := (s.evaluate z []).zones } e ⟨.zone, z⟩ a := by
  rw [← State.growZone_evaluated e he hu ht hs (by rfl), State.evaluate_staysTripped e he hu ht hs,
    State.evaluate_zones_eq [] he hu, State.evaluated, ht, Zone.moveTo, if_pos hs]
  split
  · rfl
  · next hne =>
    obtain rfl := ha.resolve_left hne
    rfl

/-- An upgrade trips anew, and then requests the positions that entered. -/
theorem State.evaluate_upgraded (ht : s.target z (s.readings z) = .tripped .live)
    (hs : (s.readings z).state = .tripped) (ha : (s.readings z).attr ≠ some .live) :
    s.evaluate z e = (s.announceTrip z .live (s.evaluate z []).zones).requestAll e ⟨.zone, z⟩ .live := by
  have hzones : (s.announceTrip z .live (s.evaluate z []).zones).zones = (s.evaluate z []).zones := by
    unfold State.announceTrip
    dsimp only
    split <;> simp
  rw [← State.growZone_evaluated e he hu ht hs hzones, State.evaluate_staysTripped e he hu ht hs, if_neg ha, if_pos rfl,
    State.evaluate_zones_eq [] he hu, State.evaluated, ht, Zone.moveTo, if_pos hs, if_neg ha]
  exact congrArg (fun u : State => u.growZone z e) (State.setZone_trip (by rfl) .live)

end Targets

/-- Settles O32: by the target, and for TRIPPED by whether the zone was TRIPPED before. -/
theorem evaluationPostsAndRequests : Obligations.EvaluationPostsAndRequests := by
  intro s z e hu he hz hl
  dsimp only
  cases ht : s.target z (s.readings z) with
  | quiet => exact State.evaluate_quiet e he hu ht
  | alert r => exact State.evaluate_alert e he hu ht
  | tripped a =>
    dsimp only
    by_cases hs : (s.readings z).state = .tripped
    · rw [if_neg (not_not.mpr hs)]
      split
      · next ha => exact State.evaluate_keptTripped e he hu ht hs ha
      · next ha =>
        obtain ⟨hne, hlive⟩ := not_or.mp ha
        cases a with
        | live => exact State.evaluate_upgraded e he hu ht hs hne
        | dry => exact absurd rfl hlive
    · rw [if_pos hs]
      exact State.evaluate_enterTripped e he hu ht hs

end Sys2Proof.Machine
end

section
/-! Where every order is LIVE the order unit and the record unit leave it so (R119): a LIVE request makes a LIVE order, an
upgrade goes to LIVE alone (R105), and a withdrawal of the DRY orders leaves none. -/

namespace Sys2Proof.Machine

open Wire

variable {s t u : State}

/-! ### The rule on orders -/

/-- Every order of the list is LIVE. -/
def State.ordersLive (s : State) : Prop := ∀ o ∈ s.orders, o.attr = .live

theorem State.control_of_apart (h : t.apart = s.apart) : t.control = s.control :=
  (congrArg (fun u : State => u.control) h :)

/-- From `s` to `t` the order unit and the record unit alone have changed, and where all orders were LIVE they are. -/
structure OrdersStayLive (s t : State) : Prop where
  apart : t.apart = s.apart
  zones : t.zones = s.zones
  orders : s.ordersLive → t.ordersLive

namespace OrdersStayLive

theorem refl (s : State) : OrdersStayLive s s := ⟨rfl, rfl, id⟩

theorem trans (h : OrdersStayLive s t) (h' : OrdersStayLive t u) : OrdersStayLive s u :=
  ⟨h'.apart.trans h.apart, h'.zones.trans h.zones, h'.orders ∘ h.orders⟩

theorem foldl {α : Type} {f : State → α → State} (h : ∀ t x, OrdersStayLive t (f t x)) (l : List α) (s : State) :
    OrdersStayLive s (l.foldl f s) :=
  List.foldlRecOn (motive := OrdersStayLive s) l f (refl s) fun t ht x _ => ht.trans (h t x)

/-- Orders that were there already, or LIVE ones. -/
theorem of_orders (ha : t.apart = s.apart) (hz : t.zones = s.zones)
    (h : ∀ o ∈ t.orders, o.attr = .live ∨ ∃ q ∈ s.orders, q.attr = o.attr) : OrdersStayLive s t := by
  refine ⟨ha, hz, fun hs o ho => (h o ho).elim id ?_⟩
  rintro ⟨q, hq, hattr⟩
  exact hattr ▸ hs q hq

/-- The same orders. -/
theorem same (ha : t.apart = s.apart) (hz : t.zones = s.zones) (ho : t.orders = s.orders) : OrdersStayLive s t :=
  of_orders ha hz fun o h => .inr ⟨o, ho ▸ h, rfl⟩

end OrdersStayLive

/-! ### The order unit -/

@[simp] theorem State.closeRecord_orders (s : State) : s.closeRecord.orders = s.orders := by
  unfold State.closeRecord
  split
  · rfl
  · dsimp only
    split
    · split <;> rfl
    · rfl

/-- A departure takes the orders of its position off the list, where what it tells the record unit leaves them alone. -/
theorem State.depart_orders (s : State) (p : Index) {f : State → State} (h : ∀ u, (f u).orders = u.orders) :
    (s.depart p f).orders = s.orders.filter fun o => o.position != p := by
  unfold State.depart
  dsimp only
  rw [State.noteContent_orders]
  split
  · exact (State.closeRecord_orders _).trans (h _)
  · exact h _

namespace OrdersStayLive

/-- The order of a position changed in anything, LIVE or DRY as it was, or made LIVE. -/
theorem mapOrder (p : Index) {f : Order → Order} (h : ∀ o, (f o).attr = .live ∨ (f o).attr = o.attr) :
    OrdersStayLive s (s.mapOrder p f) := by
  refine of_orders rfl rfl fun o ho => ?_
  obtain ⟨q, hq, rfl⟩ := List.mem_map.mp ho
  split
  · exact (h q).imp_right fun hattr => ⟨q, hq, hattr.symm⟩
  · exact .inr ⟨q, hq, rfl⟩

theorem depart (p : Index) {f : State → State} (ha : KeepsApart f) (hz : KeepsZones f)
    (ho : ∀ u, (f u).orders = u.orders) : OrdersStayLive s (s.depart p f) := by
  refine of_orders (s.depart_apart p f ha) (s.depart_zones p hz) fun o hmem => .inr ⟨o, ?_, rfl⟩
  rw [s.depart_orders p ho] at hmem
  exact (List.mem_filter.mp hmem).1

theorem release (p : Index) : OrdersStayLive s (s.release p) :=
  depart p (fun u => u.recordRelease_apart p) (fun u => u.recordRelease_zones p) fun _ => rfl

theorem confirm (o : Order) : OrdersStayLive s (s.confirm o) := by
  have hconfirmed : OrdersStayLive s
      ((s.mapOrder o.position fun q => { q with stage := .confirmed }).recordConfirmation o.position) :=
    (mapOrder o.position (f := fun q => { q with stage := .confirmed }) fun _ => .inr rfl).trans (same rfl rfl rfl)
  unfold State.confirm
  dsimp only
  split
  · exact hconfirmed.trans (release o.position)
  · exact hconfirmed

theorem judgeOrder (p : Index) : OrdersStayLive s (s.judgeOrder p) := by
  unfold State.judgeOrder
  split
  · exact refl s
  · have hjudged : OrdersStayLive s (s.mapOrder p fun q => { q with supervised := !s.unsupervised p }) :=
      mapOrder p fun _ => .inr rfl
    dsimp only
    split
    · exact hjudged
    · split
      · split
        · exact hjudged.trans (confirm _)
        · exact hjudged
      · split
        · exact hjudged.trans (confirm _)
        · exact hjudged

theorem judgeAttached (p : Option Index) : OrdersStayLive s (s.judgeAttached p) := by
  cases p with
  | none => exact refl s
  | some p => exact judgeOrder p

/-- A LIVE order is created LIVE (R103). -/
theorem createOrder (p : Index) (c : Cause) : OrdersStayLive s (s.createOrder p c .live) := by
  unfold State.createOrder
  dsimp only
  refine OrdersStayLive.trans (of_orders ?_ ?_ fun o ho => ?_) (judgeOrder p)
  · rw [State.recordCreation_apart, if_pos (by rfl), State.setLockout_apart]
    rfl
  · rw [State.recordCreation_zones, if_pos (by rfl), State.setLockout_zones]
    rfl
  · rw [State.recordCreation_orders, if_pos (by rfl), State.setLockout_orders, State.energise_orders] at ho
    rcases List.mem_append.mp ho with hold | hnew
    · exact .inr ⟨o, hold, rfl⟩
    · exact .inl (by rw [List.mem_singleton.mp hnew]; rfl)

/-- An order is upgraded to LIVE (R105). -/
theorem upgradeOrder (p : Index) : OrdersStayLive s (s.upgradeOrder p) := by
  have hdriven {v : State} (h : OrdersStayLive s v) :
      OrdersStayLive s (((v.energise p).setLockout p).recordUpgrade p) :=
    h.trans (same (by simp) (by simp) (State.setLockout_orders _ p))
  exact (hdriven (mapOrder p fun _ => .inl rfl)).trans (judgeOrder p)

/-- A LIVE request (R103 to R105). -/
theorem requestOrder (p : Index) (c : Cause) : OrdersStayLive s (s.requestOrder p c .live) := by
  unfold State.requestOrder
  split
  · exact createOrder p c
  · have hjoined : OrdersStayLive s (s.mapOrder p fun q => q.addCause c) := mapOrder p fun _ => .inr rfl
    dsimp only
    split
    · exact hjoined.trans (upgradeOrder p)
    · exact hjoined

theorem requestAll (ps : List Index) (c : Cause) : OrdersStayLive s (s.requestAll ps c .live) :=
  foldl (fun _ p => requestOrder p c) ps s

theorem requestEdge (v p : Index) : OrdersStayLive s (s.requestEdge v p) := by
  unfold State.requestEdge
  split
  · exact requestOrder p _
  · exact same rfl rfl rfl

/-- A LIVE order's failure requests LIVE backups (R110). -/
theorem failOrder {o : Order} (h : s.ordersLive → o.attr = .live) : OrdersStayLive s (s.failOrder o) := by
  refine ⟨s.failOrder_apart o, s.failOrder_zones o, fun hs => ?_⟩
  have hfailed (k : Nat) : OrdersStayLive s (((s.mapOrder o.position fun q =>
      { q with stage := .failed, escalated := some (!o.testOnly) }).recordStage o.position .failed).post .orderFailed
        o.position k) :=
    (mapOrder o.position (f := fun q => { q with stage := .failed, escalated := some (!o.testOnly) })
      fun _ => .inr rfl).trans (same rfl rfl rfl)
  rw [State.ordersLive, State.failOrder, State.noteContent_orders]
  unfold State.escalate
  dsimp only
  split
  · exact (hfailed _).orders hs
  · rw [h hs]
    have hbackups (ps : List Index) := (hfailed Attribute.live.code).trans (requestAll ps ⟨.backup, o.position⟩)
    split
    · exact ((hbackups _).trans (mapOrder o.position (f := fun q => { q with remoteHeld := true })
        fun _ => .inr rfl)).orders hs
    · exact (hbackups _).orders hs

theorem stallOrder (o : Order) : OrdersStayLive s (s.stallOrder o) :=
  (mapOrder o.position (f := fun q => { q with stage := .stalled }) fun _ => .inr rfl).trans (same rfl rfl rfl)

end OrdersStayLive

/-- Of several positions whose orders depart, one after the other, none keeps an order. -/
theorem mem_orders_foldl_depart {f : Index → State → State} (h : ∀ p u, (f p u).orders = u.orders) (ps : List Index)
    (s : State) {o : Order} (ho : o ∈ (ps.foldl (fun t p => t.depart p (f p)) s).orders) :
    o ∈ s.orders ∧ o.position ∉ ps := by
  induction ps generalizing s with
  | nil => exact ⟨ho, List.not_mem_nil⟩
  | cons p ps ih =>
    obtain ⟨hmem, hout⟩ := ih (s.depart p (f p)) ho
    rw [s.depart_orders p (h p), List.mem_filter, bne_iff_ne] at hmem
    exact ⟨hmem.1, fun hp => (List.mem_cons.mp hp).elim hmem.2 hout⟩

/-- After the withdrawal of the DRY orders all are LIVE (R119). -/
theorem State.withdrawDry_ordersLive (s : State) : s.withdrawDry.ordersLive := by
  intro o ho
  obtain ⟨hmem, hout⟩ := mem_orders_foldl_depart (f := fun p u => u.recordWithdrawal p) (fun _ _ => rfl) _ s ho
  cases hattr : o.attr with
  | live => rfl
  | dry =>
    exact hout (List.mem_map.mpr ⟨o, List.mem_filter.mpr ⟨hmem, beq_iff_eq.mpr hattr⟩, rfl⟩) |>.elim

end Sys2Proof.Machine
end

section
/-! The rule on zones, orders and the test deadline (R85, R89, R97, R119, R153), with the zones named that no evaluation has
yet brought to the protection state; every evaluation keeps the rule, and takes its zone out of those that wait. -/

namespace Sys2Proof.Machine

open Wire

variable {s t u : State} {z : Index} {waits waits' : Index → Prop}

/-! ### The rule -/

/-- What the rule reads of a zone (R85). -/
def Zone.standing (q : Zone) : ZoneState × Option Attribute := (q.state, q.attr)

/-- A zone is neither LIVE nor DRY outside TRIPPED (R85). -/
def Zone.attrFits (q : Zone) : Prop := q.state ≠ .tripped → q.attr = none

/-- A zone may stand so in a protection state: not TRIPPED in OUT_OF_SERVICE (R89), DRY in TEST alone (R88). -/
def Zone.allowedIn (q : Zone) (p : Protection) : Prop :=
  (p = .outOfService → q.state ≠ .tripped) ∧ (p ≠ .test → q.attr ≠ some .dry)

/-- The rule, but for the zones that `waits` names, which may still stand as another protection state allowed. -/
structure State.agreesBut (s : State) (waits : Index → Prop) : Prop where
  attr : ∀ z ∈ upTo 8, (s.zone z).attrFits
  idle : ∀ z ∈ upTo 8, ¬ (s.control.state.evaluates = true ∧ s.usedZone z = true) → (s.zone z).state = .quiet
  allowed : ∀ z ∈ upTo 8, waits z ∨ (s.zone z).allowedIn s.control.state
  orders : s.control.state ≠ .test → s.ordersLive
  deadline : s.control.testDeadline.isSome = true ↔ s.control.state = .test

/-- Zones are evaluated but in STARTING and SETUP_FAULT (R97). -/
theorem Protection.evaluates_false {p : Protection} : p.evaluates = false ↔ p = .starting ∨ p = .setupFault := by
  cases p <;> decide

theorem State.zonesAgree_iff : s.zonesAgree ↔ s.agreesBut fun _ => False := by
  constructor
  · rintro ⟨hz, ho, hd⟩
    refine ⟨fun z h => (hz z h).1, fun z h hidle => ?_, fun z h => .inr (hz z h).2.2.2, ho, hd⟩
    obtain ⟨-, hunused, hstill, -⟩ := hz z h
    cases he : s.control.state.evaluates with
    | false => exact hstill (Protection.evaluates_false.mp he)
    | true => exact hunused (by simpa [he] using hidle)
  · rintro ⟨ha, hi, hw, ho, hd⟩
    refine ⟨fun z h => ⟨ha z h, fun hu => hi z h (by simp [hu]), fun hp => hi z h ?_, (hw z h).resolve_left id⟩, ho, hd⟩
    simp [Protection.evaluates_false.mpr hp]

/-- A QUIET zone may stand in any protection state. -/
theorem Zone.attrFits.allowed_of_quiet {q : Zone} (h : q.attrFits) (hq : q.state = .quiet) (p : Protection) :
    q.allowedIn p := by
  have hnone : q.attr = none := h (by simp [hq])
  exact ⟨fun _ => by simp [hq], fun _ => by simp [hnone]⟩

namespace State.agreesBut

theorem mono (h : s.agreesBut waits) (hw : ∀ z ∈ upTo 8, waits z → waits' z) : s.agreesBut waits' :=
  { h with allowed := fun z hz => (h.allowed z hz).imp_left (hw z hz) }

/-- With no zone waiting the rule is the whole one. -/
theorem zonesAgree (h : s.agreesBut waits) (hw : ∀ z ∈ upTo 8, ¬ waits z) : s.zonesAgree :=
  State.zonesAgree_iff.mpr (h.mono fun z hz hwz => hw z hz hwz)

/-- The rule reads the zones' standing, the topology group, the protection state, the deadline and the orders alone. -/
theorem congr (h : s.agreesBut waits) (hz : ∀ z ∈ upTo 8, (t.zone z).standing = (s.zone z).standing)
    (ht : t.settings.active.topology = s.settings.active.topology) (hc : t.control.state = s.control.state)
    (hd : t.control.testDeadline.isSome = s.control.testDeadline.isSome) (ho : s.ordersLive → t.ordersLive) :
    t.agreesBut waits := by
  have hstate (z : Index) (h8 : z ∈ upTo 8) : (t.zone z).state = (s.zone z).state := congrArg Prod.fst (hz z h8)
  have hattr (z : Index) (h8 : z ∈ upTo 8) : (t.zone z).attr = (s.zone z).attr := congrArg Prod.snd (hz z h8)
  refine ⟨fun z h8 => ?_, fun z h8 => ?_, fun z h8 => ?_, fun hp => ho (h.orders (hc ▸ hp)), ?_⟩
  · rw [Zone.attrFits, hstate z h8, hattr z h8]
    exact h.attr z h8
  · rw [State.usedZone, ht, hc, hstate z h8]
    exact h.idle z h8
  · rw [Zone.allowedIn, hstate z h8, hattr z h8, hc]
    exact h.allowed z h8
  · rw [hd, hc]
    exact h.deadline

/-- What the order unit does keeps the rule, all orders staying LIVE where they were. -/
theorem ordersStayLive (h : s.agreesBut waits) (ho : OrdersStayLive s t) : t.agreesBut waits := by
  have hc := State.control_of_apart ho.apart
  exact h.congr (fun z _ => by rw [State.zone, State.zone, ho.zones]) (by rw [State.settings_of_apart ho.apart])
    (by rw [hc]) (by rw [hc]) ho.orders

end State.agreesBut

/-! ### An evaluation (R89 to R91) -/

/-- No evaluation leaves a zone LIVE or DRY outside TRIPPED (R92, R95). -/
theorem State.evaluated_attrFits (h : (s.zone z).attrFits) : (s.evaluated z).attrFits := by
  cases ht : s.target z (s.readings z) with
  | quiet =>
    rw [State.evaluated, ht, Zone.moveTo]
    split
    · exact h
    · exact fun _ => rfl
  | alert r =>
    rw [State.evaluated, ht, Zone.moveTo]
    split
    · exact h
    · exact fun _ => rfl
  | tripped a => exact fun hs => absurd (State.evaluated_tripped ht).1 hs

/-- The record an evaluation leaves is TRIPPED where its target is. -/
theorem State.evaluated_state_ne {s : State} {z : Index} (h : ∀ a, s.target z (s.readings z) ≠ .tripped a) :
    (s.evaluated z).state ≠ .tripped := by
  cases ht : s.target z (s.readings z) with
  | quiet =>
    rw [State.evaluated, ht, Zone.moveTo]
    split
    · next hq => rw [hq]; decide
    · exact fun h => ZoneState.noConfusion h
  | alert r =>
    rw [State.evaluated, ht, Zone.moveTo]
    split
    · next hq => exact fun h => ZoneState.noConfusion (hq.symm.trans h)
    · exact fun h => ZoneState.noConfusion h
  | tripped a => exact absurd ht (h a)

/-- The record an evaluation leaves is one that the protection state allows. -/
theorem State.evaluated_allowed (h : (s.zone z).attrFits) : (s.evaluated z).allowedIn s.control.state := by
  by_cases ht : ∃ a, s.target z (s.readings z) = .tripped a
  · obtain ⟨a, ht⟩ := ht
    obtain ⟨hservice, hdry⟩ := State.target_tripped ht
    refine ⟨fun hp => absurd hp hservice, fun hp hd => hp (hdry ?_)⟩
    exact Option.some.inj ((State.evaluated_tripped ht).2.symm.trans hd)
  · have hstate := State.evaluated_state_ne (not_exists.mp ht)
    have hnone := State.evaluated_attrFits h hstate
    exact ⟨fun _ => hstate, fun _ => by simp [hnone]⟩

/-- A trip that is LIVE outside TEST makes LIVE orders alone. -/
theorem State.announceTrip_ordersLive {a : Attribute} (h : a = .live) (zones : List Zone) (hs : s.ordersLive) :
    (s.announceTrip z a zones).ordersLive := by
  subst h
  unfold State.announceTrip
  dsimp only
  split
  · exact hs
  · exact (OrdersStayLive.requestAll _ _).orders hs

/-- Outside TEST an evaluation requests LIVE orders alone (R88, R93). -/
theorem State.evaluate_ordersLive (e : List Index) (hp : s.control.state ≠ .test) (hs : s.ordersLive) :
    (s.evaluate z e).ordersLive := by
  by_cases hi : s.control.state.evaluates = true ∧ s.usedZone z = true
  · obtain ⟨he, hu⟩ := hi
    cases ht : s.target z (s.readings z) with
    | quiet =>
      rw [State.evaluate_quiet e he hu ht]
      exact hs
    | alert r =>
      rw [State.evaluate_alert e he hu ht]
      exact hs
    | tripped a =>
      have hlive : a = .live := by
        cases a with
        | live => rfl
        | dry => exact absurd ((State.target_tripped ht).2 rfl) hp
      by_cases hq : (s.readings z).state = .tripped
      · by_cases ha : (s.readings z).attr = some a
        · rw [State.evaluate_keptTripped e he hu ht hq (.inl ha), hlive]
          exact (OrdersStayLive.requestAll _ _).orders hs
        · subst hlive
          rw [State.evaluate_upgraded e he hu ht hq ha]
          exact (OrdersStayLive.requestAll _ _).orders (State.announceTrip_ordersLive rfl _ hs)
      · rw [State.evaluate_enterTripped e he hu ht hq]
        exact State.announceTrip_ordersLive hlive _ hs
  · rwa [s.evaluate_idle e hi]

namespace State.agreesBut

/-- An evaluated zone waits no more. -/
theorem evaluate (h : s.agreesBut waits) (z : Index) (e : List Index) :
    (s.evaluate z e).agreesBut fun y => waits y ∧ y ≠ z := by
  have hapart := s.evaluate_apart z e
  have hc := State.control_of_apart hapart
  by_cases hi : s.control.state.evaluates = true ∧ s.usedZone z = true
  · -- Each zone stands as before, or it is the one evaluated and the protection state allows it.
    have hzone (y : Index) (h8 : y ∈ upTo 8) : y ≠ z ∧ (s.evaluate z e).zone y = s.zone y ∨
        ((s.evaluate z e).zone y).attrFits ∧ ((s.evaluate z e).zone y).allowedIn s.control.state := by
      rcases eq_or_ne y z with rfl | hne
      · refine .inr ?_
        rw [State.zone, s.evaluate_zones_eq e hi.1 hi.2]
        rcases item_put_self s.zones (.fresh [] []) (s.evaluated y) y with hq | ⟨-, hq⟩
        · rw [hq]
          exact ⟨State.evaluated_attrFits (h.attr y h8), State.evaluated_allowed (h.attr y h8)⟩
        · have hfresh : (Zone.fresh [] []).attrFits := fun _ => rfl
          rw [hq]
          exact ⟨hfresh, hfresh.allowed_of_quiet rfl _⟩
      · exact .inl ⟨hne, State.evaluate_other e hne⟩
    have hused (y : Index) : (s.evaluate z e).usedZone y = s.usedZone y := by
      rw [State.usedZone, State.usedZone, State.settings_of_apart hapart]
    refine ⟨fun y h8 => ?_, fun y h8 hidle => ?_, fun y h8 => ?_, fun hp => ?_, hc ▸ h.deadline⟩
    · rcases hzone y h8 with ⟨-, hy⟩ | hy
      · exact hy ▸ h.attr y h8
      · exact hy.1
    · rw [hc, hused] at hidle
      have hne : y ≠ z := fun hy => hidle (hy ▸ hi)
      rw [State.evaluate_other e hne]
      exact h.idle y h8 hidle
    · rw [hc]
      rcases hzone y h8 with ⟨hne, hy⟩ | hy
      · rw [hy]
        exact (h.allowed y h8).imp_left fun hw => ⟨hw, hne⟩
      · exact .inr hy.2
    · rw [hc] at hp
      exact State.evaluate_ordersLive e hp (h.orders hp)
  · rw [s.evaluate_idle e hi]
    refine { h with allowed := fun y h8 => ?_ }
    rcases eq_or_ne y z with rfl | hne
    · exact .inr ((h.attr y h8).allowed_of_quiet (h.idle y h8 hi) _)
    · exact (h.allowed y h8).imp_left fun hw => ⟨hw, hne⟩

theorem noteContent (h : t.agreesBut waits) (s : State) : (s.noteContent t).agreesBut waits :=
  h.ordersStayLive (.same (by simp) (by simp) (by simp))

/-- Of several zones evaluated one after the other none waits any more. -/
theorem foldl_evaluateNoted (h : s.agreesBut waits) (zs : List Index) (e : Index → List Index) :
    (zs.foldl (fun t z => t.evaluateNoted z (e z)) s).agreesBut fun y => waits y ∧ y ∉ zs := by
  induction zs generalizing s waits with
  | nil => exact h.mono fun y _ hw => ⟨hw, List.not_mem_nil⟩
  | cons z zs ih =>
    refine (ih ((h.evaluate z (e z)).noteContent s)).mono fun y _ hw => ?_
    obtain ⟨⟨hw, hne⟩, hmem⟩ := hw
    exact ⟨hw, by simp [hne, hmem]⟩

/-- With every used zone evaluated none waits (R97). -/
theorem evaluateAll (h : s.agreesBut waits) : s.evaluateAll.zonesAgree := by
  refine (h.foldl_evaluateNoted ((inOrder s.sched.zones 8).filter fun _ => true) fun _ => []).zonesAgree
    fun z hz hw => hw.2 ?_
  exact List.mem_filter.mpr ⟨mem_inOrder _ hz, rfl⟩

end State.agreesBut

/-! ### What keeps the rule -/

/-- What is proved of every operation: with the rule before it, the rule holds after it. -/
def KeepsAgreement (s t : State) : Prop := s.zonesAgree → t.zonesAgree

namespace KeepsAgreement

theorem refl (s : State) : KeepsAgreement s s := id

theorem trans (h : KeepsAgreement s t) (h' : KeepsAgreement t u) : KeepsAgreement s u := h' ∘ h

theorem foldl {α : Type} {f : State → α → State} (h : ∀ t x, KeepsAgreement t (f t x)) (l : List α) (s : State) :
    KeepsAgreement s (l.foldl f s) :=
  List.foldlRecOn (motive := KeepsAgreement s) l f (refl s) fun t ht x _ => ht.trans (h t x)

theorem ite {p : Prop} [Decidable p] (ht : KeepsAgreement s t) (hu : KeepsAgreement s u) :
    KeepsAgreement s (if p then t else u) := by
  split
  · exact ht
  · exact hu

theorem of_orders (h : OrdersStayLive s t) : KeepsAgreement s t := fun hs =>
  State.zonesAgree_iff.mpr ((State.zonesAgree_iff.mp hs).ordersStayLive h)

/-- Zones built by number that stand as they stood: sets replaced (R66). -/
theorem zones_replaced {f : Index → Zone} (h : ∀ z, (f z).standing = (s.zone z).standing) :
    KeepsAgreement s { s with zones := (upTo 8).map f } := by
  intro hs
  refine State.zonesAgree_iff.mpr ((State.zonesAgree_iff.mp hs).congr (fun z hz => ?_) rfl rfl rfl id)
  have hzone : ({ s with zones := (upTo 8).map f } : State).zone z = f z := item_map_upTo f _ hz
  rw [hzone]
  exact h z

/-- Zones evaluated one after the other (R90). -/
theorem foldl_evaluateNoted (zs : List Index) (e : Index → List Index) :
    KeepsAgreement s (zs.foldl (fun t z => t.evaluateNoted z (e z)) s) := fun hs =>
  ((State.zonesAgree_iff.mp hs).foldl_evaluateNoted zs e).zonesAgree fun _ _ hw => hw.1

theorem evaluateWhere (w : Index → Bool) : KeepsAgreement s (s.evaluateWhere w) := foldl_evaluateNoted _ fun _ => []

theorem handOver (s t : State) : KeepsAgreement t (s.handOver t) := foldl_evaluateNoted _ _

end KeepsAgreement

end Sys2Proof.Machine
end

section
/-! The operations that several commands share keep the rule on zones, orders and the test deadline: those that change
none of what it reads, those that end in evaluations, changes of protection state, the staged application, a restart. -/

namespace Sys2Proof.Machine

open Wire

variable {s t u : State}

/-! ### What the rule reads -/

/-- All that the rule reads: the zones, the topology group, the protection state, whether a test deadline is held, the
orders. -/
def State.agreementView (s : State) : List Zone × TopologySettings × Protection × Bool × List Order :=
  (s.zones, s.settings.active.topology, s.control.state, s.control.testDeadline.isSome, s.orders)

namespace KeepsAgreement

theorem of_view (h : t.agreementView = s.agreementView) : KeepsAgreement s t := by
  simp only [State.agreementView, Prod.mk.injEq] at h
  obtain ⟨hz, ht, hc, hd, ho⟩ := h
  intro hs
  refine State.zonesAgree_iff.mpr ((State.zonesAgree_iff.mp hs).congr (fun z _ => ?_) ht hc hd fun hl => ?_)
  · rw [State.zone, State.zone, hz]
  · rw [State.ordersLive, ho]
    exact hl

theorem advanceTo (s : State) (d : Instant) : KeepsAgreement s (s.advanceTo d) := by
  rw [s.advanceTo_eq d]
  exact of_view rfl

theorem noteContent (s t : State) : KeepsAgreement t (s.noteContent t) := by
  rw [s.noteContent_eq t]
  exact of_view rfl

theorem settle (s t : State) : KeepsAgreement t (settle s t) := by
  rw [settle_eq]
  exact of_view rfl

theorem clearLockouts (s : State) (ps : List Index) : KeepsAgreement s (s.clearLockouts ps) :=
  ite (of_view rfl) (refl s)

/-! ### Channels, points, sets and positions -/

/-- A channel's zones evaluated if its contribution to light has changed (R12). -/
theorem handChannel (s t : State) (n : Index) : KeepsAgreement t (s.handChannel t n) :=
  ite ((noteContent s t).trans (evaluateWhere _)) (refl t)

/-- A channel replaced, whatever is posted with it, and handed over. -/
theorem handChanged (n : Index) (h : t.agreementView = s.agreementView) : KeepsAgreement s (s.handChannel t n) :=
  (of_view h).trans (handChannel s t n)

/-- A point handed over (R48, R49). -/
theorem handPoint (s t : State) (m : Index) : KeepsAgreement t (s.handPoint t m) := by
  have judged (c : Bool) : KeepsAgreement t (if c then t.judgeAttached (s.pointSet m).attached else t) :=
    ite (of_orders (.judgeAttached _)) (refl t)
  exact ite ((judged _).trans (evaluateWhere _)) (judged _)

theorem replaceSets (s : State) : KeepsAgreement s s.replaceSets := by
  refine zones_replaced fun z => ?_
  unfold State.resetZone
  dsimp only
  split <;> rfl

theorem recompute (s : State) : KeepsAgreement s s.recompute := (replaceSets s).trans (handOver s _)

theorem reconfirm (s : State) : KeepsAgreement s s.reconfirm := by
  refine (zones_replaced fun z => ?_).trans (handOver s _)
  unfold State.reconfirmZone
  dsimp only
  split <;> rfl

/-- A position's record replaced, and the position derived anew (R57). -/
theorem derive (s : State) (p : Index) : KeepsAgreement s (s.derive p) := by
  unfold State.derive
  exact ite (of_view rfl) (of_view rfl)

/-- A derivation with all its effects (R59). -/
theorem derivePosition (s : State) (p : Index) : KeepsAgreement s (s.derivePosition p) := by
  have judged (v : State) : KeepsAgreement v (v.judgeOrder p) := of_orders (.judgeOrder p)
  unfold State.derivePosition
  exact (derive s p).trans (ite (refl _) (ite ((judged _).trans (recompute _)) ((recompute _).trans (judged _))))

/-! ### The cross link (R132 to R138) -/

theorem handLinkInputs (s t : State) : KeepsAgreement t (s.handLinkInputs t) := evaluateWhere _

theorem takePeer (s : State) (p : Peer) (c : Content) : KeepsAgreement s (s.takePeer p c) := by
  have edges (ps : List Index) (v : State) : KeepsAgreement v (ps.foldl (fun v q => v.requestEdge p.unit q) v) :=
    foldl (fun _ q => of_orders (.requestEdge p.unit q)) ps v
  have heard : KeepsAgreement s (if p.state == .live then s else s.post .peerState p.unit PeerState.live.code) :=
    ite (refl s) (of_view rfl)
  have taken (f : Peer → Peer) := heard.trans (of_view (t := State.mapPeer _ p.unit f) rfl)
  unfold State.takePeer
  exact (taken _).trans (ite ((edges _ _).trans (handLinkInputs s _)) ((handLinkInputs s _).trans (edges _ _)))

theorem post (s : State) (k : NoticeKind) (a b : Nat) : KeepsAgreement s (s.post k a b) := of_view rfl

theorem mapLink (s : State) (f : Link → Link) : KeepsAgreement s (s.mapLink f) := of_view rfl

theorem countLink (s : State) (f : LinkCounters → LinkCounters) : KeepsAgreement s (s.countLink f) := of_view rfl

theorem takeDuplicate (s : State) : KeepsAgreement s s.takeDuplicate := by
  unfold State.takeDuplicate
  dsimp only
  refine KeepsAgreement.trans (ite (countLink s _) ?_) (mapLink _ _)
  exact ((countLink s _).trans (post _ _ _ _)).trans (mapLink _ _)

theorem judgeTelegram (s : State) (bits : List Bit) : KeepsAgreement s (s.judgeTelegram bits) := by
  unfold State.judgeTelegram
  refine ite (countLink s _) (ite (countLink s _) (ite (takeDuplicate s) ?_))
  split
  · exact takePeer s _ _
  · exact countLink s _

theorem startBit (s : State) : KeepsAgreement s s.startBit := by
  have hadv : KeepsAgreement s s.toStartBit := advanceTo s _
  unfold State.startBit
  dsimp only
  split
  · exact hadv.trans (mapLink _ _)
  · exact (hadv.trans (mapLink _ _)).trans (ite ((mapLink _ _).trans (countLink _ _)) (refl _))

/-! ### The protection state (R153) -/

/-- A change of protection state keeps the rule where zones are evaluated in the new one or were not in the old one: DRY
orders are withdrawn on leaving TEST, and every used zone is evaluated (R97, R159). -/
theorem changeState {new : Protection} (h : new.evaluates = true ∨ s.control.state.evaluates = false) :
    KeepsAgreement s (s.changeState new) := by
  intro hs
  obtain ⟨hattr, hidle, -, hlive, -⟩ := State.zonesAgree_iff.mp hs
  have entered (v : State) (hz : v.zones = s.zones) (hset : v.settings = s.settings) (hc : v.control.state = new)
      (hd : v.control.testDeadline.isSome = decide (new = .test)) (ho : v.ordersLive) :
      v.agreesBut fun _ => True := by
    have hzone (z : Index) : v.zone z = s.zone z := by rw [State.zone, State.zone, hz]
    refine ⟨fun z h8 => hzone z ▸ hattr z h8, fun z h8 hi => ?_, fun _ _ => .inl trivial, fun _ => ho, by simp [hd, hc]⟩
    rw [hc, State.usedZone, hset] at hi
    refine hzone z ▸ hidle z h8 fun hold => hi ⟨h.resolve_right ?_, hold.2⟩
    simp [hold.1]
  have deadline : (if new = .test then some (s.clock + Config.testSpan) else none).isSome = decide (new = .test) := by
    split <;> simp [*]
  unfold State.changeState
  dsimp only
  refine State.agreesBut.evaluateAll (waits := fun _ => True) ?_
  split
  · have hapart := State.withdrawDry_apart
    refine entered _ ((State.withdrawDry_zones _).trans (by rfl))
      ((State.settings_of_apart (hapart _)).trans (by rfl)) ?_ ?_ (State.withdrawDry_ordersLive _)
    · rw [State.control_of_apart (hapart _)]
      rfl
    · rw [State.control_of_apart (hapart _)]
      exact deadline
  · next hold => exact entered _ rfl rfl rfl deadline (hlive hold)

/-! ### The staged application (R167 to R169) -/

theorem tryChannel (s : State) (n : Index) : KeepsAgreement s (s.tryChannel n) := ite (handChanged n rfl) (refl s)

theorem takePoint (s : State) (m : Index) : KeepsAgreement s (s.takePoint m) := by
  have judged (v : State) (p : Option Index) : KeepsAgreement v (v.judgeAttached p) := of_orders (.judgeAttached p)
  have happly (v : State) (new : PointSettings) : KeepsAgreement v (v.applyPoint m new) := by
    unfold State.applyPoint
    refine ite (of_view (by rfl)) (ite ?_ ?_)
    · exact (of_view (by rfl)).trans (((judged _ _).trans (judged _ _)).trans (reconfirm _))
    · exact (of_view (by rfl)).trans (((reconfirm _).trans (judged _ _)).trans (judged _ _))
  exact (of_view (by rfl)).trans (happly _ _)

theorem tryPoint (s : State) (m : Index) : KeepsAgreement s (s.tryPoint m) := ite (takePoint s m) (refl s)

/-- Where every zone is QUIET it does not matter which of them a new topology group makes unused. -/
theorem applyTopology (hq : ∀ z ∈ upTo 8, (s.zone z).state = .quiet) (new : TopologySettings) :
    KeepsAgreement s (s.applyTopology new) := by
  intro hs
  have h := State.zonesAgree_iff.mp hs
  have hnew : (s.mapActive fun c => { c with topology := new }).zonesAgree :=
    State.zonesAgree_iff.mpr ⟨h.attr, fun z h8 _ => hq z h8, h.allowed, h.orders, h.deadline⟩
  have hderived (v : State) : KeepsAgreement v ((upTo 8).foldl (State.rederive s.settings.active.topology) v) :=
    foldl (fun t p => (of_view (by rfl)).trans (derive (t.setPosition p _) p)) _ v
  have hall (v : State) : KeepsAgreement v v.replaceSets.evaluateAll := (replaceSets v).trans (evaluateWhere _)
  exact hall _ (hderived _ hnew)

/-- The topology group's safe point is one at which every zone is QUIET (R168); so it is in SETUP_FAULT (R169, R97). -/
theorem tryTopology (s : State) : KeepsAgreement s s.tryTopology := by
  unfold State.tryTopology
  split
  · next hsafe =>
    intro hs
    refine ((of_view (by rfl)).trans (applyTopology (s := s.mapWaiting _) (fun z h8 => ?_) _)) hs
    show (s.zone z).state = .quiet
    have hsafe := (Bool.and_eq_true_iff.mp hsafe).2
    simp only [State.topologySafe, Bool.or_eq_true, Bool.and_eq_true, List.all_eq_true, beq_iff_eq] at hsafe
    rcases hsafe with hfault | ⟨hall, -⟩
    · refine (State.zonesAgree_iff.mp hs).idle z h8 fun hi => ?_
      rw [eq_of_beq hfault] at hi
      exact Bool.noConfusion hi.1
    · exact hall z h8
  · exact refl s

theorem tryLink (s : State) : KeepsAgreement s s.tryLink := by
  have posts (l : List Index) (v : State) :
      KeepsAgreement v (l.foldl (fun u n => u.post .peerState n PeerState.waiting.code) v) :=
    foldl (f := fun u n => State.post u .peerState n PeerState.waiting.code) (fun _ _ => of_view (by rfl)) l v
  have happly (v : State) (new : LinkSettings) : KeepsAgreement v (v.applyLink new) := by
    unfold State.applyLink
    exact (of_view (by rfl)).trans ((posts _ _).trans (handLinkInputs v _))
  exact ite ((of_view (by rfl)).trans (happly _ _)) (refl s)

theorem tryStation (s : State) : KeepsAgreement s s.tryStation := ite (of_view (by rfl)) (refl s)

theorem dropImage (s : State) : KeepsAgreement s s.dropImage := ite (refl s) (of_view (by rfl))

/-- SETUP_FAULT is left for IN_SERVICE with the last part (R161). -/
theorem applyDone (s : State) : KeepsAgreement s s.applyDone := by
  have hdone : KeepsAgreement s (({ s with settings := { s.settings with doneOwed := false } } : State).post
      .applyDone 0 s.settings.serial).dropImage := (of_view (by rfl)).trans (dropImage _)
  unfold State.applyDone
  exact ite (hdone.trans (changeState (.inl rfl))) hdone

theorem finishApply (before s : State) : KeepsAgreement s (before.finishApply s) := ite (applyDone s) (refl s)

theorem forgetCaptured (s : State) (which : Index → Bool) : KeepsAgreement s (s.forgetCaptured which) :=
  foldl (f := fun t n => State.setChannel t n { t.channel n with captured := none }) (fun _ _ => of_view (by rfl)) _ s

theorem acceptCommit (s : State) : KeepsAgreement s s.acceptCommit := by
  -- The parts at their safe points, then APPLY_DONE if none waits.
  have parts (v : State) : KeepsAgreement v
      ((upTo 4).foldl State.tryPoint ((upTo 16).foldl State.tryChannel v)).tryTopology.tryLink :=
    ((foldl tryChannel _ v).trans (foldl tryPoint _ _)).trans ((tryTopology _).trans (tryLink _))
  have done (v : State) : KeepsAgreement v (if v.applying then v
      else if v.sched.doneAfterReply then { v with settings := { v.settings with doneOwed := true } }
      else v.applyDone) := ite (refl v) (ite (of_view (by rfl)) (applyDone v))
  unfold State.acceptCommit
  exact (((of_view (by rfl)).trans (forgetCaptured _ _)).trans (parts _)).trans (done _)

/-! ### The store and the restart (R154, R170 to R172) -/

theorem endWrite (s : State) (c : WriteContent) (o : WriteOutcome) : KeepsAgreement s (s.endWrite c o) := by
  have good (v : State) : KeepsAgreement v (v.storeGood c) := by cases c <;> exact of_view (by rfl)
  have bad (v : State) : KeepsAgreement v (v.storeBad c) := by cases c <;> exact of_view (by rfl)
  cases o with
  | verified => exact ((of_view (by rfl)).trans (good s.freeStore)).trans (of_view (by rfl))
  | corrupted => exact ((of_view (by rfl)).trans (bad s.freeStore)).trans (of_view (by rfl))
  | unchanged => exact of_view (by rfl)

theorem chooseWrite (s : State) : KeepsAgreement s s.chooseWrite := by
  unfold State.chooseWrite
  refine ite (of_view (by rfl)) ?_
  split
  · exact of_view (by rfl)
  · exact ite ((of_view (by rfl)).trans (dropImage _)) (refl s)

/-- Without supply no order stands (R154). -/
theorem losePower (s : State) : KeepsAgreement s s.losePower := by
  have hcut : s.cutWrites.agreementView = s.agreementView := by
    have cut (v : State) (c : WriteContent) : (v.cutOff c).agreementView = v.agreementView := by
      have bad : (v.storeBad c).agreementView = v.agreementView := by cases c <;> rfl
      unfold State.cutOff
      split
      · split
        · exact bad
        · rfl
      · exact bad
      · exact bad
    unfold State.cutWrites
    dsimp only
    split
    · rfl
    · exact cut _ _
  refine (of_view hcut).trans fun hs => ?_
  refine State.zonesAgree_iff.mpr ((State.zonesAgree_iff.mp hs).congr (fun _ _ => rfl) rfl rfl rfl ?_)
  exact fun _ o ho => absurd ho List.not_mem_nil

/-- A restart begins in STARTING with every zone QUIET and no order (R85, R124, R153). -/
theorem restart (s t : State) (cause : ResetCause) : KeepsAgreement s (t.restart cause) := by
  have hzone (z : Index) (h8 : z ∈ upTo 8) : ∃ cs ms, (t.restart cause).zone z = .fresh cs ms :=
    ⟨_, _, item_map_upTo (fun z => Zone.fresh ((t.restart cause).clearingSet z)
      ((t.restart cause).confirmationSet ((t.restart cause).clearingSet z))) _ h8⟩
  have hfresh (cs ms : List Index) : (Zone.fresh cs ms).attrFits := fun _ => rfl
  refine fun _ => State.zonesAgree_iff.mpr ⟨fun z h8 => ?_, fun z h8 _ => ?_, fun z h8 => .inr ?_, fun _ o ho => ?_, ?_⟩
  · obtain ⟨cs, ms, hz⟩ := hzone z h8
    exact hz ▸ hfresh cs ms
  · obtain ⟨cs, ms, hz⟩ := hzone z h8
    rw [hz]
    rfl
  · obtain ⟨cs, ms, hz⟩ := hzone z h8
    exact hz ▸ (hfresh cs ms).allowed_of_quiet rfl _
  · exact absurd ho List.not_mem_nil
  · exact ⟨fun h => Bool.noConfusion h, fun h => Protection.noConfusion h⟩

theorem resetPart (s : State) (cause : ResetCause) : KeepsAgreement s (s.resetPart cause) :=
  restart s s.completeWrites cause

end KeepsAgreement

end Sys2Proof.Machine
end

section
/-! Every command keeps the rule on zones, orders and the test deadline, and so does every step. Most commands change
nothing that the rule reads; the others go through the shared operations. -/

namespace Sys2Proof.Machine

open Wire

variable {s : State}

/-- Whatever next state is answered, the rule on zones, orders and the test deadline holds in it if it held before. -/
def AnswersAgreement (s : State) (o : Host.Outcome State Fault Refusal) : Prop := ∀ t, o = .next t → KeepsAgreement s t

namespace AnswersAgreement

theorem next {t : State} (h : KeepsAgreement s t) : AnswersAgreement s (.next t) := by
  intro u hu
  cases hu
  exact h

/-- A command keeps what its effect keeps. -/
theorem conclude {f : State → State} (h : KeepsAgreement s (f s)) : AnswersAgreement s (conclude s f) := by
  unfold Machine.conclude
  split
  · exact next (h.trans (.settle s _))
  · exact next (.refl s)

/-- A command whose effect changes nothing that the rule reads. -/
theorem unread {f : State → State} (h : (f s).agreementView = s.agreementView) :
    AnswersAgreement s (Machine.conclude s f) := conclude (.of_view h)

end AnswersAgreement

namespace KeepsAgreement

/-- Time passes, and the link controller changes (R127, R128). -/
theorem mapLink_advanceTo (s : State) (d : Instant) (f : Link → Link) : KeepsAgreement s ((s.advanceTo d).mapLink f) :=
  (advanceTo s d).trans (mapLink _ f)

/-- An order's timer runs out (R108, R110, R115). -/
theorem orders_advanceTo (s : State) (d : Instant) {t : State} (h : OrdersStayLive (s.advanceTo d) t) :
    KeepsAgreement s t := (advanceTo s d).trans (of_orders h)

/-- One channel's sample (R4). -/
theorem sampleChannel (s : State) (n : Index) (raw : Nat) : KeepsAgreement s (s.sampleChannel n raw) := by
  have hnote (t : State) (l : Nat) : KeepsAgreement t (s.noteSteady t n l) := ite (of_view rfl) (refl t)
  have hset (c : Channel) : KeepsAgreement s (s.setChannel n c) := of_view rfl
  have hopen : KeepsAgreement s (s.sampleOpen n raw) :=
    ite (hset _) (((hset _).trans (hnote _ _)).trans (handChannel s _ n))
  unfold State.sampleChannel
  refine ite (refl s) ?_
  dsimp only
  split
  · exact hset _
  · exact hset _
  · exact hopen

/-- A position's record replaced at some instant, and derived anew (R56, R58). -/
theorem setPosition_derivePosition (s : State) (d : Instant) (p : Index) (q : Position) :
    KeepsAgreement s (((s.advanceTo d).setPosition p q).derivePosition p) :=
  ((advanceTo s d).trans (of_view (by rfl))).trans (derivePosition _ p)

/-- What follows a reply's last byte (R168, R169, R179). -/
theorem afterReply (s : State) (restart : Bool) : KeepsAgreement s (s.afterReply restart) := by
  have hstation : KeepsAgreement s (s.finishApply s.tryStation) := (tryStation s).trans (finishApply s _)
  unfold State.afterReply
  exact ite (resetPart s _) (ite (hstation.trans (applyDone _)) hstation)

theorem endReply (s : State) : KeepsAgreement s s.endReply := by
  have hbegun : KeepsAgreement s (if s.port.transmitting then s else s.beginReply) :=
    ite (refl s) ((advanceTo s _).trans (of_view (by rfl)))
  unfold State.endReply
  exact hbegun.trans ((advanceTo _ _).trans (of_view (by rfl)))

theorem setPartTime (s : State) (v : Nat) : KeepsAgreement s (s.setPartTime v) := by
  unfold State.setPartTime
  exact of_view rfl

theorem broadcastTime (s : State) (body : List Byte) : KeepsAgreement s (s.broadcastTime body) :=
  ite (of_view rfl) (ite (ite (of_view rfl) (of_view rfl)) (setPartTime s _))

/-! ### Requests (R174, R175) -/

/-- An addressed request keeps what the owning block's act keeps: handling moves a test deadline (R158). -/
theorem request {kind : Nat} {body : List Byte} {act : State → Handled}
    (h : ∀ t, KeepsAgreement t (act t).state) : KeepsAgreement s (s.request kind body act) := by
  have hbegin : KeepsAgreement s s.beginHandling := by
    refine of_view ?_
    rw [State.beginHandling_eq]
    simp [State.agreementView]
  have hjudged : KeepsAgreement s (s.beginHandling.judgeRequest kind body act).state := by
    unfold State.judgeRequest
    split
    · exact hbegin
    · exact hbegin.trans (h _)
  unfold State.request State.takeFrame
  exact ite (refl s) (ite (of_view rfl) (hjudged.trans (of_view rfl)))

/-- An accepted request keeps what its effect keeps. -/
theorem accept {t : State} (h : KeepsAgreement s t) (body : List Byte) :
    KeepsAgreement s (Machine.accept t body).state := h

/-- Both of an act's answers keep the rule. -/
theorem handled_ite {c : Prop} [Decidable c] {a b : Handled} (ha : KeepsAgreement s a.state)
    (hb : KeepsAgreement s b.state) : KeepsAgreement s (if c then a else b).state := by
  split
  · exact ha
  · exact hb

end KeepsAgreement

namespace AnswersAgreement

/-- A request's command keeps what the act keeps. -/
theorem request {kind : Nat} {body : List Byte} {act : State → State → Handled}
    (h : ∀ t, KeepsAgreement t (act s t).state) :
    AnswersAgreement s (Machine.conclude s fun s => s.request kind body (act s)) :=
  conclude (.request h)

/-- A request that only reads keeps everything. -/
theorem read {kind : Nat} {body : List Byte} {answer : State → State → List Byte} :
    AnswersAgreement s (Machine.conclude s fun s => s.request kind body fun t => Machine.accept t (answer s t)) :=
  .request (act := fun s t => Machine.accept t (answer s t)) fun t => .refl t

end AnswersAgreement

variable (s)

/-! ### Power, reset and state control -/

theorem execPowerOn_agreement : AnswersAgreement s (execPowerOn s) := by
  unfold execPowerOn
  split
  · exact .conclude (.refl s)
  · exact .next (.restart s _ _)

theorem execPowerLoss_agreement : AnswersAgreement s (execPowerLoss s) := by
  unfold execPowerLoss
  split
  · exact .next (.losePower s)
  · exact .next (.refl s)

theorem execRestartTerminalChange_agreement (b : Bool) : AnswersAgreement s (execRestartTerminalChange b s) := by
  unfold execRestartTerminalChange
  split
  · exact .unread rfl
  · exact .next (.of_view rfl)

theorem execRestartTerminalPress_agreement : AnswersAgreement s (execRestartTerminalPress s) := by
  refine .conclude ?_
  split
  · exact .refl s
  · exact (KeepsAgreement.advanceTo s _).trans (.resetPart _ _)

theorem execRestartTerminalRelease_agreement : AnswersAgreement s (execRestartTerminalRelease s) := by
  refine .conclude ?_
  split
  · exact .refl s
  · exact (KeepsAgreement.advanceTo s _).trans (.of_view rfl)

/-- STARTING is left with every zone QUIET, be it for SETUP_FAULT (R155, R156). -/
theorem execStartingEnd_agreement : AnswersAgreement s (execStartingEnd s) := by
  refine .conclude ?_
  split
  · exact .refl s
  · next hstarting =>
    refine ((KeepsAgreement.advanceTo s _).trans (.recompute _)).trans (.changeState (.inr ?_))
    rw [State.control_of_apart (State.recompute_apart _), State.advanceTo_control]
    have hstate : s.control.state = .starting := by simpa using hstarting
    rw [hstate]
    rfl

theorem execTestTimeout_agreement : AnswersAgreement s (execTestTimeout s) := by
  refine .conclude ?_
  split
  · exact ((KeepsAgreement.advanceTo s _).trans (.of_view (by rfl))).trans (.changeState (.inl rfl))
  · exact .refl s

/-! ### Light front end and supervision -/

theorem execLightSample_agreement (raw : List Nat) : AnswersAgreement s (execLightSample raw s) :=
  .conclude (.ite (.refl s) (((KeepsAgreement.advanceTo s _).trans (.of_view (by rfl))).trans
    (.foldl (fun t n => .sampleChannel t n _) _ _)))

theorem execBackgroundUpdate_agreement : AnswersAgreement s (execBackgroundUpdate s) :=
  .conclude (.ite (.refl s) (.of_view rfl))

theorem execSupervisionSlot_agreement (n : Index) : AnswersAgreement s (execSupervisionSlot n s) := by
  have hslot : KeepsAgreement s (s.toSlot n) :=
    .ite (.advanceTo s _) ((KeepsAgreement.advanceTo s _).trans (.advanceTo _ _))
  exact .conclude (.ite (.refl s) (.ite (hslot.trans (.of_view rfl)) (.refl s)))

theorem execBurstEnd_agreement (n : Index) : AnswersAgreement s (execBurstEnd n s) := by
  have judged (t : State) : KeepsAgreement t (t.judgeHealth n) := .ite (.refl t) (.handChanged n rfl)
  refine .conclude ?_
  split
  · exact .refl s
  · exact .ite (.refl s) ((KeepsAgreement.of_view (by rfl)).trans (judged _))

theorem execCaptureBurstStart_agreement (n : Index) : AnswersAgreement s (execCaptureBurstStart n s) := by
  refine .conclude ?_
  split
  · exact .refl s
  · exact .ite ((KeepsAgreement.advanceTo s _).trans (.of_view rfl)) (.refl s)

theorem execCaptureEnd_agreement (n : Index) : AnswersAgreement s (execCaptureEnd n s) := by
  have judged (t : State) (candidate : Nat) : KeepsAgreement t (t.judgeCandidate n candidate) :=
    .ite (.of_view rfl) (.of_view rfl)
  refine .conclude ?_
  split
  · exact .refl s
  · exact .ite (.refl s) (((KeepsAgreement.advanceTo s _).trans (judged _ _)).trans (.of_view rfl))

/-! ### Current front end and position inputs -/

theorem execCurrentSample_agreement (samples : List Int) : AnswersAgreement s (execCurrentSample samples s) :=
  .conclude (.ite (.refl s) (((KeepsAgreement.advanceTo s _).trans (.of_view (by rfl))).trans
    (.foldl (fun t m => .handPoint _ t m) _ _)))

theorem execOcHoldExpiry_agreement (m : Index) : AnswersAgreement s (execOcHoldExpiry m s) :=
  .conclude (.ite ((KeepsAgreement.of_view (by rfl)).trans (.handPoint s _ m)) (.refl s))

theorem execCpClear_agreement (m : Index) : AnswersAgreement s (execCpClear m s) :=
  .conclude (.ite ((KeepsAgreement.of_view (by rfl)).trans (.handPoint s _ m)) (.refl s))

theorem execContactRawChange_agreement (p : Index) (c : Contact) (on : Bool) :
    AnswersAgreement s (execContactRawChange p c on s) := by
  unfold execContactRawChange
  split
  · exact .unread rfl
  · exact .next (.of_view rfl)

theorem execDebounceExpiry_agreement (p : Index) (c : Contact) : AnswersAgreement s (execDebounceExpiry p c s) := by
  refine .conclude ?_
  split
  · exact .refl s
  · exact .setPosition_derivePosition s _ p _

theorem execDiscrepancyExpiry_agreement (p : Index) : AnswersAgreement s (execDiscrepancyExpiry p s) := by
  refine .conclude ?_
  split
  · exact .refl s
  · exact .setPosition_derivePosition s _ p _

/-! ### Order unit -/

theorem execMinPulseExpiry_agreement (p : Index) : AnswersAgreement s (execMinPulseExpiry p s) := by
  refine .conclude ?_
  split
  · exact .refl s
  · exact .ite (.orders_advanceTo s _ (.release p)) (.ite (.orders_advanceTo s _ (.confirm _)) (.refl s))

theorem execBfDeadline_agreement (p : Index) : AnswersAgreement s (execBfDeadline p s) := by
  refine .conclude ?_
  split
  · exact .refl s
  · next o ho =>
    have hlive (h : (s.advanceTo o.deadline).ordersLive) : o.attr = .live :=
      h o (by rw [State.advanceTo_orders]; exact (State.mem_of_orderAt ho).1)
    exact .ite (.orders_advanceTo s _ ((OrdersStayLive.failOrder hlive).trans (.judgeOrder p))) (.refl s)

theorem execDriveTimeout_agreement (p : Index) : AnswersAgreement s (execDriveTimeout p s) := by
  refine .conclude ?_
  split
  · exact .refl s
  · exact .ite (.orders_advanceTo s _ (.stallOrder _)) (.refl s)

theorem execLockoutButtonChange_agreement (b : Bool) : AnswersAgreement s (execLockoutButtonChange b s) := by
  unfold execLockoutButtonChange
  split
  · exact .unread rfl
  · exact .next (.of_view rfl)

theorem execLockoutResetPress_agreement : AnswersAgreement s (execLockoutResetPress s) := by
  refine .conclude ?_
  split
  · exact .refl s
  · exact ((KeepsAgreement.advanceTo s _).trans (.of_view (by rfl))).trans (.ite (.refl _) (.clearLockouts _ _))

theorem execLockoutButtonRelease_agreement : AnswersAgreement s (execLockoutButtonRelease s) := by
  refine .conclude ?_
  split
  · exact .refl s
  · exact (KeepsAgreement.advanceTo s _).trans (.of_view rfl)

/-! ### Cross link -/

theorem execHeartbeatDue_agreement : AnswersAgreement s (execHeartbeatDue s) :=
  .conclude (.ite (.mapLink_advanceTo s _ _) (.refl s))

theorem execSendDecide_agreement : AnswersAgreement s (execSendDecide s) :=
  .conclude (.ite (.mapLink_advanceTo s _ _) (.refl s))

theorem execTelegramStart_agreement : AnswersAgreement s (execTelegramStart s) := by
  refine .conclude ?_
  split
  · exact .mapLink_advanceTo s _ _
  · exact .refl s

theorem execAttemptVoided_agreement : AnswersAgreement s (execAttemptVoided s) :=
  .conclude (.ite (.startBit s) (.refl s))

theorem execStartBitSeen_agreement : AnswersAgreement s (execStartBitSeen s) :=
  .conclude (.ite (.startBit s) (.refl s))

theorem execArbitrationLost_agreement : AnswersAgreement s (execArbitrationLost s) :=
  .conclude (.ite (.of_view rfl) (.refl s))

theorem execBitError_agreement (b : Bool) : AnswersAgreement s (execBitError b s) :=
  .conclude (.ite (.ite (.of_view rfl) (.of_view rfl)) (.refl s))

theorem execTelegramCompleted_agreement : AnswersAgreement s (execTelegramCompleted s) := by
  refine .conclude ?_
  split
  · exact .mapLink_advanceTo s _ _
  · exact .refl s

theorem execTelegramReceived_agreement (bits : List Bit) : AnswersAgreement s (execTelegramReceived bits s) := by
  refine .conclude ?_
  split
  · exact .refl s
  · exact .ite (.refl s) ((KeepsAgreement.mapLink_advanceTo s _ _).trans (.judgeTelegram _ bits))

theorem execLineDisturbance_agreement (bits : Nat) : AnswersAgreement s (execLineDisturbance s bits) :=
  .conclude (.ite ((KeepsAgreement.mapLink_advanceTo s _ _).trans (.countLink _ _)) (.refl s))

theorem execPeerSilenceExpiry_agreement (u : Index) : AnswersAgreement s (execPeerSilenceExpiry u s) := by
  refine .conclude ?_
  split
  · exact .refl s
  · exact ((KeepsAgreement.advanceTo s _).trans (.of_view (by rfl))).trans (.handLinkInputs s _)

theorem execSuspensionEnd_agreement : AnswersAgreement s (execSuspensionEnd s) := by
  refine .conclude ?_
  split
  · exact .refl s
  · exact .mapLink_advanceTo s _ _

theorem execDuplicateAlarmExpiry_agreement : AnswersAgreement s (execDuplicateAlarmExpiry s) := by
  unfold execDuplicateAlarmExpiry
  refine .conclude ?_
  split
  · exact .mapLink_advanceTo s _ _
  · exact .refl s

/-! ### Staged application and store -/

theorem execChannelGroupApply_agreement (n : Index) : AnswersAgreement s (execChannelGroupApply n s) :=
  .conclude ((KeepsAgreement.tryChannel s n).trans (.finishApply s _))

theorem execPointGroupApply_agreement (m : Index) : AnswersAgreement s (execPointGroupApply m s) := by
  have hat : KeepsAgreement s (if s.unguarded then s else s.toCurrentInstant) :=
    .ite (.refl s) (.ite (.refl s) (.advanceTo s _))
  exact .conclude (.ite ((hat.trans (.takePoint _ m)).trans (.finishApply s _)) (.refl s))

theorem execTopologyGroupApply_agreement : AnswersAgreement s (execTopologyGroupApply s) :=
  .conclude ((KeepsAgreement.tryTopology s).trans (.finishApply s _))

theorem execLinkGroupApply_agreement : AnswersAgreement s (execLinkGroupApply s) :=
  .conclude ((KeepsAgreement.tryLink s).trans (.finishApply s _))

theorem execStoreWriteBegin_agreement : AnswersAgreement s (execStoreWriteBegin s) :=
  .conclude (.ite (.refl s) (.chooseWrite s))

theorem execStoreWriteEnd_agreement (o : WriteOutcome) : AnswersAgreement s (execStoreWriteEnd o s) := by
  refine .conclude ?_
  split
  · exact .refl s
  · exact (KeepsAgreement.advanceTo s _).trans (.endWrite _ _ o)

/-! ### Station port -/

theorem execFrameGapTimeout_agreement (read : List Byte) : AnswersAgreement s (execFrameGapTimeout s read) :=
  .conclude (.ite (.of_view rfl) (.refl s))

theorem execFramingDiscard_agreement (cause : FramingCause) (read : List Byte) :
    AnswersAgreement s (execFramingDiscard cause s read) := .conclude (.ite (.of_view rfl) (.refl s))

theorem execFrameCheckFailure_agreement : AnswersAgreement s (execFrameCheckFailure s) :=
  .conclude (.ite (.refl s) (.of_view rfl))

theorem execForeignFrame_agreement (address kind : Byte) : AnswersAgreement s (execForeignFrame address kind s) :=
  .conclude (.ite (.refl s) (.ite (.of_view rfl) (.ite (.of_view rfl) (.ite (.of_view rfl) (.refl s)))))

theorem execOverrunDiscard_agreement : AnswersAgreement s (execOverrunDiscard s) :=
  .conclude (.ite (.of_view rfl) (.refl s))

theorem execIgnoredBroadcast_agreement (kind : Byte) : AnswersAgreement s (execIgnoredBroadcast kind s) :=
  .conclude (.ite (.refl s) (.ite (.of_view rfl) (.ite (.of_view rfl) (.refl s))))

theorem execReplyStart_agreement : AnswersAgreement s (execReplyStart s) :=
  .conclude (.ite ((KeepsAgreement.advanceTo s _).trans (.of_view rfl)) (.refl s))

theorem execReplySent_agreement : AnswersAgreement s (execReplySent s) :=
  .conclude (.ite ((KeepsAgreement.endReply s).trans (.afterReply _ _)) (.refl s))

theorem execUnknownKind_agreement (kind : Byte) : AnswersAgreement s (execUnknownKind kind s) :=
  .conclude (.ite (.refl s) (.request fun t => .refl t))

theorem execTimeSet_agreement (broadcast : Bool) (body : List Byte) :
    AnswersAgreement s (execTimeSet broadcast body s) :=
  .conclude (.ite (.ite (.refl s) (.ite (.of_view rfl) (.broadcastTime s body))) (.request fun t => .setPartTime t _))

/-! ### The requests that act (R157, R166, R167) -/

namespace KeepsAgreement

theorem commit : KeepsAgreement s s.commit.state := by
  unfold State.commit
  refine handled_ite (refl s) (handled_ite (refl s) (handled_ite (refl s) (handled_ite (refl s) ?_)))
  split
  · exact refl s
  · exact accept (acceptCommit s) _

theorem discardPending : KeepsAgreement s s.discardPending.state :=
  handled_ite (refl s) (accept ((of_view (by rfl)).trans (forgetCaptured _ _)) _)

theorem readRecord (body : List Byte) : KeepsAgreement s (s.readRecord body).state := by
  unfold State.readRecord
  split <;> exact refl s

theorem readSetting (body : List Byte) : KeepsAgreement s (s.readSetting body).state := by
  unfold State.readSetting
  dsimp only
  split <;> exact refl s

theorem ackRecord (number : Nat) : KeepsAgreement s (s.ackRecord number).state := by
  unfold State.ackRecord
  split
  · exact refl s
  · split
    · exact refl s
    · exact ite (of_view rfl) (of_view rfl)
    · exact refl s

theorem writeSetting (body : List Byte) : KeepsAgreement s (s.writeSetting body).state := by
  unfold State.writeSetting
  dsimp only
  split
  · exact refl s
  · split
    · exact refl s
    · exact of_view rfl

/-- Zones are evaluated in every state that a request enters (R157, R97). -/
theorem setProtection (target : Nat) : KeepsAgreement s (s.setProtection target).state := by
  unfold State.setProtection
  split
  · exact changeState (.inl rfl)
  · exact handled_ite (changeState (.inl rfl)) (refl s)
  · exact changeState (.inl rfl)
  · exact changeState (.inl rfl)
  · exact refl s

theorem channelOut (n : Index) : KeepsAgreement s (s.channelOut n).state := by
  unfold State.channelOut
  split
  case h_1 | h_2 | h_3 => exact refl s
  all_goals exact handChanged n rfl

theorem channelIn (n : Index) : KeepsAgreement s (s.channelIn n).state := by
  unfold State.channelIn
  split
  case h_3 => exact handChanged n rfl
  all_goals exact refl s

theorem captureReference (n : Index) : KeepsAgreement s (s.captureReference n).state := by
  unfold State.captureReference
  dsimp only
  split
  case h_8 => exact handled_ite (refl s) (of_view rfl)
  all_goals exact refl s

theorem simulateLight (n : Index) (on : Bool) : KeepsAgreement s (s.simulateLight n on).state := by
  refine handled_ite (refl s) ?_
  split
  case h_1 | h_2 | h_3 => exact refl s
  all_goals exact handChanged n rfl

theorem simulateCurrent (m : Index) (on : Bool) : KeepsAgreement s (s.simulateCurrent m on).state :=
  handled_ite (refl s) (ite (of_view rfl) ((of_view (by rfl)).trans (evaluateWhere _)))

/-- TEST_TRIP's order is LIVE (R118). -/
theorem testTrip (set : List Index) : KeepsAgreement s (s.testTrip set).state := by
  refine handled_ite (refl s) ?_
  split
  · exact handled_ite (refl s) (handled_ite (refl s) (of_orders (.requestOrder _ _)))
  · exact refl s

theorem cancelOrder (p : Index) : KeepsAgreement s (s.cancelOrder p).state := by
  unfold State.cancelOrder
  split
  · exact refl s
  · exact handled_ite (of_orders (.release p)) (refl s)

end KeepsAgreement

/-! ### The requests' commands -/

theorem execIdentify_agreement (body : List Byte) : AnswersAgreement s (execIdentify body s) := .read

theorem execStatus_agreement (body : List Byte) : AnswersAgreement s (execStatus body s) := .read

theorem execReadChannel_agreement (body : List Byte) : AnswersAgreement s (execReadChannel body s) := .read

theorem execReadPoint_agreement (body : List Byte) : AnswersAgreement s (execReadPoint body s) := .read

theorem execReadPosition_agreement (body : List Byte) : AnswersAgreement s (execReadPosition body s) := .read

theorem execReadZone_agreement (body : List Byte) : AnswersAgreement s (execReadZone body s) := .read

theorem execReadOrders_agreement (body : List Byte) : AnswersAgreement s (execReadOrders body s) := .read

theorem execReadPeers_agreement (body : List Byte) : AnswersAgreement s (execReadPeers body s) := .read

theorem execReadRecord_agreement (body : List Byte) : AnswersAgreement s (execReadRecord body s) :=
  .request fun t => .readRecord t body

theorem execAckRecord_agreement (body : List Byte) : AnswersAgreement s (execAckRecord body s) :=
  .request fun t => .ackRecord t _

theorem execFetchNotices_agreement (body : List Byte) : AnswersAgreement s (execFetchNotices body s) :=
  .request (act := fun _ => State.fetchNotices) fun _ => .of_view rfl

theorem execReadSetting_agreement (body : List Byte) : AnswersAgreement s (execReadSetting body s) :=
  .request fun t => .readSetting t body

theorem execWriteSetting_agreement (body : List Byte) : AnswersAgreement s (execWriteSetting body s) :=
  .request fun t => .writeSetting t body

theorem execDiscard_agreement (body : List Byte) : AnswersAgreement s (execDiscard body s) :=
  .request .discardPending

theorem execCommit_agreement (body : List Byte) : AnswersAgreement s (execCommit body s) :=
  .request .commit

theorem execSetState_agreement (body : List Byte) : AnswersAgreement s (execSetState body s) :=
  .request fun t => .setProtection t _

theorem execChannelOut_agreement (body : List Byte) : AnswersAgreement s (execChannelOut body s) :=
  .request fun t => .channelOut t _

theorem execChannelIn_agreement (body : List Byte) : AnswersAgreement s (execChannelIn body s) :=
  .request fun t => .channelIn t _

theorem execCaptureReference_agreement (body : List Byte) : AnswersAgreement s (execCaptureReference body s) :=
  .request fun t => .captureReference t _

theorem execSimulateLight_agreement (body : List Byte) : AnswersAgreement s (execSimulateLight body s) :=
  .request fun t => .simulateLight t _ _

theorem execSimulateCurrent_agreement (body : List Byte) : AnswersAgreement s (execSimulateCurrent body s) :=
  .request fun t => .simulateCurrent t _ _

theorem execTestTrip_agreement (body : List Byte) : AnswersAgreement s (execTestTrip body s) :=
  .request fun t => .testTrip t _

theorem execCancelOrder_agreement (body : List Byte) : AnswersAgreement s (execCancelOrder body s) :=
  .request fun t => .cancelOrder t _

theorem execResetLockout_agreement (body : List Byte) : AnswersAgreement s (execResetLockout body s) :=
  .request fun t => .clearLockouts t _

theorem execRestart_agreement (body : List Byte) : AnswersAgreement s (execRestart body s) :=
  .request (act := fun _ t => Machine.accept (t.mapPort fun p => { p with restartAfter := true }) [])
    fun _ => .of_view rfl

/-! ### Every command, every step -/

/-- Every command keeps the rule on zones, orders and the test deadline. -/
theorem exec_agreement (c : Instr) : AnswersAgreement s (exec c s) := by
  cases c with
  | powerOn => exact execPowerOn_agreement s
  | powerLoss => exact execPowerLoss_agreement s
  | restartTerminalChange b => exact execRestartTerminalChange_agreement s b
  | restartTerminalPress => exact execRestartTerminalPress_agreement s
  | restartTerminalRelease => exact execRestartTerminalRelease_agreement s
  | startingEnd => exact execStartingEnd_agreement s
  | testTimeout => exact execTestTimeout_agreement s
  | lightSample raw => exact execLightSample_agreement s raw
  | backgroundUpdate => exact execBackgroundUpdate_agreement s
  | supervisionSlot n => exact execSupervisionSlot_agreement s n
  | burstEnd n => exact execBurstEnd_agreement s n
  | captureBurstStart n => exact execCaptureBurstStart_agreement s n
  | captureEnd n => exact execCaptureEnd_agreement s n
  | currentSample samples => exact execCurrentSample_agreement s samples
  | ocHoldExpiry m => exact execOcHoldExpiry_agreement s m
  | cpClear m => exact execCpClear_agreement s m
  | contactRawChange p c on => exact execContactRawChange_agreement s p c on
  | debounceExpiry p c => exact execDebounceExpiry_agreement s p c
  | discrepancyExpiry p => exact execDiscrepancyExpiry_agreement s p
  | minPulseExpiry p => exact execMinPulseExpiry_agreement s p
  | bfDeadline p => exact execBfDeadline_agreement s p
  | driveTimeout p => exact execDriveTimeout_agreement s p
  | lockoutButtonChange b => exact execLockoutButtonChange_agreement s b
  | lockoutResetPress => exact execLockoutResetPress_agreement s
  | lockoutButtonRelease => exact execLockoutButtonRelease_agreement s
  | heartbeatDue => exact execHeartbeatDue_agreement s
  | sendDecide => exact execSendDecide_agreement s
  | telegramStart => exact execTelegramStart_agreement s
  | attemptVoided => exact execAttemptVoided_agreement s
  | startBitSeen => exact execStartBitSeen_agreement s
  | arbitrationLost => exact execArbitrationLost_agreement s
  | bitError b => exact execBitError_agreement s b
  | telegramCompleted => exact execTelegramCompleted_agreement s
  | telegramReceived bits => exact execTelegramReceived_agreement s bits
  | lineDisturbance bits => exact execLineDisturbance_agreement s bits
  | peerSilenceExpiry u => exact execPeerSilenceExpiry_agreement s u
  | suspensionEnd => exact execSuspensionEnd_agreement s
  | duplicateAlarmExpiry => exact execDuplicateAlarmExpiry_agreement s
  | channelGroupApply n => exact execChannelGroupApply_agreement s n
  | pointGroupApply m => exact execPointGroupApply_agreement s m
  | topologyGroupApply => exact execTopologyGroupApply_agreement s
  | linkGroupApply => exact execLinkGroupApply_agreement s
  | storeWriteBegin => exact execStoreWriteBegin_agreement s
  | storeWriteEnd o => exact execStoreWriteEnd_agreement s o
  | frameGapTimeout read => exact execFrameGapTimeout_agreement s read
  | framingDiscard cause read => exact execFramingDiscard_agreement s cause read
  | frameCheckFailure => exact execFrameCheckFailure_agreement s
  | foreignFrame address kind => exact execForeignFrame_agreement s address kind
  | overrunDiscard => exact execOverrunDiscard_agreement s
  | ignoredBroadcast kind => exact execIgnoredBroadcast_agreement s kind
  | unknownKind kind => exact execUnknownKind_agreement s kind
  | replyStart => exact execReplyStart_agreement s
  | replySent => exact execReplySent_agreement s
  | identify body => exact execIdentify_agreement s body
  | status body => exact execStatus_agreement s body
  | readChannel body => exact execReadChannel_agreement s body
  | readPoint body => exact execReadPoint_agreement s body
  | readPosition body => exact execReadPosition_agreement s body
  | readZone body => exact execReadZone_agreement s body
  | readOrders body => exact execReadOrders_agreement s body
  | readPeers body => exact execReadPeers_agreement s body
  | readRecord body => exact execReadRecord_agreement s body
  | ackRecord body => exact execAckRecord_agreement s body
  | fetchNotices body => exact execFetchNotices_agreement s body
  | readSetting body => exact execReadSetting_agreement s body
  | writeSetting body => exact execWriteSetting_agreement s body
  | discard body => exact execDiscard_agreement s body
  | commit body => exact execCommit_agreement s body
  | setState body => exact execSetState_agreement s body
  | channelOut body => exact execChannelOut_agreement s body
  | channelIn body => exact execChannelIn_agreement s body
  | captureReference body => exact execCaptureReference_agreement s body
  | simulateLight body => exact execSimulateLight_agreement s body
  | simulateCurrent body => exact execSimulateCurrent_agreement s body
  | testTrip body => exact execTestTrip_agreement s body
  | cancelOrder body => exact execCancelOrder_agreement s body
  | resetLockout body => exact execResetLockout_agreement s body
  | timeSet broadcast body => exact execTimeSet_agreement s broadcast body
  | restart body => exact execRestart_agreement s body

/-- Every step keeps the rule on zones, orders and the test deadline. -/
theorem step_agreement : AnswersAgreement s (step s) := by
  unfold step
  split
  · exact .next (.ite (.advanceTo s _) (.refl s))
  · next c rest _ =>
    intro t ht
    exact (KeepsAgreement.of_view (by rfl)).trans (exec_agreement { s with pending := rest } c t ht)

/-- Settles O9: each evaluation brings its zone to what the protection state allows, each change of protection state
evaluates every used zone, and no request makes an order DRY outside TEST. -/
theorem zonesAlwaysAgree : Obligations.ZonesAlwaysAgree := fun s hs t ht => step_agreement s t ht hs

end Sys2Proof.Machine
end

section
/-! The order unit's operations on what they touch: the order list, the trip outputs, the lockouts and the trip records
(R100, R103 to R108, R115, R116, R120, R121, R141 to R145). -/

namespace Sys2Proof.Machine

open Wire

variable {s t : State} {p q : Index} {o r : Order}

/-! ### Sets of positions -/

theorem mem_withMember {n : Nat} {set : List Index} : q ∈ withMember n set p ↔ q ∈ upTo n ∧ (q = p ∨ q ∈ set) := by
  simp [withMember]

theorem mem_withoutMember {n : Nat} {set : List Index} : q ∈ withoutMember n set p ↔ q ∈ upTo n ∧ q ≠ p ∧ q ∈ set := by
  simp [withoutMember]

/-! ### The order list (R100) -/

theorem State.orderAt_eq_none : s.orderAt p = none ↔ ∀ o ∈ s.orders, o.position ≠ p := by simp [State.orderAt]

theorem State.orderAt_isSome : (s.orderAt p).isSome = s.orders.any fun o => o.position == p := 
  List.isSome_find?

theorem State.orderAt_isNone : (s.orderAt p).isNone = s.orders.all fun o => o.position != p := by
  rw [← Option.not_isSome, State.orderAt_isSome, List.not_any_eq_all_not]
  rfl

theorem State.oneOrderEach.eq (h : s.oneOrderEach) (ho : o ∈ s.orders) (hr : r ∈ s.orders)
    (hp : r.position = o.position) : r = o :=
  List.inj_on_of_nodup_map h hr ho hp

/-- With one order for each position, an order of the list is the one that stands for its position. -/
theorem State.oneOrderEach.orderAt (h : s.oneOrderEach) (ho : o ∈ s.orders) : s.orderAt o.position = some o := by
  cases hf : s.orderAt o.position with
  | none => exact absurd rfl (State.orderAt_eq_none.mp hf o ho)
  | some r =>
    obtain ⟨hr, hp⟩ := State.mem_of_orderAt hf
    rw [h.eq ho hr hp]

/-- The orders of other positions are as they were when the order of one is changed. -/
theorem State.mem_mapOrder {f : Order → Order} (ho : o ∈ (s.mapOrder p f).orders) :
    (∃ r ∈ s.orders, r.position = p ∧ o = f r) ∨ o ∈ s.orders ∧ o.position ≠ p := by
  obtain ⟨r, hr, rfl⟩ := List.mem_map.mp ho
  by_cases hp : r.position = p
  · exact .inl ⟨r, hr, hp, by simp [hp]⟩
  · exact .inr (by simpa [hp] using hr)

theorem State.mapOrder_positions_eq {f : Order → Order} (hf : ∀ o, (f o).position = o.position) :
    (s.mapOrder p f).orders.map (fun o => o.position) = s.orders.map fun o => o.position := by
  rw [State.mapOrder, List.map_map]
  refine List.map_congr_left fun o _ => ?_
  by_cases hp : o.position = p <;> simp [hp, hf]

/-- Two changes of one position's order are one. -/
theorem State.mapOrder_mapOrder {f g : Order → Order} (hf : ∀ o, (f o).position = o.position) :
    (s.mapOrder p f).mapOrder p g = s.mapOrder p fun o => g (f o) := by
  have hcomp : (s.mapOrder p f).orders.map (fun o => if o.position == p then g o else o) =
      s.orders.map fun o => if o.position == p then g (f o) else o := by
    rw [State.mapOrder, List.map_map]
    refine List.map_congr_left fun o _ => ?_
    by_cases hp : o.position = p <;> simp [hp, hf]
  exact congrArg (fun l : List Order => ({ s with orders := l } : State)) hcomp

/-- A change that leaves every order of the position as it is changes nothing. -/
theorem State.mapOrder_same {f : Order → Order} (h : ∀ o ∈ s.orders, o.position = p → f o = o) : s.mapOrder p f = s := by
  have hid : s.orders.map (fun o => if o.position == p then f o else o) = s.orders := by
    refine (List.map_congr_left fun o ho => ?_).trans s.orders.map_id
    split
    · next hp => exact h o ho (eq_of_beq hp)
    · rfl
  exact congrArg (fun l : List Order => ({ s with orders := l } : State)) hid

theorem State.orderAt_mapOrder {f : Order → Order} (hf : ∀ o, (f o).position = o.position) :
    (s.mapOrder p f).orderAt q = (s.orderAt q).map fun o => if o.position = p then f o else o := by
  have key (l : List Order) : (l.map fun o => if o.position == p then f o else o).find? (fun o => o.position == q) =
      (l.find? fun o => o.position == q).map fun o => if o.position = p then f o else o := by
    rw [List.find?_map]
    have hcomp : ((fun o : Order => o.position == q) ∘ fun o => if o.position == p then f o else o) =
        fun o => o.position == q := by
      funext o
      by_cases hp : o.position = p <;> simp [hp, hf]
    rw [hcomp]
    simp only [beq_iff_eq]
  exact key s.orders

/-! ### Lockouts (R121) -/

theorem State.setLockout_lockout (s : State) (p : Index) :
    (s.setLockout p).lockout = if p ∈ s.lockout then s.lockout else withMember 8 s.lockout p := by
  unfold State.setLockout
  by_cases hp : p ∈ s.lockout <;> simp [hp]

@[simp] theorem State.setLockout_outputs (s : State) (p : Index) : (s.setLockout p).outputs = s.outputs := by
  unfold State.setLockout
  split <;> rfl

@[simp] theorem State.setLockout_records (s : State) (p : Index) : (s.setLockout p).records = s.records := by
  unfold State.setLockout
  split <;> rfl

/-- A lockout set is never cleared by setting another. -/
theorem State.mem_setLockout (hp : q ∈ upTo 8) (h : q = p ∨ q ∈ s.lockout) : q ∈ (s.setLockout p).lockout := by
  rw [State.setLockout_lockout]
  split
  · next hin => exact h.elim (fun e => e ▸ hin) id
  · exact mem_withMember.mpr ⟨hp, h⟩

theorem State.clearLockouts_eq (s : State) (ps : List Index) :
    s.clearLockouts ps = { s with
      lockout := s.lockout.filter fun p => !ps.contains p
      store := { s.store with waitLockout := s.store.waitLockout || s.lockout.any ps.contains } } := by
  unfold State.clearLockouts
  split
  · next hany => simp [State.queueLockout, hany]
  · next hnone =>
    rw [Bool.not_eq_true] at hnone
    have hall : s.lockout.filter (fun p => !ps.contains p) = s.lockout :=
      List.filter_eq_self.mpr fun p hp => by simpa using List.any_eq_false.mp hnone p hp
    rw [hall, hnone, Bool.or_false]

/-! ### Trip records (R141 to R145) -/

/-- Which of the trip records are OPEN, in the order of the list. -/
def State.opens (s : State) : List Bool := s.records.map fun r => decide (r.state = .opened)

theorem State.mapOpen_opens {f : TripRecord → TripRecord} (hf : ∀ r, (f r).state = r.state) :
    (s.mapOpen f).opens = s.opens := by
  rw [State.opens, State.mapOpen, List.map_map]
  refine List.map_congr_left fun r _ => ?_
  simp only [Function.comp]
  split <;> simp [hf]

@[simp] theorem State.mapEntry_opens (s : State) (p : Index) (f : Entry → Entry) : (s.mapEntry p f).opens = s.opens :=
  State.mapOpen_opens fun _ => rfl

/-- The OPEN record becomes UNREAD with its close (R145). -/
theorem State.closeRecord_opens (s : State) : s.closeRecord.opens = s.opens.map fun _ => false := by
  unfold State.closeRecord
  split
  · next hnone =>
    have hall : ∀ r ∈ s.records, r.state ≠ .opened := by simpa using hnone
    rw [State.opens, List.map_map]
    exact List.map_congr_left fun r hr => decide_eq_false (hall r hr)
  · have hclosed (pk : List Nat) : (s.records.map fun q : TripRecord =>
        if q.state == .opened then { q with peaks := some pk, state := .unread } else q).map
          (fun r => decide (r.state = .opened)) = s.opens.map fun _ => false := by
      rw [State.opens, List.map_map, List.map_map]
      refine List.map_congr_left fun q _ => ?_
      by_cases hq : q.state = .opened <;> simp [hq]
    dsimp only
    split
    · split <;> exact hclosed _
    · exact hclosed _

/-- A creation into an empty list opens the newest record; another changes none's state (R143, R144). -/
theorem State.recordCreation_opens (s : State) (b : Bool) (o : Order) (c : Cause) :
    (s.recordCreation b o c).opens =
      if b then (if s.records.length < 16 then s.opens else s.opens.drop 1) ++ [true] else s.opens := by
  cases b with
  | false => exact State.mapOpen_opens fun _ => rfl
  | true =>
    show (s.makeRoom.records ++ [s.openedRecord o c]).map _ = _
    rw [List.map_append]
    unfold State.makeRoom
    split
    · rfl
    · simp [State.opens, State.openedRecord]

@[simp] theorem State.recordCreation_outputs (s : State) (b : Bool) (o : Order) (c : Cause) :
    (s.recordCreation b o c).outputs = s.outputs := by
  unfold State.recordCreation
  split
  · show s.makeRoom.outputs = s.outputs
    unfold State.makeRoom
    split <;> rfl
  · rfl

@[simp] theorem State.recordCreation_lockout (s : State) (b : Bool) (o : Order) (c : Cause) :
    (s.recordCreation b o c).lockout = s.lockout := by
  unfold State.recordCreation
  split
  · show s.makeRoom.lockout = s.lockout
    unfold State.makeRoom
    split <;> rfl
  · rfl

@[simp] theorem State.closeRecord_outputs (s : State) : s.closeRecord.outputs = s.outputs := by
  unfold State.closeRecord
  split
  · rfl
  · dsimp only
    split
    · split <;> rfl
    · rfl

@[simp] theorem State.closeRecord_lockout (s : State) : s.closeRecord.lockout = s.lockout := by
  unfold State.closeRecord
  split
  · rfl
  · dsimp only
    split
    · split <;> rfl
    · rfl

/-! ### Departures (R108, R116, R119) -/

/-- What tells the record unit of a departure changes records alone, and opens or closes none. -/
def ChangesEntries (f : State → State) : Prop :=
  ∀ u, ∃ rs, f u = { u with records := rs } ∧ ({ u with records := rs } : State).opens = u.opens

theorem mapEntry_changesEntries (p : Index) (g : State → Entry → Entry) : ChangesEntries fun u => u.mapEntry p (g u) :=
  fun u => ⟨_, rfl, u.mapEntry_opens p (g u)⟩

theorem recordRelease_changesEntries (p : Index) : ChangesEntries fun u => u.recordRelease p :=
  mapEntry_changesEntries p fun u e => { e with released := some u.offset }

theorem recordWithdrawal_changesEntries (p : Index) : ChangesEntries fun u => u.recordWithdrawal p :=
  mapEntry_changesEntries p fun u e => { e with stage := .withdrawn, released := some u.offset }

theorem ChangesEntries.orders {f : State → State} (h : ChangesEntries f) (u : State) : (f u).orders = u.orders := by
  obtain ⟨rs, hf, -⟩ := h u
  rw [hf]

theorem ChangesEntries.apart {f : State → State} (h : ChangesEntries f) : KeepsApart f := fun u => by
  obtain ⟨rs, hf, -⟩ := h u
  rw [hf]
  rfl

theorem State.depart_outputs (s : State) (p : Index) {f : State → State} (h : ChangesEntries f) :
    (s.depart p f).outputs = withoutMember 8 s.outputs p := by
  have hf : (f (({ s with orders := s.orders.filter fun o => o.position != p } : State).deenergise p)).outputs =
      withoutMember 8 s.outputs p := by
    obtain ⟨rs, hf, -⟩ := h (({ s with orders := s.orders.filter fun o => o.position != p } : State).deenergise p)
    rw [hf]
    rfl
  unfold State.depart
  dsimp only
  rw [State.noteContent_outputs]
  split
  · rw [State.closeRecord_outputs, hf]
  · exact hf

theorem State.depart_lockout (s : State) (p : Index) {f : State → State} (h : ChangesEntries f) :
    (s.depart p f).lockout = s.lockout := by
  have hf : (f (({ s with orders := s.orders.filter fun o => o.position != p } : State).deenergise p)).lockout =
      s.lockout := by
    obtain ⟨rs, hf, -⟩ := h (({ s with orders := s.orders.filter fun o => o.position != p } : State).deenergise p)
    rw [hf]
    rfl
  unfold State.depart
  dsimp only
  rw [State.noteContent_lockout]
  split
  · rw [State.closeRecord_lockout, hf]
  · exact hf

/-- With the last order the OPEN record closes (R145). -/
theorem State.depart_opens (s : State) (p : Index) {f : State → State} (h : ChangesEntries f) :
    (s.depart p f).opens = if (s.depart p f).orders = [] then s.opens.map fun _ => false else s.opens := by
  obtain ⟨rs, hf, hopens⟩ := h (({ s with orders := s.orders.filter fun o => o.position != p } : State).deenergise p)
  rw [s.depart_orders p h.orders]
  unfold State.depart
  dsimp only
  rw [State.opens, State.noteContent_records]
  show State.opens _ = _
  rw [hf]
  by_cases hnil : s.orders.filter (fun o => o.position != p) = []
  · rw [if_pos (by simpa using hnil), if_pos hnil, State.closeRecord_opens, hopens]
    rfl
  · rw [if_neg (by simpa using hnil), if_neg hnil]
    exact hopens

/-! ### Creation and upgrade (R103, R105) -/

/-- A new order at the end of the list; a LIVE one energises its output and sets its lockout (R103, R120, R121). -/
def State.placeOrder (s : State) (p : Index) (c : Cause) (a : Attribute) : State :=
  let t := { s with orders := s.orders ++ [s.newOrder p c a] }
  if a == .live then (t.energise p).setLockout p else t

theorem State.createOrder_eq (s : State) (p : Index) (c : Cause) (a : Attribute) :
    s.createOrder p c a =
      ((s.placeOrder p c a).recordCreation s.orders.isEmpty (s.newOrder p c a) c).judgeOrder p := rfl

@[simp] theorem State.placeOrder_orders (s : State) (p : Index) (c : Cause) (a : Attribute) :
    (s.placeOrder p c a).orders = s.orders ++ [s.newOrder p c a] := by
  unfold State.placeOrder
  dsimp only
  split
  · rw [State.setLockout_orders]
    rfl
  · rfl

@[simp] theorem State.placeOrder_apart (s : State) (p : Index) (c : Cause) (a : Attribute) :
    (s.placeOrder p c a).apart = s.apart := by
  unfold State.placeOrder
  dsimp only
  split
  · rw [State.setLockout_apart]
    rfl
  · rfl

@[simp] theorem State.placeOrder_records (s : State) (p : Index) (c : Cause) (a : Attribute) :
    (s.placeOrder p c a).records = s.records := by
  unfold State.placeOrder
  dsimp only
  split
  · rw [State.setLockout_records]
    rfl
  · rfl

/-- What an order becomes when it is upgraded to LIVE: fresh timers, whatever its stage (R105). -/
def State.upgraded (s : State) (p : Index) (o : Order) : Order :=
  { o with attr := .live, stage := .driving, startedAt := s.clock, deadline := s.failDeadline p, escalated := none }

/-- The order of a position LIVE, with its output and its lockout (R105). -/
def State.liveAgain (s : State) (p : Index) : State := ((s.mapOrder p (s.upgraded p)).energise p).setLockout p

theorem State.upgradeOrder_eq (s : State) (p : Index) :
    s.upgradeOrder p = ((s.liveAgain p).recordUpgrade p).judgeOrder p := rfl

@[simp] theorem State.liveAgain_orders (s : State) (p : Index) :
    (s.liveAgain p).orders = (s.mapOrder p (s.upgraded p)).orders := State.setLockout_orders _ p

@[simp] theorem State.liveAgain_apart (s : State) (p : Index) : (s.liveAgain p).apart = s.apart :=
  State.setLockout_apart _ p

@[simp] theorem State.liveAgain_records (s : State) (p : Index) : (s.liveAgain p).records = s.records :=
  State.setLockout_records _ p

@[simp] theorem State.recordUpgrade_opens (s : State) (p : Index) : (s.recordUpgrade p).opens = s.opens :=
  (State.mapOpen_opens (f := fun r => { r with kind := .live }) fun _ => rfl).trans (s.mapEntry_opens p _)

/-! ### Confirmation and judgement (R107 to R109) -/

/-- The order of a position confirmed, in the list and in its record's entry, before any release (R107, R144). -/
def State.confirmAt (s : State) (p : Index) : State :=
  (s.mapOrder p fun q => { q with stage := .confirmed }).recordConfirmation p

/-- The supervised field of a position's order brought to what the position says (R109). -/
def State.followPosition (s : State) (p : Index) : State :=
  s.mapOrder p fun q => { q with supervised := !s.unsupervised p }

theorem State.followPosition_confirmAt (s : State) (p : Index) :
    (s.followPosition p).confirmAt p =
      (s.mapOrder p fun q => { q with supervised := !s.unsupervised p, stage := .confirmed }).recordConfirmation p :=
  congrArg (fun u : State => u.recordConfirmation p)
    (State.mapOrder_mapOrder (f := fun q => { q with supervised := !s.unsupervised p }) fun _ => rfl)

theorem State.confirm_eq (s : State) (o : Order) :
    s.confirm o = if s.pulseRun o then (s.confirmAt o.position).release o.position else s.confirmAt o.position := rfl

theorem State.judgeOrder_of_none (h : s.orderAt p = none) : s.judgeOrder p = s := by
  rw [State.judgeOrder, h]

/-- A judgement finds no evidence, or confirms the order, or confirms and releases it. -/
theorem State.judgeOrder_of_some (h : s.orderAt p = some o) :
    s.judgeOrder p =
      if o.stage = .confirmed then s.followPosition p
      else if s.unsupervised p then
        if s.pulseRun o then ((s.followPosition p).confirmAt p).release p else s.followPosition p
      else if s.cleared p then
        if s.pulseRun o then ((s.followPosition p).confirmAt p).release p else (s.followPosition p).confirmAt p
      else s.followPosition p := by
  have hp := (State.mem_of_orderAt h).2
  have hconf : (s.followPosition p).confirm o =
      if s.pulseRun o then ((s.followPosition p).confirmAt p).release p else (s.followPosition p).confirmAt p := by
    rw [State.confirm_eq, hp]
    rfl
  rw [State.judgeOrder, h]
  dsimp only
  show (if o.stage == .confirmed then s.followPosition p
    else if s.unsupervised p then (if s.pulseRun o then (s.followPosition p).confirm o else s.followPosition p)
    else if s.cleared p then (s.followPosition p).confirm o else s.followPosition p) = _
  rw [hconf]
  simp only [beq_iff_eq]
  split
  · rfl
  · split
    · split <;> rfl
    · rfl

end Sys2Proof.Machine
end

section
/-! The rules on orders, outputs, lockouts and the OPEN record (R100, R120, R121, R141, R148), and the rule that no order
waits for evidence that has come (R107, R109): every operation of the order unit keeps both. -/

namespace Sys2Proof.Machine

open Wire

variable {s t u : State} {p : Index} {o r : Order} {waits : Index → Prop}

/-! ### The rule of the order unit and the record unit -/

/-- No stored copy of a record, and none being written, is OPEN (R148). -/
def Store.noneOpen (st : Store) : Prop :=
  (∀ p ∈ st.records, ∀ r ∈ p.content, r.state ≠ .opened) ∧ ∀ w ∈ st.busy, w.content.recordState ≠ some .opened

theorem State.openAgrees_iff : s.openAgrees ↔
    (true ∈ s.opens ↔ s.orders ≠ []) ∧ true ∉ s.opens.dropLast ∧ s.store.noneOpen := by
  have hlast : true ∉ s.opens.dropLast ↔ ∀ r ∈ s.records.dropLast, r.state ≠ .opened := by
    simp [State.opens, ← List.map_dropLast]
  rw [hlast]
  simp [State.openAgrees, State.opens, Store.noneOpen]

/-- The decision path queues writes, but touches no stored copy and no write in progress. -/
theorem State.noneOpen_of_apart (h : t.apart = s.apart) (hs : s.store.noneOpen) : t.store.noneOpen := by
  have hrecords : t.store.records = s.store.records := (congrArg (fun u : State => u.store.records) h :)
  have hbusy : t.store.busy = s.store.busy := (congrArg (fun u : State => u.store.busy) h :)
  rwa [Store.noneOpen, hrecords, hbusy]

namespace State.openAgrees

/-- The same records OPEN, and orders standing or not as before. -/
theorem congr (h : s.openAgrees) (hn : t.orders = [] ↔ s.orders = []) (ho : t.opens = s.opens)
    (hs : t.store.noneOpen) : t.openAgrees := by
  obtain ⟨hopen, hlast, -⟩ := State.openAgrees_iff.mp h
  exact State.openAgrees_iff.mpr ⟨by rw [ho, hopen, ne_eq, ne_eq, hn], ho ▸ hlast, hs⟩

/-- With no order standing none is OPEN. -/
theorem of_noOrders (ho : t.orders = []) (hnone : true ∉ t.opens) (hs : t.store.noneOpen) : t.openAgrees :=
  State.openAgrees_iff.mpr ⟨by simp [ho, hnone], fun hm => hnone (List.mem_of_mem_dropLast hm), hs⟩

/-- The departure of an order keeps the OPEN record exactly while others stand (R145). -/
theorem depart (h : s.openAgrees) (p : Index) {f : State → State} (hf : ChangesEntries f) :
    (s.depart p f).openAgrees := by
  obtain ⟨-, -, hstore⟩ := State.openAgrees_iff.mp h
  have hstore := State.noneOpen_of_apart (s.depart_apart p f hf.apart) hstore
  have horders := s.depart_orders p hf.orders
  have hopens := s.depart_opens p hf
  by_cases hnil : (s.depart p f).orders = []
  · rw [if_pos hnil] at hopens
    exact of_noOrders hnil (by simp [hopens]) hstore
  · rw [if_neg hnil] at hopens
    refine h.congr (iff_of_false hnil fun hs => hnil ?_) hopens hstore
    rw [horders, hs, List.filter_nil]

/-- The creation of an order has the OPEN record stand, and be the newest (R143, R144). -/
theorem recordCreation (h : s.openAgrees) (ha : t.apart = s.apart) (hr : t.opens = s.opens) (ho : t.orders ≠ [])
    (c : Cause) : (t.recordCreation s.orders.isEmpty o c).openAgrees := by
  obtain ⟨hopen, hlast, hstore⟩ := State.openAgrees_iff.mp h
  have hopens := t.recordCreation_opens s.orders.isEmpty o c
  refine State.openAgrees_iff.mpr ⟨?_, ?_, State.noneOpen_of_apart ((State.recordCreation_apart _ _ _ _).trans ha) hstore⟩
  all_goals
    rw [hopens, hr]
  · rw [State.recordCreation_orders]
    cases hs : s.orders with
    | nil => simp [ho]
    | cons _ _ =>
      have hstood : s.orders ≠ [] := by simp [hs]
      simpa [ho] using hopen.mpr hstood
  · cases hs : s.orders with
    | nil =>
      have hnone : true ∉ s.opens := fun hm => hopen.mp hm hs
      have hdrop : true ∉ s.opens.drop 1 := fun hm => hnone (List.mem_of_mem_drop hm)
      simp only [List.isEmpty_nil, if_true, List.dropLast_concat]
      split
      · exact hnone
      · exact hdrop
    | cons _ _ => simpa using hlast

end State.openAgrees

namespace State.ordersAgree

/-- The rule reads the orders, outputs, lockouts, which records are OPEN, and the store's record places. -/
theorem congr (h : s.ordersAgree) (ho : t.orders = s.orders) (hu : t.outputs = s.outputs) (hl : t.lockout = s.lockout)
    (hr : t.opens = s.opens) (hs : t.store.noneOpen) : t.ordersAgree := by
  obtain ⟨hone, hout, hlock, hopen⟩ := h
  refine ⟨?_, ?_, ?_, hopen.congr (by rw [ho]) hr hs⟩
  · rwa [State.oneOrderEach, ho]
  · rwa [State.outputsBacked, hu, ho]
  · rwa [State.liveLocked, ho, hl]

/-- What leaves apart alone touches no stored copy. -/
theorem congr_apart (h : s.ordersAgree) (ha : t.apart = s.apart) (ho : t.orders = s.orders) (hu : t.outputs = s.outputs)
    (hl : t.lockout = s.lockout) (hr : t.opens = s.opens) : t.ordersAgree :=
  h.congr ho hu hl hr (State.noneOpen_of_apart ha (State.openAgrees_iff.mp h.2.2.2).2.2)

/-- The order of a position changed, LIVE or DRY as it was, STALLED only if it was. -/
theorem mapOrder (h : s.ordersAgree) (p : Index) {f : Order → Order} (hp : ∀ o, (f o).position = o.position)
    (ha : ∀ o, (f o).attr = o.attr) (hs : ∀ o, o.stage ≠ .stalled → (f o).stage ≠ .stalled) :
    (s.mapOrder p f).ordersAgree := by
  obtain ⟨hone, hout, hlock, hopen⟩ := h
  refine ⟨?_, fun q hq => ?_, fun o ho hlive h8 => ?_, ?_⟩
  · rwa [State.oneOrderEach, State.mapOrder_positions_eq hp]
  · obtain ⟨o, ho, hpos, hlive, hstage⟩ := hout q hq
    by_cases he : o.position = p
    · exact ⟨f o, List.mem_map.mpr ⟨o, ho, by simp [he]⟩, (hp o).trans hpos, (ha o).trans hlive, hs o hstage⟩
    · exact ⟨o, List.mem_map.mpr ⟨o, ho, by simp [he]⟩, hpos, hlive, hstage⟩
  · rcases State.mem_mapOrder ho with ⟨r, hr, -, rfl⟩ | ⟨hold, -⟩
    · rw [hp] at h8 ⊢
      exact hlock r hr ((ha r).symm.trans hlive) h8
    · exact hlock o hold hlive h8
  · exact hopen.congr (by simp [State.mapOrder]) rfl (State.openAgrees_iff.mp hopen).2.2

/-- An entry of the OPEN record changed. -/
theorem mapEntry (h : s.ordersAgree) (p : Index) (f : Entry → Entry) : (s.mapEntry p f).ordersAgree :=
  h.congr_apart rfl rfl rfl rfl (s.mapEntry_opens p f)

/-- A departure de-energises its position's output (R108, R120). -/
theorem depart (h : s.ordersAgree) (p : Index) {f : State → State} (hf : ChangesEntries f) :
    (s.depart p f).ordersAgree := by
  obtain ⟨hone, hout, hlock, hopen⟩ := h
  have horders := s.depart_orders p hf.orders
  refine ⟨?_, fun q hq => ?_, fun o ho hlive h8 => ?_, hopen.depart p hf⟩
  · rw [State.oneOrderEach, horders]
    exact hone.sublist (List.filter_sublist.map _)
  · rw [s.depart_outputs p hf, mem_withoutMember] at hq
    obtain ⟨o, ho, hpos, hlive, hstage⟩ := hout q hq.2.2
    refine ⟨o, ?_, hpos, hlive, hstage⟩
    rw [horders]
    exact List.mem_filter.mpr ⟨ho, by simpa [hpos] using hq.2.1⟩
  · rw [horders] at ho
    rw [s.depart_lockout p hf]
    exact hlock o (List.mem_filter.mp ho).1 hlive h8

theorem release (h : s.ordersAgree) (p : Index) : (s.release p).ordersAgree := h.depart p (recordRelease_changesEntries p)

theorem confirmAt (h : s.ordersAgree) (p : Index) : (s.confirmAt p).ordersAgree :=
  (h.mapOrder p (f := fun q => { q with stage := .confirmed }) (fun _ => rfl) (fun _ => rfl)
    fun _ _ => Stage.noConfusion).mapEntry p _

theorem followPosition (h : s.ordersAgree) (p : Index) : (s.followPosition p).ordersAgree :=
  h.mapOrder p (f := fun q => { q with supervised := !s.unsupervised p }) (fun _ => rfl) (fun _ => rfl) fun _ => id

theorem confirm (h : s.ordersAgree) (o : Order) : (s.confirm o).ordersAgree := by
  rw [s.confirm_eq o]
  split
  · exact (h.confirmAt _).release _
  · exact h.confirmAt _

theorem judgeOrder (h : s.ordersAgree) (p : Index) : (s.judgeOrder p).ordersAgree := by
  cases ho : s.orderAt p with
  | none => rwa [State.judgeOrder_of_none ho]
  | some o =>
    have hf := h.followPosition p
    have hr := (hf.confirmAt p).release p
    rw [State.judgeOrder_of_some ho]
    split
    · exact hf
    · split
      · split
        · exact hr
        · exact hf
      · split
        · split
          · exact hr
          · exact hf.confirmAt p
        · exact hf

/-- A LIVE order's output energised and its lockout set (R120, R121): whatever orders stand after it, they agree if the
position's own is LIVE and driven. -/
theorem energised (h : s.ordersAgree)
    (hold : ∀ o ∈ s.orders, o.position ≠ p → o ∈ t.orders)
    (hnew : ∀ o ∈ t.orders, o ∈ s.orders ∨ o.position = p)
    (hlive : ∃ o ∈ t.orders, o.position = p ∧ o.attr = .live ∧ o.stage ≠ .stalled)
    (hu : t.outputs = s.outputs) (hl : t.lockout = s.lockout) :
    ((t.energise p).setLockout p).outputsBacked ∧ ((t.energise p).setLockout p).liveLocked := by
  obtain ⟨-, hout, hlock, -⟩ := h
  constructor
  · intro q hq
    rw [State.setLockout_outputs] at hq
    obtain ⟨-, rfl | hq⟩ := mem_withMember.mp hq
    · rwa [State.setLockout_orders]
    · obtain ⟨o, ho, hpos, hattr, hstage⟩ := hout q (hu ▸ hq)
      rw [State.setLockout_orders]
      by_cases hp : q = p
      · exact hp ▸ hlive
      · exact ⟨o, hold o ho (hpos ▸ hp), hpos, hattr, hstage⟩
  · intro o ho hattr h8
    rw [State.setLockout_orders] at ho
    refine State.mem_setLockout h8 ?_
    rcases hnew o ho with hmem | hpos
    · refine .inr ?_
      show o.position ∈ t.lockout
      rw [hl]
      exact hlock o hmem hattr h8
    · exact .inl hpos

/-- A new order for a position that has none (R103). -/
theorem createOrder (h : s.ordersAgree) (hn : s.orderAt p = none) (c : Cause) (a : Attribute) :
    (s.createOrder p c a).ordersAgree := by
  have hnone := State.orderAt_eq_none.mp hn
  have hplaced : (s.placeOrder p c a).outputsBacked ∧ (s.placeOrder p c a).liveLocked := by
    obtain ⟨-, hout, hlock, -⟩ := id h
    cases a with
    | dry =>
      refine ⟨fun q hq => ?_, fun o ho hlive h8 => ?_⟩
      · obtain ⟨o, ho, hrest⟩ := hout q hq
        exact ⟨o, List.mem_append_left _ ho, hrest⟩
      · rcases List.mem_append.mp ho with hold | hnew
        · exact hlock o hold hlive h8
        · rw [List.mem_singleton.mp hnew] at hlive
          exact Attribute.noConfusion hlive
    | live =>
      exact energised (t := { s with orders := s.orders ++ [s.newOrder p c .live] }) h
        (fun o ho _ => List.mem_append_left _ ho)
        (fun o ho => (List.mem_append.mp ho).imp_right fun hm => by rw [List.mem_singleton.mp hm]; rfl)
        ⟨_, List.mem_append_right _ (List.mem_singleton_self _), rfl, rfl, Stage.noConfusion⟩ rfl rfl
  obtain ⟨hone, -, -, hopen⟩ := h
  rw [s.createOrder_eq]
  refine judgeOrder ⟨?_, ?_, ?_, hopen.recordCreation (s.placeOrder_apart p c a) ?_ (by simp) c⟩ p
  · rw [State.oneOrderEach, State.recordCreation_orders, State.placeOrder_orders, List.map_append]
    exact List.nodup_append.mpr ⟨hone, by simp, by simpa [State.newOrder] using hnone⟩
  · rw [State.outputsBacked, State.recordCreation_orders, State.recordCreation_outputs]
    exact hplaced.1
  · rw [State.liveLocked, State.recordCreation_orders, State.recordCreation_lockout]
    exact hplaced.2
  · rw [State.opens, State.placeOrder_records]
    rfl

/-- A DRY order becomes LIVE (R105). -/
theorem upgradeOrder (h : s.ordersAgree) (ho : o ∈ s.orderAt p) : (s.upgradeOrder p).ordersAgree := by
  obtain ⟨hmem, hpos⟩ := State.mem_of_orderAt ho
  have hdriven : (s.liveAgain p).outputsBacked ∧ (s.liveAgain p).liveLocked := by
    refine energised (t := s.mapOrder p (s.upgraded p)) h (fun o ho hp => List.mem_map.mpr ⟨o, ho, by simp [hp]⟩)
      (fun o ho => ?_) ⟨s.upgraded p o, List.mem_map.mpr ⟨o, hmem, by simp [hpos]⟩, hpos, rfl, Stage.noConfusion⟩ rfl rfl
    rcases State.mem_mapOrder ho with ⟨r, -, hp, rfl⟩ | ⟨hold, -⟩
    · exact .inr hp
    · exact .inl hold
  obtain ⟨hone, -, -, hopen⟩ := h
  have hlive : (s.liveAgain p).ordersAgree := by
    refine ⟨?_, hdriven.1, hdriven.2, hopen.congr ?_ ?_ ?_⟩
    · rw [State.oneOrderEach, State.liveAgain_orders, State.mapOrder_positions_eq (f := s.upgraded p) fun _ => rfl]
      exact hone
    · rw [State.liveAgain_orders]
      simp [State.mapOrder]
    · rw [State.opens, State.liveAgain_records]
      rfl
    · exact State.noneOpen_of_apart (s.liveAgain_apart p) (State.openAgrees_iff.mp hopen).2.2
  rw [s.upgradeOrder_eq]
  exact (hlive.congr_apart (t := (s.liveAgain p).recordUpgrade p) rfl rfl rfl rfl (State.recordUpgrade_opens _ p)).judgeOrder p

theorem requestOrder (h : s.ordersAgree) (p : Index) (c : Cause) (a : Attribute) : (s.requestOrder p c a).ordersAgree := by
  unfold State.requestOrder
  cases ho : s.orderAt p with
  | none => exact h.createOrder ho c a
  | some o =>
    have hjoined : (s.mapOrder p fun q => q.addCause c).ordersAgree :=
      h.mapOrder p (f := fun q => q.addCause c) (fun _ => rfl) (fun _ => rfl) fun _ => id
    dsimp only
    split
    · refine hjoined.upgradeOrder (o := o.addCause c) ?_
      rw [State.orderAt_mapOrder (f := fun q => q.addCause c) fun _ => rfl, ho]
      simp [(State.mem_of_orderAt ho).2]
    · exact hjoined

/-- The stall de-energises the output of the order that stalls (R115, R120). -/
theorem stallOrder (h : s.ordersAgree) (o : Order) : (s.stallOrder o).ordersAgree := by
  obtain ⟨hone, hout, hlock, hopen⟩ := id h
  have hstalled : ((s.mapOrder o.position fun q => { q with stage := .stalled }).deenergise o.position).ordersAgree := by
    refine ⟨?_, fun q hq => ?_, fun r hr hlive h8 => ?_, ?_⟩
    · rwa [State.oneOrderEach, State.deenergise_orders,
        State.mapOrder_positions_eq (f := fun q => { q with stage := .stalled }) fun _ => rfl]
    · obtain ⟨-, hne, hin⟩ := mem_withoutMember.mp hq
      obtain ⟨r, hr, hpos, hrest⟩ := hout q hin
      exact ⟨r, List.mem_map.mpr ⟨r, hr, by simp [hpos, hne]⟩, hpos, hrest⟩
    · rcases State.mem_mapOrder hr with ⟨v, hv, -, rfl⟩ | ⟨hold, -⟩
      · exact hlock v hv hlive h8
      · exact hlock r hold hlive h8
    · exact hopen.congr (by simp [State.mapOrder]) rfl (State.openAgrees_iff.mp hopen).2.2
  exact (hstalled.mapEntry o.position _).congr_apart rfl rfl rfl rfl rfl

/-- Lockouts cleared where no order stands (R122, R123). -/
theorem clearLockouts (h : s.ordersAgree) {ps : List Index} (hps : ∀ p ∈ ps, s.orderAt p = none) :
    (s.clearLockouts ps).ordersAgree := by
  obtain ⟨hone, hout, hlock, hopen⟩ := h
  rw [s.clearLockouts_eq ps]
  refine ⟨hone, hout, fun o ho hlive h8 => ?_, hopen.congr Iff.rfl rfl (State.openAgrees_iff.mp hopen).2.2⟩
  refine List.mem_filter.mpr ⟨hlock o ho hlive h8, ?_⟩
  simpa using fun hin => State.orderAt_eq_none.mp (hps _ hin) o ho rfl

end State.ordersAgree

end Sys2Proof.Machine
end

section
/-! The rule that no order waits for evidence that has come (R107, R109), with the positions named whose order has yet to be
judged; a judgement takes its position out of those that wait, and the order unit's other operations leave them be. -/

namespace Sys2Proof.Machine

open Wire

variable {s t u : State} {p : Index} {o r : Order} {waits waits' : Index → Prop}

/-! ### The evidence (R62) -/

/-- The evidence on a position is the same in both states: whether it is unsupervised and whether it is cleared. -/
def SameEvidence (s t : State) (p : Index) : Prop := t.unsupervised p = s.unsupervised p ∧ t.cleared p = s.cleared p

/-- The evidence is read from the position's use and derived position, the points attached to it, and their CP. -/
theorem SameEvidence.of_parts (hu : t.usedPosition p = s.usedPosition p)
    (hd : (t.position p).derived = (s.position p).derived)
    (ha : ∀ m ∈ upTo 4, (t.pointSet m).attached = some p ↔ (s.pointSet m).attached = some p)
    (hc : ∀ m ∈ upTo 4, (s.pointSet m).attached = some p → (t.point m).cp = (s.point m).cp) : SameEvidence s t p := by
  have hattached : t.attachedPoints p = s.attachedPoints p :=
    List.filter_congr fun m hm => by rw [Bool.eq_iff_iff, beq_iff_eq, beq_iff_eq, ha m hm]
  have hall : (t.attachedPoints p).all (fun m => !(t.point m).cp) = (s.attachedPoints p).all fun m => !(s.point m).cp := by
    rw [hattached, Bool.eq_iff_iff, List.all_eq_true, List.all_eq_true]
    refine forall₂_congr fun m hm => ?_
    obtain ⟨h4, hat⟩ := List.mem_filter.mp hm
    rw [hc m h4 (eq_of_beq hat)]
  exact ⟨by rw [State.unsupervised, State.unsupervised, hu, hd, hattached],
    by rw [State.cleared, State.cleared, hu, hd, hall]⟩

/-- The decision path leaves the evidence alone. -/
theorem SameEvidence.of_apart (h : t.apart = s.apart) (p : Index) : SameEvidence s t p := by
  have hset := State.settings_of_apart h
  have hpos : t.positions = s.positions := (congrArg (fun u : State => u.positions) h :)
  refine of_parts (by rw [State.usedPosition, State.usedPosition, hset]) (by rw [State.position, State.position, hpos])
    (fun m _ => ?_) fun m _ _ => State.cp_of_apart h m
  rw [State.pointSet, State.pointSet, hset]

/-! ### The rule -/

/-- An order follows its position, and waits for no evidence (R107, R109). -/
def State.orderJudged (s : State) (o : Order) : Prop :=
  o.supervised = !s.unsupervised o.position ∧
    (o.supervised = true → o.stage ≠ .confirmed → s.cleared o.position = false)

/-- The rule, but for the orders of the positions that `waits` names. -/
structure State.ordersJudgedBut (s : State) (waits : Index → Prop) : Prop where
  one : s.oneOrderEach
  judged : ∀ o ∈ s.orders, waits o.position ∨ s.orderJudged o

/-- Every order is judged, and where zones are not evaluated none stands (R97, R155, R161). -/
structure State.ordersStand (s : State) : Prop where
  judged : s.ordersJudgedBut fun _ => False
  still : s.control.state.evaluates = false → s.orders = []

theorem State.ordersJudged_iff : s.ordersJudged ↔ (s.powered = false → s.orders = []) ∧ s.ordersStand := by
  constructor
  · rintro ⟨hone, hnone, hj⟩
    exact ⟨fun hp => hnone (.inl hp), ⟨⟨hone, fun o ho => .inr (hj o ho)⟩,
      fun he => hnone (.inr (Protection.evaluates_false.mp he))⟩⟩
  · rintro ⟨hp, ⟨⟨hone, hj⟩, hs⟩⟩
    exact ⟨hone, fun h => h.elim hp fun he => hs (Protection.evaluates_false.mpr he),
      fun o ho => (hj o ho).resolve_left id⟩

theorem State.ordersJudgedBut.of_noOrders (h : s.orders = []) : s.ordersJudgedBut waits :=
  ⟨by simp [State.oneOrderEach, h], by simp [h]⟩

theorem State.ordersStand.of_noOrders (h : s.orders = []) : s.ordersStand := ⟨.of_noOrders h, fun _ => h⟩

theorem State.orderJudged.congr (h : s.orderJudged o) (he : SameEvidence s t o.position) : t.orderJudged o := by
  rwa [State.orderJudged, he.1, he.2]

namespace State.ordersJudgedBut

theorem mono (h : s.ordersJudgedBut waits) (hw : ∀ o ∈ s.orders, waits o.position → waits' o.position) :
    s.ordersJudgedBut waits' :=
  ⟨h.one, fun o ho => (h.judged o ho).imp_left (hw o ho)⟩

/-- Some of the same orders, with the same evidence on those positions that do not wait. -/
theorem sublist (h : s.ordersJudgedBut waits) (ho : t.orders.Sublist s.orders)
    (he : ∀ p, waits' p ∨ (waits p → waits' p) ∧ SameEvidence s t p) : t.ordersJudgedBut waits' := by
  refine ⟨h.one.sublist (ho.map _), fun o hmem => ?_⟩
  rcases he o.position with hw | ⟨hmono, hev⟩
  · exact .inl hw
  · exact (h.judged o (ho.subset hmem)).imp hmono fun hj => hj.congr hev

/-- The same orders, and the decision path alone has acted. -/
theorem congr_apart (h : s.ordersJudgedBut waits) (ha : t.apart = s.apart) (ho : t.orders = s.orders) :
    t.ordersJudgedBut waits :=
  h.sublist (by rw [ho]) fun p => .inr ⟨id, .of_apart ha p⟩

/-- The order of a position changed: it is judged then, or its position waits. -/
theorem mapOrder (h : s.ordersJudgedBut waits) (p : Index) {f : Order → Order} (hp : ∀ o, (f o).position = o.position)
    (hw : ∀ q, q ≠ p → waits q → waits' q) (hj : ∀ o ∈ s.orders, o.position = p → waits' p ∨ s.orderJudged (f o)) :
    (s.mapOrder p f).ordersJudgedBut waits' := by
  refine ⟨?_, fun o ho => ?_⟩
  · rw [State.oneOrderEach, State.mapOrder_positions_eq hp]
    exact h.one
  · rcases State.mem_mapOrder ho with ⟨r, hr, hpos, rfl⟩ | ⟨hold, hne⟩
    · rw [hp, hpos]
      exact hj r hr hpos
    · exact (h.judged o hold).imp_left (hw _ hne)

/-- The order of a position changed in nothing that its judgement rests on. -/
theorem mapOrder_keep (h : s.ordersJudgedBut waits) (p : Index) {f : Order → Order}
    (hp : ∀ o, (f o).position = o.position) (hj : ∀ o ∈ s.orders, o.position = p → s.orderJudged o → s.orderJudged (f o)) :
    (s.mapOrder p f).ordersJudgedBut waits :=
  h.mapOrder p hp (fun _ _ => id) fun o ho hpos => (hpos ▸ h.judged o ho).imp_right (hj o ho hpos)

theorem depart (h : s.ordersJudgedBut waits) (p : Index) {f : State → State} (hf : ChangesEntries f) :
    (s.depart p f).ordersJudgedBut fun q => waits q ∧ q ≠ p := by
  have horders := s.depart_orders p hf.orders
  have hsub := h.sublist (waits' := waits) (t := s.depart p f) (by rw [horders]; exact List.filter_sublist)
    fun q => .inr ⟨id, .of_apart (s.depart_apart p f hf.apart) q⟩
  refine hsub.mono fun o ho hw => ⟨hw, ?_⟩
  rw [horders] at ho
  simpa using (List.mem_filter.mp ho).2

/-- A confirmed order waits for nothing (R107). -/
theorem confirmAt (h : s.ordersJudgedBut waits) (p : Index) : (s.confirmAt p).ordersJudgedBut waits :=
  (h.mapOrder_keep p (f := fun q => { q with stage := .confirmed }) (fun _ => rfl)
    fun _ _ _ hj => ⟨hj.1, fun _ hne => absurd rfl hne⟩).congr_apart rfl rfl

theorem release (h : s.ordersJudgedBut waits) (p : Index) : (s.release p).ordersJudgedBut fun q => waits q ∧ q ≠ p :=
  h.depart p (recordRelease_changesEntries p)

theorem confirm (h : s.ordersJudgedBut waits) (o : Order) : (s.confirm o).ordersJudgedBut waits := by
  rw [s.confirm_eq o]
  split
  · exact ((h.confirmAt _).release _).mono fun _ _ hw => hw.1
  · exact h.confirmAt _

/-- The judgement of a position's order ends its wait (R107 to R109). -/
theorem judgeOrder (h : s.ordersJudgedBut waits) (p : Index) :
    (s.judgeOrder p).ordersJudgedBut fun q => waits q ∧ q ≠ p := by
  cases ho : s.orderAt p with
  | none =>
    rw [State.judgeOrder_of_none ho]
    exact h.mono fun o hmem hw => ⟨hw, State.orderAt_eq_none.mp ho o hmem⟩
  | some o =>
    obtain ⟨hmem, hpos⟩ := State.mem_of_orderAt ho
    have hfollowed (hno : o.stage = .confirmed ∨ s.unsupervised p = true ∨ s.cleared p = false) :
        (s.followPosition p).ordersJudgedBut fun q => waits q ∧ q ≠ p := by
      refine h.mapOrder p (fun _ => rfl) (fun q hne hw => ⟨hw, hne⟩) fun r hr hp => .inr ?_
      obtain rfl : r = o := h.one.eq hmem hr (hp.trans hpos.symm)
      subst hp
      refine ⟨rfl, fun hsup hne => ?_⟩
      rcases hno with hconf | hun | hclear
      · exact absurd hconf hne
      · simp [hun] at hsup
      · exact hclear
    have hconfirmed : ((s.followPosition p).confirmAt p).ordersJudgedBut fun q => waits q ∧ q ≠ p := by
      rw [s.followPosition_confirmAt p]
      refine congr_apart (s := s.mapOrder p fun q => { q with supervised := !s.unsupervised p, stage := .confirmed }) ?_ rfl rfl
      refine h.mapOrder p (fun _ => rfl) (fun q hne hw => ⟨hw, hne⟩) fun r _ hp => .inr ?_
      subst hp
      exact ⟨rfl, fun _ hne => absurd rfl hne⟩
    have hreleased : (((s.followPosition p).confirmAt p).release p).ordersJudgedBut fun q => waits q ∧ q ≠ p :=
      (hconfirmed.release p).mono fun _ _ hw => hw.1
    rw [State.judgeOrder_of_some ho]
    split
    · next hconf => exact hfollowed (.inl hconf)
    · split
      · next hun =>
        split
        · exact hreleased
        · exact hfollowed (.inr (.inl hun))
      · split
        · split
          · exact hreleased
          · exact hconfirmed
        · next hclear => exact hfollowed (.inr (.inr (by simpa using hclear)))

/-- A new order is judged with its creation (R103, R107). -/
theorem createOrder (h : s.ordersJudgedBut waits) (hn : s.orderAt p = none) (c : Cause) (a : Attribute) :
    (s.createOrder p c a).ordersJudgedBut waits := by
  have hrecorded : ((s.placeOrder p c a).recordCreation s.orders.isEmpty (s.newOrder p c a) c).ordersJudgedBut
      fun q => waits q ∨ q = p := by
    have hapart : ((s.placeOrder p c a).recordCreation s.orders.isEmpty (s.newOrder p c a) c).apart = s.apart := by simp
    refine ⟨?_, fun o ho => ?_⟩
    · rw [State.oneOrderEach, State.recordCreation_orders, State.placeOrder_orders, List.map_append]
      exact List.nodup_append.mpr ⟨h.one, by simp, by simpa [State.newOrder] using State.orderAt_eq_none.mp hn⟩
    · rw [State.recordCreation_orders, State.placeOrder_orders] at ho
      rcases List.mem_append.mp ho with hold | hnew
      · exact (h.judged o hold).imp .inl fun hj => hj.congr (.of_apart hapart _)
      · exact .inl (.inr (by rw [List.mem_singleton.mp hnew]; rfl))
  rw [s.createOrder_eq]
  exact (hrecorded.judgeOrder p).mono fun _ _ hw => hw.1.resolve_right hw.2

/-- An upgraded order is judged anew (R105, R107). -/
theorem upgradeOrder (h : s.ordersJudgedBut waits) (p : Index) : (s.upgradeOrder p).ordersJudgedBut waits := by
  have hmapped : (s.mapOrder p (s.upgraded p)).ordersJudgedBut fun q => waits q ∨ q = p :=
    h.mapOrder p (fun _ => rfl) (fun _ _ => .inl) fun _ _ _ => .inl (.inr rfl)
  have hlive : ((s.liveAgain p).recordUpgrade p).ordersJudgedBut fun q => waits q ∨ q = p :=
    hmapped.congr_apart (s.liveAgain_apart p) (s.liveAgain_orders p)
  rw [s.upgradeOrder_eq]
  exact (hlive.judgeOrder p).mono fun _ _ hw => hw.1.resolve_right hw.2

theorem requestOrder (h : s.ordersJudgedBut waits) (p : Index) (c : Cause) (a : Attribute) :
    (s.requestOrder p c a).ordersJudgedBut waits := by
  unfold State.requestOrder
  cases ho : s.orderAt p with
  | none => exact h.createOrder ho c a
  | some o =>
    have hjoined : (s.mapOrder p fun q => q.addCause c).ordersJudgedBut waits :=
      h.mapOrder_keep p (f := fun q => q.addCause c) (fun _ => rfl) fun _ _ _ => id
    dsimp only
    split
    · exact hjoined.upgradeOrder p
    · exact hjoined

/-- The stage of an order that is not confirmed moves on (R110, R115). -/
theorem mapOrder_stage (h : s.ordersJudgedBut waits) (ho : o ∈ s.orderAt p) (hstage : o.stage ≠ .confirmed)
    {f : Order → Order} (hf : ∀ o, (f o).position = o.position ∧ (f o).supervised = o.supervised) :
    (s.mapOrder p f).ordersJudgedBut waits := by
  obtain ⟨hmem, hpos⟩ := State.mem_of_orderAt ho
  refine h.mapOrder_keep p (fun r => (hf r).1) fun r hr hp hj => ?_
  obtain rfl : r = o := h.one.eq hmem hr (hp.trans hpos.symm)
  rw [State.orderJudged, (hf r).1, (hf r).2]
  exact ⟨hj.1, fun hsup _ => hj.2 hsup hstage⟩

end State.ordersJudgedBut

/-! ### What the order unit keeps -/

/-- From `s` to `t` the decision path alone has changed; both rules hold where they held, the second with the same positions
waiting. -/
structure OrdersMove (s t : State) : Prop where
  apart : t.apart = s.apart
  agree : s.ordersAgree → t.ordersAgree
  judged : ∀ waits, s.ordersJudgedBut waits → t.ordersJudgedBut waits

namespace OrdersMove

theorem refl (s : State) : OrdersMove s s := ⟨rfl, id, fun _ => id⟩

theorem trans (h : OrdersMove s t) (h' : OrdersMove t u) : OrdersMove s u :=
  ⟨h'.apart.trans h.apart, h'.agree ∘ h.agree, fun w => h'.judged w ∘ h.judged w⟩

theorem foldl {α : Type} {f : State → α → State} (h : ∀ t x, OrdersMove t (f t x)) (l : List α) (s : State) :
    OrdersMove s (l.foldl f s) :=
  List.foldlRecOn (motive := OrdersMove s) l f (refl s) fun t ht x _ => ht.trans (h t x)

theorem ite {c : Prop} [Decidable c] (ht : OrdersMove s t) (hu : OrdersMove s u) :
    OrdersMove s (if c then t else u) := by
  split
  · exact ht
  · exact hu

/-- Neither orders nor what they drive have changed. -/
theorem same (ha : t.apart = s.apart) (ho : t.orders = s.orders) (hu : t.outputs = s.outputs)
    (hl : t.lockout = s.lockout) (hr : t.opens = s.opens) : OrdersMove s t :=
  ⟨ha, fun h => h.congr_apart ha ho hu hl hr, fun _ h => h.congr_apart ha ho⟩

theorem noteContent (s t : State) : OrdersMove t (s.noteContent t) :=
  same (by simp) (by simp) (by simp) (by simp) (by simp [State.opens])

theorem post (k : NoticeKind) (a b : Nat) : OrdersMove s (s.post k a b) := same rfl rfl rfl rfl rfl

theorem setZone (z : Index) (q : Zone) : OrdersMove s (s.setZone z q) := same rfl rfl rfl rfl rfl

theorem depart (p : Index) {f : State → State} (hf : ChangesEntries f) : OrdersMove s (s.depart p f) :=
  ⟨s.depart_apart p f hf.apart, fun h => h.depart p hf, fun _ h => (h.depart p hf).mono fun _ _ hw => hw.1⟩

theorem release (p : Index) : OrdersMove s (s.release p) := depart p (recordRelease_changesEntries p)

theorem confirm (o : Order) : OrdersMove s (s.confirm o) :=
  ⟨s.confirm_apart o, fun h => h.confirm o, fun _ h => h.confirm o⟩

theorem judgeOrder (p : Index) : OrdersMove s (s.judgeOrder p) :=
  ⟨s.judgeOrder_apart p, fun h => h.judgeOrder p, fun _ h => (h.judgeOrder p).mono fun _ _ hw => hw.1⟩

theorem requestOrder (p : Index) (c : Cause) (a : Attribute) : OrdersMove s (s.requestOrder p c a) :=
  ⟨s.requestOrder_apart p c a, fun h => h.requestOrder p c a, fun _ h => h.requestOrder p c a⟩

theorem requestAll (ps : List Index) (c : Cause) (a : Attribute) : OrdersMove s (s.requestAll ps c a) :=
  foldl (fun _ p => requestOrder p c a) ps s

theorem requestEdge (v p : Index) : OrdersMove s (s.requestEdge v p) := ite (requestOrder _ _ _) (post _ _ _)

/-- The order of a position changed in nothing that either rule reads. -/
theorem mapOrder (p : Index) {f : Order → Order} (hp : ∀ o, (f o).position = o.position)
    (hf : ∀ o, (f o).attr = o.attr ∧ (f o).stage = o.stage ∧ (f o).supervised = o.supervised) :
    OrdersMove s (s.mapOrder p f) :=
  ⟨rfl, fun h => h.mapOrder p hp (fun o => (hf o).1) fun o => by rw [(hf o).2.1]; exact id,
    fun _ h => h.mapOrder_keep p hp fun o _ _ hj => by rwa [State.orderJudged, hp, (hf o).2.1, (hf o).2.2]⟩

/-- A DRIVING order fails, and asks for its backups (R110). -/
theorem failOrder (ho : o ∈ s.orderAt p) (hstage : o.stage ≠ .confirmed) : OrdersMove s (s.failOrder o) := by
  obtain rfl := (State.mem_of_orderAt ho).2
  have hfailed : OrdersMove s ((s.mapOrder o.position fun q =>
      { q with stage := .failed, escalated := some (!o.testOnly) }).recordStage o.position .failed) := by
    refine ⟨rfl, fun h => ?_, fun _ h => ?_⟩
    · exact (h.mapOrder o.position (f := fun q => { q with stage := .failed, escalated := some (!o.testOnly) })
        (fun _ => rfl) (fun _ => rfl) fun _ _ => Stage.noConfusion).mapEntry o.position _
    · exact (h.mapOrder_stage ho hstage (f := fun q => { q with stage := .failed, escalated := some (!o.testOnly) })
        fun _ => ⟨rfl, rfl⟩).congr_apart rfl rfl
  unfold State.failOrder
  refine OrdersMove.trans ?_ (noteContent _ _)
  unfold State.escalate
  dsimp only
  refine (hfailed.trans (post _ _ _)).trans (ite (refl _) (ite ?_ (requestAll _ _ _)))
  exact (requestAll _ _ _).trans
    (mapOrder o.position (f := fun q => { q with remoteHeld := true }) (fun _ => rfl) fun _ => ⟨rfl, rfl, rfl⟩)

/-- A FAILED order stalls (R115). -/
theorem stallOrder (ho : o ∈ s.orderAt p) (hstage : o.stage ≠ .confirmed) : OrdersMove s (s.stallOrder o) := by
  obtain rfl := (State.mem_of_orderAt ho).2
  refine ⟨s.stallOrder_apart o, fun h => h.stallOrder o, fun _ h => ?_⟩
  exact (h.mapOrder_stage ho hstage (f := fun q => { q with stage := .stalled }) fun _ => ⟨rfl, rfl⟩).congr_apart
    rfl rfl

theorem withdrawDry (s : State) : OrdersMove s s.withdrawDry :=
  foldl (fun _ p => depart p (recordWithdrawal_changesEntries p)) _ s

/-! ### Zones (R91 to R95) -/

theorem requestClearing (z : Index) (a : Attribute) : OrdersMove s (s.requestClearing z a) :=
  ite (post _ _ _) (requestAll _ _ _)

theorem growZone (z : Index) (entered : List Index) : OrdersMove s (s.growZone z entered) := by
  unfold State.growZone
  split
  · exact ite (requestAll _ _ _) (refl s)
  · exact refl s

theorem enterAlert (z : Index) (q : Zone) (r : AlertReason) : OrdersMove s (s.enterAlert z q r) :=
  ite (setZone _ _) ((setZone _ _).trans (post _ _ _))

/-- A zone replaced, its trip announced and its clearing set requested (R93, R94). -/
theorem trip (z : Index) (q : Zone) (a : Attribute) (k : Nat) :
    OrdersMove s (((s.setZone z q).post .zoneTrip z k).requestClearing z a) :=
  ((setZone z q).trans (post .zoneTrip z k)).trans (requestClearing z a)

theorem evaluate (z : Index) (entered : List Index) : OrdersMove s (s.evaluate z entered) := by
  unfold State.evaluate
  split
  · exact refl s
  · dsimp only
    split
    case h_1 | h_2 | h_3 | h_4 => exact setZone _ _
    case h_5 | h_6 => exact enterAlert _ _ _
    case h_7 | h_8 => exact trip _ _ _ _
    case h_9 =>
      refine OrdersMove.trans (ite (setZone _ _) ?_) (growZone z entered)
      split
      · exact trip _ _ _ _
      · exact setZone _ _

theorem evaluateNoted (z : Index) (entered : List Index) : OrdersMove s (s.evaluateNoted z entered) :=
  (evaluate z entered).trans (noteContent s _)

theorem evaluateWhere (w : Index → Bool) : OrdersMove s (s.evaluateWhere w) := foldl (fun _ z => evaluateNoted z []) _ s

theorem handOver (s t : State) : OrdersMove t (s.handOver t) :=
  foldl (f := fun t' z => t'.evaluateNoted z (s.enteredSince t z)) (fun _ z => evaluateNoted z _) _ t

/-- The zones replaced: their sets (R66). -/
theorem zones (zs : List Zone) : OrdersMove s { s with zones := zs } := same rfl rfl rfl rfl rfl

theorem recompute (s : State) : OrdersMove s s.recompute := (zones _).trans (handOver s _)

theorem reconfirm (s : State) : OrdersMove s s.reconfirm := (zones _).trans (handOver s _)

end OrdersMove

end Sys2Proof.Machine
end

section
/-! The operations that several commands share keep the rules on orders: those that change nothing of what the rules read,
those that change the evidence on a position and then have its order judged (R52, R59, R62), changes of protection state,
the staged application, the store, a restart. -/

namespace Sys2Proof.Machine

open Wire

variable {s t u : State} {p : Index} {waits : Index → Prop}

/-! ### What a command keeps -/

/-- What is proved of every operation: both rules on orders hold after it if they held before it, and the supply stands. -/
structure KeepsOrders (s t : State) : Prop where
  powered : t.powered = s.powered
  agree : s.ordersAgree → t.ordersAgree
  judged : s.ordersStand → t.ordersStand

/-- What the rules on orders read, but for the evidence. -/
def State.orderView (s : State) :
    Bool × Protection × List Order × List Index × List Index × List Bool × List StoredRecord × Option Write :=
  (s.powered, s.control.state, s.orders, s.outputs, s.lockout, s.opens, s.store.records, s.store.busy)

/-- What the rules on orders read, and all that the evidence comes from. -/
def State.ordersView (s : State) :
    (Bool × Protection × List Order × List Index × List Index × List Bool × List StoredRecord × Option Write) ×
      (TopologySettings × List PointSettings × List Position) × List Point :=
  (s.orderView, s.grid, s.current.points)

/-- Orders and what they drive are as they were, and a store without OPEN records has none. -/
structure SameOrders (s t : State) : Prop where
  powered : t.powered = s.powered
  control : t.control.state = s.control.state
  orders : t.orders = s.orders
  outputs : t.outputs = s.outputs
  lockout : t.lockout = s.lockout
  opens : t.opens = s.opens
  stored : s.store.noneOpen → t.store.noneOpen

theorem SameOrders.of_view (h : t.orderView = s.orderView) : SameOrders s t := by
  simp only [State.orderView, Prod.mk.injEq] at h
  obtain ⟨hp, hc, ho, hu, hl, hr, hs, hb⟩ := h
  exact ⟨hp, hc, ho, hu, hl, hr, fun h => by rwa [Store.noneOpen, hs, hb]⟩

theorem SameOrders.agree (h : SameOrders s t) (hs : s.ordersAgree) : t.ordersAgree :=
  hs.congr h.orders h.outputs h.lockout h.opens (h.stored (State.openAgrees_iff.mp hs.2.2.2).2.2)

/-- The same orders, with the same evidence on those positions that do not wait. -/
theorem SameOrders.judgedBut (h : SameOrders s t) (he : ∀ p, waits p ∨ SameEvidence s t p)
    (hs : s.ordersJudgedBut fun _ => False) : t.ordersJudgedBut waits :=
  hs.sublist (by rw [h.orders]) fun p => (he p).imp_right fun hev => ⟨False.elim, hev⟩

theorem SameEvidence.of_grid (hg : t.grid = s.grid) (hp : t.current.points = s.current.points) (p : Index) :
    SameEvidence s t p := by
  simp only [State.grid, Prod.mk.injEq] at hg
  obtain ⟨ht, hm, hpos⟩ := hg
  refine of_parts (by rw [State.usedPosition, State.usedPosition, ht]) (by rw [State.position, State.position, hpos])
    (fun m _ => ?_) fun m _ _ => by rw [State.point, State.point, hp]
  rw [State.pointSet, State.pointSet, hm]

/-- A position's record replaced leaves the evidence on every other position. -/
theorem SameEvidence.setPosition {q : Index} (c : Position) (h : q = p → c.derived = (s.position p).derived) :
    SameEvidence s (s.setPosition p c) q := by
  refine of_parts rfl ?_ (fun _ _ => Iff.rfl) fun _ _ _ => rfl
  rcases item_put_cases s.positions .blank c p q with hq | ⟨rfl, hq⟩
  · exact (congrArg Position.derived hq :)
  · exact (congrArg Position.derived hq :).trans (h rfl)

namespace KeepsOrders

theorem refl (s : State) : KeepsOrders s s := ⟨rfl, id, id⟩

theorem trans (h : KeepsOrders s t) (h' : KeepsOrders t u) : KeepsOrders s u :=
  ⟨h'.powered.trans h.powered, h'.agree ∘ h.agree, h'.judged ∘ h.judged⟩

theorem foldl {α : Type} {f : State → α → State} (h : ∀ t x, KeepsOrders t (f t x)) (l : List α) (s : State) :
    KeepsOrders s (l.foldl f s) :=
  List.foldlRecOn (motive := KeepsOrders s) l f (refl s) fun t ht x _ => ht.trans (h t x)

theorem ite {c : Prop} [Decidable c] (ht : KeepsOrders s t) (hu : KeepsOrders s u) :
    KeepsOrders s (if c then t else u) := by
  split
  · exact ht
  · exact hu

/-- Orders are as they were, and so is the evidence. -/
theorem of_same (h : SameOrders s t) (he : ∀ p, SameEvidence s t p) : KeepsOrders s t := by
  refine ⟨h.powered, h.agree, fun hs => ⟨h.judgedBut (fun p => .inr (he p)) hs.judged, fun hc => ?_⟩⟩
  rw [h.orders]
  exact hs.still (h.control ▸ hc)

theorem of_evidence (h : t.orderView = s.orderView) (he : ∀ p, SameEvidence s t p) : KeepsOrders s t :=
  of_same (.of_view h) he

/-- Nothing that the rules read has changed. -/
theorem of_view (h : t.ordersView = s.ordersView) : KeepsOrders s t := by
  simp only [State.ordersView, Prod.mk.injEq] at h
  exact of_evidence h.1 fun p => .of_grid h.2.1 h.2.2 p

/-- What the decision path does keeps both rules where it makes no order while zones are not evaluated (R97). -/
theorem of_move (h : OrdersMove s t) (hs : s.control.state.evaluates = false → s.orders = [] → t.orders = []) :
    KeepsOrders s t := by
  refine ⟨(congrArg (fun u : State => u.powered) h.apart :), h.agree, fun hj => ⟨h.judged _ hj.judged, fun hc => ?_⟩⟩
  rw [State.control_of_apart h.apart] at hc
  exact hs hc (hj.still hc)

/-- What is done to an order that stands: one stands only where zones are evaluated. -/
theorem of_standing (h : OrdersMove s t) (hs : s.orders ≠ []) : KeepsOrders s t := of_move h fun _ hn => absurd hn hs

/-- What is done in a protection state in which zones are evaluated. -/
theorem of_evaluating (h : OrdersMove s t) (hs : s.control.state.evaluates = true) : KeepsOrders s t :=
  of_move h fun hc => absurd hs (by simp [hc])

theorem advanceTo (s : State) (d : Instant) : KeepsOrders s (s.advanceTo d) := by
  rw [s.advanceTo_eq d]
  exact of_view rfl

theorem noteContent (s t : State) : KeepsOrders t (s.noteContent t) := by
  rw [s.noteContent_eq t]
  exact of_view rfl

theorem settle (s t : State) : KeepsOrders t (settle s t) := by
  rw [settle_eq]
  exact of_view rfl

theorem post (s : State) (k : NoticeKind) (a b : Nat) : KeepsOrders s (s.post k a b) := of_view rfl

theorem mapLink (s : State) (f : Link → Link) : KeepsOrders s (s.mapLink f) := of_view rfl

theorem countLink (s : State) (f : LinkCounters → LinkCounters) : KeepsOrders s (s.countLink f) := of_view rfl

/-- A position's record replaced by one with the same derived position. -/
theorem setPosition (c : Position) (h : c.derived = (s.position p).derived) : KeepsOrders s (s.setPosition p c) :=
  of_evidence rfl fun _ => .setPosition c fun _ => h

/-- Points replaced by points with the same CP. -/
theorem setPoints {front : CurrentFront}
    (h : ∀ m, (item front.points .fresh m).cp = (s.point m).cp) : KeepsOrders s { s with current := front } :=
  of_evidence rfl fun _ => .of_parts rfl rfl (fun _ _ => Iff.rfl) fun m _ _ => h m

theorem setPoint (m : Index) (c : Point) (h : c.cp = (s.point m).cp) : KeepsOrders s (s.setPoint m c) := by
  refine setPoints fun k => ?_
  rcases item_put_cases s.current.points .fresh c m k with hk | ⟨rfl, hk⟩
  · exact (congrArg Point.cp hk :)
  · exact (congrArg Point.cp hk :).trans h

end KeepsOrders

/-! ### Zones evaluated (R90, R97) -/

/-- Where zones are not evaluated their evaluation makes no order. -/
theorem State.foldl_evaluateNoted_still (he : s.control.state.evaluates = false) (zs : List Index)
    (e : Index → List Index) : (zs.foldl (fun t z => t.evaluateNoted z (e z)) s).orders = s.orders := by
  refine (List.foldlRecOn (motive := fun t : State => t.control = s.control ∧ t.orders = s.orders) zs _ ⟨rfl, rfl⟩
    fun (t : State) ⟨hc, ho⟩ z _ => ?_).2
  have hidle : t.evaluate z (e z) = t := t.evaluate_idle _ fun hi => by simp [hc, he] at hi
  rw [State.evaluateNoted, hidle]
  exact ⟨(State.control_of_apart (t.noteContent_apart t)).trans hc, (t.noteContent_orders t).trans ho⟩

theorem State.evaluateWhere_still (he : s.control.state.evaluates = false) (w : Index → Bool) :
    (s.evaluateWhere w).orders = s.orders := State.foldl_evaluateNoted_still he _ fun _ => []

theorem State.handOver_still (s : State) (he : t.control.state.evaluates = false) : (s.handOver t).orders = t.orders :=
  State.foldl_evaluateNoted_still he _ _

namespace KeepsOrders

theorem evaluateWhere (w : Index → Bool) : KeepsOrders s (s.evaluateWhere w) :=
  of_move (.evaluateWhere w) fun he hn => (State.evaluateWhere_still he w).trans hn

theorem recompute (s : State) : KeepsOrders s s.recompute :=
  of_move (.recompute s) fun he hn => (State.handOver_still (t := s.replaceSets) s he).trans hn

theorem replaceSets (s : State) : KeepsOrders s s.replaceSets := of_view rfl

theorem handChannel (s t : State) (n : Index) : KeepsOrders t (s.handChannel t n) :=
  ite ((noteContent s t).trans (evaluateWhere _)) (refl t)

/-- A channel replaced, whatever is posted with it, and handed over. -/
theorem handChanged (n : Index) (h : t.ordersView = s.ordersView) : KeepsOrders s (s.handChannel t n) :=
  (of_view h).trans (handChannel s t n)

end KeepsOrders

/-! ### A position derived anew (R57 to R59) -/

/-- The record of one position alone has changed, and a notice may have been posted. -/
theorem State.derive_eq (s : State) (p : Index) :
    ∃ (c : Position) (ns : List Notice), s.derive p = { s.setPosition p c with notices := ns } := by
  unfold State.derive
  dsimp only
  split
  · exact ⟨_, _, rfl⟩
  · exact ⟨_, _, rfl⟩

theorem SameEvidence.derive {q : Index} (h : q = p → ((s.derive p).position p).derived = (s.position p).derived) :
    SameEvidence s (s.derive p) q := by
  obtain ⟨c, ns, hd⟩ := s.derive_eq p
  rw [hd] at h ⊢
  rcases eq_or_ne q p with rfl | hne
  · exact of_parts rfl (h rfl) (fun _ _ => Iff.rfl) fun _ _ _ => rfl
  · exact setPosition (s := s) c fun he => absurd he hne

theorem State.derive_orderView (s : State) (p : Index) : (s.derive p).orderView = s.orderView := by
  obtain ⟨c, ns, hd⟩ := s.derive_eq p
  rw [hd]
  rfl

theorem State.judgeOrder_noOrders (h : s.orders = []) (p : Index) : (s.judgeOrder p).orders = [] := by
  rw [State.judgeOrder_of_none (State.orderAt_eq_none.mpr (by simp [h]))]
  exact h

theorem State.judgeAttached_noOrders (h : s.orders = []) (p : Option Index) : (s.judgeAttached p).orders = [] := by
  cases p with
  | none => exact h
  | some p => exact State.judgeOrder_noOrders h p

/-- A changed position has its order judged, before or after the zones (R59). -/
theorem KeepsOrders.derivePosition (s : State) (p : Index) : KeepsOrders s (s.derivePosition p) := by
  have hsame := SameOrders.of_view (s.derive_orderView p)
  unfold State.derivePosition
  dsimp only
  split
  · next heq => exact of_evidence (s.derive_orderView p) fun q => .derive fun _ => eq_of_beq heq
  · have hmove : OrdersMove (s.derive p) (if s.sched.ordersFirst then ((s.derive p).judgeOrder p).recompute
        else (s.derive p).recompute.judgeOrder p) :=
      .ite ((OrdersMove.judgeOrder p).trans (.recompute _)) ((OrdersMove.recompute _).trans (.judgeOrder p))
    have hwait (hs : s.ordersStand) : (s.derive p).ordersJudgedBut (· = p) :=
      hsame.judgedBut (fun q => (Decidable.em (q = p)).imp_right fun hne => .derive fun he => absurd he hne) hs.judged
    have hstill (v : State) (hc : v.control.state.evaluates = false) (hn : v.orders = []) : v.recompute.orders = [] :=
      (State.handOver_still (t := v.replaceSets) v hc).trans hn
    refine ⟨(congrArg (fun u : State => u.powered) hmove.apart :).trans hsame.powered, hmove.agree ∘ hsame.agree,
      fun hs => ⟨?_, fun hc => ?_⟩⟩
    · split
      · exact (OrdersMove.recompute _).judged _ (((hwait hs).judgeOrder p).mono fun _ _ hw => hw.2 hw.1)
      · exact (((OrdersMove.recompute _).judged _ (hwait hs)).judgeOrder p).mono fun _ _ hw => hw.2 hw.1
    · rw [State.control_of_apart hmove.apart] at hc
      have hn : (s.derive p).orders = [] := hsame.orders.trans (hs.still (hsame.control ▸ hc))
      split
      · refine hstill _ ?_ (State.judgeOrder_noOrders hn p)
        rwa [State.control_of_apart (State.judgeOrder_apart _ p)]
      · exact State.judgeOrder_noOrders (hstill _ hc hn) p

/-! ### Points handed over (R48, R49, R62) -/

/-- A position waits while a point of the list, attached to it, has a CP that differs from what its order was judged by. -/
def State.awaitsPoints (s t : State) (ms : List Index) (p : Index) : Prop :=
  ∃ m ∈ ms, (s.pointSet m).attached = some p ∧ (t.point m).cp ≠ (s.point m).cp

theorem State.awaitsPoints_of_apart (h : u.apart = t.apart) (ms : List Index) :
    s.awaitsPoints u ms = s.awaitsPoints t ms := by
  funext p
  simp only [State.awaitsPoints, State.cp_of_apart h]

theorem State.handPoint_noOrders (s : State) (m : Index) (hc : t.control.state.evaluates = false) (hn : t.orders = []) :
    (s.handPoint t m).orders = [] := by
  have key (v : State) (hv : v.apart = t.apart) (ho : v.orders = []) (b : Bool) :
      (if b then v.evaluatePoint m else v).orders = [] := by
    split
    · exact (State.evaluateWhere_still (by rwa [State.control_of_apart hv]) _).trans ho
    · exact ho
  unfold State.handPoint
  dsimp only
  refine key _ ?_ ?_ _
  · split
    · exact State.judgeAttached_apart _ _
    · rfl
  · split
    · exact State.judgeAttached_noOrders hn _
    · exact hn

theorem OrdersMove.judgeAttached (p : Option Index) : OrdersMove s (s.judgeAttached p) := by
  cases p with
  | none => exact refl s
  | some p => exact judgeOrder p

theorem OrdersMove.handPoint (s t : State) (m : Index) : OrdersMove t (s.handPoint t m) := by
  have judged (b : Bool) : OrdersMove t (if b then t.judgeAttached (s.pointSet m).attached else t) :=
    ite (judgeAttached _) (refl t)
  exact ite ((judged _).trans (evaluateWhere _)) (judged _)

/-- A point handed over, its position waits for it no more. -/
theorem State.ordersJudgedBut.handPoint {m : Index} {ms : List Index}
    (h : t.ordersJudgedBut (s.awaitsPoints t (m :: ms))) :
    (s.handPoint t m).ordersJudgedBut (s.awaitsPoints (s.handPoint t m) ms) := by
  rw [State.awaitsPoints_of_apart (s.handPoint_apart t m)]
  have hjudged : (if (s.point m).cp != (t.point m).cp then t.judgeAttached (s.pointSet m).attached
      else t).ordersJudgedBut (s.awaitsPoints t ms) := by
    split
    · cases ha : (s.pointSet m).attached with
      | none =>
        refine h.mono fun o _ ⟨k, hk, hat, hcp⟩ => ?_
        rcases List.mem_cons.mp hk with rfl | hk
        · exact absurd (ha.symm.trans hat) (by simp)
        · exact ⟨k, hk, hat, hcp⟩
      | some p =>
        refine (h.judgeOrder p).mono fun o _ ⟨⟨k, hk, hat, hcp⟩, hne⟩ => ?_
        rcases List.mem_cons.mp hk with rfl | hk
        · exact absurd (Option.some.inj (hat.symm.trans ha)) hne
        · exact ⟨k, hk, hat, hcp⟩
    · next heq =>
      refine h.mono fun o _ ⟨k, hk, hat, hcp⟩ => ?_
      rcases List.mem_cons.mp hk with rfl | hk
      · exact absurd (by simpa using heq) (Ne.symm hcp)
      · exact ⟨k, hk, hat, hcp⟩
  unfold State.handPoint
  dsimp only
  split
  · exact (OrdersMove.evaluateWhere _).judged _ hjudged
  · exact hjudged

/-- Points changed and handed over, among them every one of the four whose CP has changed. -/
theorem KeepsOrders.handPoints (h : t.orderView = s.orderView) (hg : t.grid = s.grid) {ms : List Index}
    (hm : ∀ m ∈ upTo 4, m ∈ ms ∨ (t.point m).cp = (s.point m).cp) : KeepsOrders s (ms.foldl s.handPoint t) := by
  have hsame := SameOrders.of_view h
  have hmove : OrdersMove t (ms.foldl s.handPoint t) := .foldl (fun v m => .handPoint s v m) ms t
  have hwait (hs : s.ordersStand) : t.ordersJudgedBut (s.awaitsPoints t ms) := by
    refine hsame.judgedBut (fun p => (Classical.em _).imp_right fun hno => ?_) hs.judged
    obtain ⟨-, hset, -⟩ := Prod.mk.inj hg |>.imp_right Prod.mk.inj
    have hused : t.usedPosition p = s.usedPosition p := by
      rw [State.usedPosition, State.usedPosition, (Prod.mk.inj hg).1]
    have hpos : (t.position p).derived = (s.position p).derived := by
      rw [State.position, State.position, (Prod.mk.inj (Prod.mk.inj hg).2).2]
    refine .of_parts hused hpos (fun m _ => ?_) fun m h4 hat => ?_
    · rw [State.pointSet, State.pointSet, hset]
    · exact (hm m h4).elim (fun hin => by_contra fun hne => hno ⟨m, hin, hat, hne⟩) id
  have hall : ∀ (ms : List Index) (v : State), v.ordersJudgedBut (s.awaitsPoints v ms) →
      (ms.foldl s.handPoint v).ordersJudgedBut fun _ => False := by
    intro ms
    induction ms with
    | nil => exact fun v hv => hv.mono fun _ _ ⟨_, hk, _⟩ => absurd hk List.not_mem_nil
    | cons m ms ih => exact fun v hv => ih _ hv.handPoint
  refine ⟨(congrArg (fun u : State => u.powered) hmove.apart :).trans hsame.powered, hmove.agree ∘ hsame.agree,
    fun hs => ⟨hall ms t (hwait hs), fun hc => ?_⟩⟩
  rw [State.control_of_apart hmove.apart] at hc
  have hn : t.orders = [] := hsame.orders.trans (hs.still (hsame.control ▸ hc))
  refine (List.foldlRecOn (motive := fun v : State => v.control = t.control ∧ v.orders = []) ms _ ⟨rfl, hn⟩
    fun v ⟨hvc, hvn⟩ m _ => ⟨?_, ?_⟩).2
  · exact (State.control_of_apart (s.handPoint_apart v m)).trans hvc
  · exact State.handPoint_noOrders s m (by rwa [hvc]) hvn

/-- One point changed and handed over (R47, R49). -/
theorem KeepsOrders.handPoint (m : Index) (c : Point) : KeepsOrders s (s.handPoint (s.setPoint m c) m) :=
  handPoints (s := s) (t := s.setPoint m c) rfl rfl (ms := [m]) fun k _ => by
    rcases item_put_cases s.current.points .fresh c m k with hk | ⟨rfl, -⟩
    · exact .inr (congrArg Point.cp hk :)
    · exact .inl (List.mem_singleton_self _)

/-! ### A point group applied (R52) -/

theorem State.ordersJudgedBut.judgeAttached (h : s.ordersJudgedBut waits) (o : Option Index) :
    (s.judgeAttached o).ordersJudgedBut fun p => waits p ∧ o ≠ some p := by
  cases o with
  | none => exact h.mono fun _ _ hw => ⟨hw, by simp⟩
  | some p => exact (h.judgeOrder p).mono fun _ _ hw => ⟨hw.1, fun he => hw.2 (Option.some.inj he).symm⟩

/-- The point's settings and record at the application of its group (R53). -/
def State.pointReplaced (s : State) (m : Index) (new : PointSettings) : State :=
  let t := s.mapActive fun c => { c with points := put c.points m new }
  t.setPoint m ((t.point m).applied (s.pointSet m) new)

theorem State.applyPoint_eq (s : State) (m : Index) (new : PointSettings) :
    s.applyPoint m new =
      if (s.pointSet m).attached == new.attached then s.pointReplaced m new
      else if s.sched.ordersFirst then
        (((s.pointReplaced m new).judgeAttached (s.pointSet m).attached).judgeAttached new.attached).reconfirm
      else ((s.pointReplaced m new).reconfirm.judgeAttached (s.pointSet m).attached).judgeAttached new.attached := rfl

@[simp] theorem Point.applied_cp (p : Point) (before after : PointSettings) : (p.applied before after).cp = p.cp := by
  unfold Point.applied
  split <;> rfl

/-- A position to which the point was and is attached, or was not and is not, has the same evidence. -/
theorem SameEvidence.pointReplaced {m : Index} {new : PointSettings}
    (h : new.attached = some p ↔ (s.pointSet m).attached = some p) : SameEvidence s (s.pointReplaced m new) p := by
  refine of_parts rfl rfl (fun k _ => ?_) fun k _ _ => ?_
  · rcases item_put_cases s.settings.active.points .factory new m k with hk | ⟨rfl, hk⟩
    · exact iff_of_eq (congrArg (fun c : PointSettings => c.attached = some p) hk)
    · exact (iff_of_eq (congrArg (fun c : PointSettings => c.attached = some p) hk)).trans h
  · rcases item_put_cases s.current.points .fresh ((s.point m).applied (s.pointSet m) new) m k with hk | ⟨rfl, hk⟩
    · exact (congrArg Point.cp hk :)
    · exact (congrArg Point.cp hk).trans (Point.applied_cp _ _ _)

/-- A point attached anew has the orders of both positions judged (R52). -/
theorem KeepsOrders.applyPoint (s : State) (m : Index) (new : PointSettings) : KeepsOrders s (s.applyPoint m new) := by
  have hview : (s.pointReplaced m new).orderView = s.orderView := rfl
  have hsame := SameOrders.of_view hview
  rw [s.applyPoint_eq]
  split
  · next heq => exact of_evidence hview fun p => .pointReplaced (by rw [eq_of_beq heq])
  · have hwait (hs : s.ordersStand) : (s.pointReplaced m new).ordersJudgedBut fun p =>
        (s.pointSet m).attached = some p ∨ new.attached = some p := by
      refine hsame.judgedBut (fun p => (Decidable.em _).imp_right fun hno => .pointReplaced ?_) hs.judged
      exact iff_of_false (fun hn => hno (.inr hn)) fun ho => hno (.inl ho)
    have hjudge {v : State} (hv : v.ordersJudgedBut fun p => (s.pointSet m).attached = some p ∨ new.attached = some p) :
        ((v.judgeAttached (s.pointSet m).attached).judgeAttached new.attached).ordersJudgedBut fun _ => False :=
      ((hv.judgeAttached _).judgeAttached _).mono fun _ _ ⟨⟨hw, hold⟩, hnew⟩ => hw.elim hold hnew
    have hmove : OrdersMove (s.pointReplaced m new) (if s.sched.ordersFirst then
        (((s.pointReplaced m new).judgeAttached (s.pointSet m).attached).judgeAttached new.attached).reconfirm
        else ((s.pointReplaced m new).reconfirm.judgeAttached (s.pointSet m).attached).judgeAttached new.attached) :=
      .ite (((OrdersMove.judgeAttached _).trans (.judgeAttached _)).trans (.reconfirm _))
        (((OrdersMove.reconfirm _).trans (.judgeAttached _)).trans (.judgeAttached _))
    have hstill (v : State) (hc : v.control.state.evaluates = false) (hn : v.orders = []) : v.reconfirm.orders = [] :=
      (State.handOver_still (t := { v with zones := (upTo 8).map v.reconfirmZone }) v hc).trans hn
    refine ⟨(congrArg (fun u : State => u.powered) hmove.apart :).trans hsame.powered, hmove.agree ∘ hsame.agree,
      fun hs => ⟨?_, fun hc => ?_⟩⟩
    · split
      · exact (OrdersMove.reconfirm _).judged _ (hjudge (hwait hs))
      · exact hjudge ((OrdersMove.reconfirm _).judged _ (hwait hs))
    · rw [State.control_of_apart hmove.apart] at hc
      have hn : (s.pointReplaced m new).orders = [] := hsame.orders.trans (hs.still (hsame.control ▸ hc))
      split
      · refine hstill _ ?_ (State.judgeAttached_noOrders (State.judgeAttached_noOrders hn _) _)
        rwa [State.control_of_apart (State.judgeAttached_apart _ _), State.control_of_apart (State.judgeAttached_apart _ _)]
      · exact State.judgeAttached_noOrders (State.judgeAttached_noOrders (hstill _ hc hn) _) _

end Sys2Proof.Machine
end

section
/-! The rules on orders through the cross link, the changes of protection state, the staged application, the store and a
restart. -/

namespace Sys2Proof.Machine

open Wire

variable {s t u : State} {p : Index}

/-! ### The store (R148, R170 to R172) -/

/-- The places after a write hold what they held, or what was written. -/
theorem mem_placeRecord {later : List Nat} {places : List StoredRecord} {r : TripRecord} {content : Option TripRecord}
    {p : StoredRecord} (h : p ∈ placeRecord later places r content) : p.content = content ∨ p ∈ places := by
  unfold placeRecord at h
  dsimp only at h
  split at h
  · obtain ⟨q, hq, rfl⟩ := List.mem_map.mp h
    split
    · exact .inl rfl
    · exact .inr hq
  · have hleft : ∀ q ∈ placesLeft places r, q ∈ places := by
      intro q hq
      unfold placesLeft at hq
      dsimp only at hq
      split at hq
      · exact List.mem_of_mem_eraseP hq
      · exact List.mem_of_mem_eraseP (List.mem_of_mem_drop hq)
    rcases List.mem_append.mp h with hbefore | hafter
    · exact .inr (hleft p ((List.takeWhile_sublist _).subset hbefore))
    · rcases List.mem_cons.mp hafter with rfl | hafter
      · exact .inl rfl
      · exact .inr (hleft p ((List.dropWhile_sublist _).subset hafter))

@[simp] theorem State.markWritten_opens (s : State) (n : Nat) : (s.markWritten n).opens = s.opens := by
  rw [State.opens, State.markWritten, List.map_map]
  refine List.map_congr_left fun r _ => ?_
  simp only [Function.comp]
  split <;> rfl

theorem State.freeStore_noneOpen (h : s.store.noneOpen) : s.freeStore.store.noneOpen := ⟨h.1, by simp [State.freeStore]⟩

/-- What a write in progress carries is no OPEN record (R148). -/
theorem Store.noneOpen.busy {st : Store} (h : st.noneOpen) {w : Write} (hw : st.busy = some w) :
    w.content.recordState ≠ some .opened := h.2 w hw

/-- A verified write of no OPEN record leaves none OPEN in the store. -/
theorem State.storeGood_noneOpen (h : s.store.noneOpen) {c : WriteContent} (hc : c.recordState ≠ some .opened) :
    (s.storeGood c).store.noneOpen := by
  cases c with
  | settings | lockout => exact h
  | record r next =>
    refine ⟨fun p hp q hq => ?_, h.2⟩
    rcases mem_placeRecord hp with hnew | hold
    · rw [hnew] at hq
      obtain rfl := Option.mem_some_iff.mp hq
      exact fun he => hc (congrArg some he)
    · exact h.1 p hold q hq

theorem State.storeBad_noneOpen (h : s.store.noneOpen) (c : WriteContent) : (s.storeBad c).store.noneOpen := by
  cases c with
  | settings | lockout => exact h
  | record r next =>
    refine ⟨fun p hp q hq => ?_, h.2⟩
    rcases mem_placeRecord hp with hnew | hold
    · rw [hnew] at hq
      exact absurd hq (Option.not_mem_none q)
    · exact h.1 p hold q hq

namespace SameOrders

theorem storeGood {c : WriteContent} (hc : s.store.noneOpen → c.recordState ≠ some .opened) :
    SameOrders s (s.storeGood c) := by
  have hstored (h : s.store.noneOpen) := State.storeGood_noneOpen h (hc h)
  cases c with
  | settings | lockout => exact ⟨rfl, rfl, rfl, rfl, rfl, rfl, hstored⟩
  | record r next => exact ⟨rfl, rfl, rfl, rfl, rfl, State.markWritten_opens _ _, hstored⟩

theorem storeBad (c : WriteContent) : SameOrders s (s.storeBad c) := by
  have hstored (h : s.store.noneOpen) := State.storeBad_noneOpen h c
  cases c with
  | settings | lockout => exact ⟨rfl, rfl, rfl, rfl, rfl, rfl, hstored⟩
  | record r next => exact ⟨rfl, rfl, rfl, rfl, rfl, State.markWritten_opens _ _, hstored⟩

theorem freeStore (s : State) : SameOrders s s.freeStore := ⟨rfl, rfl, rfl, rfl, rfl, rfl, State.freeStore_noneOpen⟩

theorem trans (h : SameOrders s t) (h' : SameOrders t u) : SameOrders s u :=
  ⟨h'.powered.trans h.powered, h'.control.trans h.control, h'.orders.trans h.orders, h'.outputs.trans h.outputs,
    h'.lockout.trans h.lockout, h'.opens.trans h.opens, h'.stored ∘ h.stored⟩

end SameOrders

namespace KeepsOrders

theorem storeGood {c : WriteContent} (hc : s.store.noneOpen → c.recordState ≠ some .opened) :
    KeepsOrders s (s.storeGood c) :=
  of_same (.storeGood hc) fun _ => by cases c <;> exact .of_grid rfl rfl _

theorem storeBad (c : WriteContent) : KeepsOrders s (s.storeBad c) :=
  of_same (.storeBad c) fun _ => by cases c <;> exact .of_grid rfl rfl _

theorem freeStore (s : State) : KeepsOrders s s.freeStore := of_same (.freeStore s) fun _ => .of_grid rfl rfl _

/-- A write in progress completed, verified (R170, R172). -/
theorem completed {w : Write} (hw : s.store.busy = some w) : KeepsOrders s (s.freeStore.storeGood w.content) := by
  have hcomm : s.freeStore.storeGood w.content = (s.storeGood w.content).freeStore := by cases w.content <;> rfl
  rw [hcomm]
  exact (storeGood fun h => h.busy hw).trans (freeStore _)

theorem verifyFailed (s : State) (c : WriteContent) : KeepsOrders s (s.verifyFailed c) := by
  unfold State.verifyFailed
  cases c <;> exact of_view rfl

theorem endWrite {w : Write} (hw : s.store.busy = some w) (o : WriteOutcome) : KeepsOrders s (s.endWrite w.content o) := by
  cases o with
  | verified =>
    have hfault (v : State) : KeepsOrders v { v with store := v.store.setFault w.content.kind false } := by
      cases w.content <;> exact of_view rfl
    exact (completed hw).trans (hfault _)
  | corrupted => exact ((freeStore s).trans (storeBad _)).trans (verifyFailed _ _)
  | unchanged => exact (freeStore s).trans (verifyFailed _ _)

theorem completeWrites (s : State) : KeepsOrders s s.completeWrites := by
  have hbusy : KeepsOrders s s.completeBusy := by
    unfold State.completeBusy
    split
    · exact refl s
    · next w hw => exact completed hw
  unfold State.completeWrites
  exact hbusy.trans (ite (storeGood fun _ => by simp [WriteContent.recordState]) (refl _))

theorem dropImage (s : State) : KeepsOrders s s.dropImage := ite (refl s) (of_view rfl)

/-- A write begins: of a closed record, of the lockouts or of the settings (R148, R170). -/
theorem beginWrite {c : WriteContent} (hc : c.recordState ≠ some .opened) : KeepsOrders s (s.beginWrite c) := by
  refine of_same ⟨rfl, rfl, rfl, rfl, rfl, rfl, fun h => ⟨h.1, fun w hw => ?_⟩⟩ fun _ => .of_grid rfl rfl _
  obtain rfl := Option.some.inj hw
  exact hc

theorem chooseWrite (s : State) : KeepsOrders s s.chooseWrite := by
  unfold State.chooseWrite
  refine ite ((of_view (by rfl)).trans (beginWrite (by simp [WriteContent.recordState]))) ?_
  split
  · next r hr =>
    have hclosed : r.state ≠ .opened := by
      obtain ⟨n, -, hfind⟩ := List.mem_filterMap.mp (List.mem_of_head? hr)
      have htest := List.find?_some hfind
      simp only [Bool.and_eq_true, bne_iff_ne] at htest
      exact htest.2
    exact (of_view (by rfl)).trans (beginWrite fun h => hclosed (Option.some.inj h))
  · exact ite (((of_view (by rfl)).trans (beginWrite (by simp [WriteContent.recordState]))).trans (dropImage _)) (refl s)

end KeepsOrders

/-! ### Loss of supply and restart (R154, R172) -/

/-- Where no order stands and nothing is OPEN both rules hold. -/
theorem State.ordersAgree.of_noOrders (ho : s.orders = []) (hu : s.outputs = []) (hr : true ∉ s.opens)
    (hs : s.store.noneOpen) : s.ordersAgree :=
  ⟨by simp [State.oneOrderEach, ho], by simp [State.outputsBacked, hu], by simp [State.liveLocked, ho],
    .of_noOrders ho hr hs⟩

theorem State.ordersJudged.of_noOrders (ho : s.orders = []) : s.ordersJudged :=
  State.ordersJudged_iff.mpr ⟨fun _ => ho, .of_noOrders ho⟩

/-- The records of a restart are the stored copies, none of which is OPEN (R148). -/
theorem State.restart_ordersAgree (hs : s.store.noneOpen) (cause : ResetCause) : (s.restart cause).ordersAgree := by
  refine .of_noOrders rfl rfl ?_ ⟨fun p hp => hs.1 p (List.mem_filter.mp hp).1, fun _ hw => absurd hw (Option.not_mem_none _)⟩
  show true ∉ s.store.reloaded.map _
  simp only [List.mem_map, decide_eq_true_eq, not_exists, not_and]
  intro r hr
  obtain ⟨p, hp, hcontent⟩ := List.mem_filterMap.mp hr
  exact hs.1 p hp r hcontent

theorem KeepsOrders.resetPart (s : State) (cause : ResetCause) : KeepsOrders s (s.resetPart cause) :=
  (completeWrites s).trans ⟨rfl, fun h => State.restart_ordersAgree (State.openAgrees_iff.mp h.2.2.2).2.2 cause,
    fun _ => .of_noOrders rfl⟩

/-- A write cut off leaves a copy with a bad check, or the copy it was to overwrite (R172). -/
theorem State.cutWrites_noneOpen (h : s.store.noneOpen) : s.cutWrites.store.noneOpen := by
  have hcut (v : State) (hv : v.store.noneOpen) (c : WriteContent) : (v.cutOff c).store.noneOpen := by
    unfold State.cutOff
    split
    · split
      · exact State.storeBad_noneOpen hv _
      · exact hv
    · exact State.storeBad_noneOpen hv _
    · exact State.storeBad_noneOpen hv _
  unfold State.cutWrites
  dsimp only
  split
  · exact h
  · exact hcut _ (State.freeStore_noneOpen h) _

/-- The OPEN record is abandoned with the orders (R148, R154). -/
theorem State.losePower_ordersAgree (h : s.store.noneOpen) : s.losePower.ordersAgree := by
  refine .of_noOrders rfl rfl ?_ (State.cutWrites_noneOpen h)
  show true ∉ (s.cutWrites.records.filter fun r => r.state != .opened).map fun r => decide (r.state = .opened)
  simp

namespace KeepsOrders

/-- Lockouts cleared where no order stands (R122, R123). -/
theorem clearLockouts {ps : List Index} (hps : ∀ p ∈ ps, s.orderAt p = none) : KeepsOrders s (s.clearLockouts ps) := by
  have ho : (s.clearLockouts ps).orders = s.orders := by rw [s.clearLockouts_eq ps]
  exact of_move ⟨s.clearLockouts_apart ps, fun h => h.clearLockouts hps,
    fun _ h => h.congr_apart (s.clearLockouts_apart ps) ho⟩ fun _ hn => ho.trans hn

/-! ### The cross link (R117, R132 to R138) -/

theorem handLinkInputs (s t : State) : KeepsOrders t (s.handLinkInputs t) := evaluateWhere _

/-- A request from a peer is taken in IN_SERVICE and TEST alone (R117). -/
theorem requestEdge (v p : Index) : KeepsOrders s (s.requestEdge v p) := by
  unfold State.requestEdge
  split
  · next hstate =>
    refine of_evaluating (.requestOrder _ _ _) ?_
    simp only [Bool.and_eq_true, Bool.or_eq_true, beq_iff_eq] at hstate
    obtain ⟨⟨hin | htest, -⟩, -⟩ := hstate
    · rw [hin]
      rfl
    · rw [htest]
      rfl
  · exact post s _ _ _

theorem takePeer (s : State) (p : Peer) (c : Content) : KeepsOrders s (s.takePeer p c) := by
  have edges (ps : List Index) (v : State) : KeepsOrders v (ps.foldl (fun v q => v.requestEdge p.unit q) v) :=
    foldl (fun _ q => requestEdge p.unit q) ps v
  have heard : KeepsOrders s (if p.state == .live then s else s.post .peerState p.unit PeerState.live.code) :=
    ite (refl s) (post s _ _ _)
  have taken (f : Peer → Peer) := heard.trans (of_view (t := State.mapPeer _ p.unit f) rfl)
  unfold State.takePeer
  exact (taken _).trans (ite ((edges _ _).trans (handLinkInputs s _)) ((handLinkInputs s _).trans (edges _ _)))

theorem takeDuplicate (s : State) : KeepsOrders s s.takeDuplicate := by
  unfold State.takeDuplicate
  dsimp only
  refine KeepsOrders.trans (ite (countLink s _) ?_) (mapLink _ _)
  exact ((countLink s _).trans (post _ _ _ _)).trans (mapLink _ _)

theorem judgeTelegram (s : State) (bits : List Bit) : KeepsOrders s (s.judgeTelegram bits) := by
  unfold State.judgeTelegram
  refine ite (countLink s _) (ite (countLink s _) (ite (takeDuplicate s) ?_))
  split
  · exact takePeer s _ _
  · exact countLink s _

theorem startBit (s : State) : KeepsOrders s s.startBit := by
  have hadv : KeepsOrders s s.toStartBit := advanceTo s _
  unfold State.startBit
  dsimp only
  split
  · exact hadv.trans (mapLink _ _)
  · exact (hadv.trans (mapLink _ _)).trans (ite ((mapLink _ _).trans (countLink _ _)) (refl _))

/-! ### The protection state (R153, R159) -/

theorem clearSimulations (s : State) : KeepsOrders s s.clearSimulations := by
  have hpoints : KeepsOrders s { s with current := s.clearSimulations.current } :=
    setPoints fun m =>
      (congrArg Point.cp (item_map (fun c : Point => { c with simulated := false }) s.current.points .fresh m) :)
  exact hpoints.trans (of_view rfl)

/-- A protection state may be entered with orders standing if zones are evaluated in it; else none stood before. -/
theorem changeState {new : Protection} (h : new.evaluates = true ∨ s.control.state.evaluates = false) :
    KeepsOrders s (s.changeState new) := by
  have hentered (c : Control) (hc : c.state = new) : KeepsOrders s { s with control := c } := by
    refine ⟨rfl, fun ha => ha.congr rfl rfl rfl rfl (State.openAgrees_iff.mp ha.2.2.2).2.2, fun hs => ⟨?_, fun he => ?_⟩⟩
    · exact hs.judged.sublist (List.Sublist.refl _) fun p => .inr ⟨id, .of_grid rfl rfl p⟩
    · refine hs.still (h.resolve_left fun hnew => ?_)
      rw [← hc, show c.state.evaluates = false from he] at hnew
      exact Bool.noConfusion hnew
  have hwithdrawn (v : State) : KeepsOrders v v.withdrawDry :=
    of_move (.withdrawDry v) fun _ hn => by rw [State.withdrawDry, hn]; exact hn
  unfold State.changeState
  dsimp only
  refine ((hentered _ (by rfl)).trans (post _ _ _ _)).trans (KeepsOrders.trans (ite ?_ (refl _)) (evaluateWhere _))
  exact (clearSimulations _).trans (hwithdrawn _)

/-! ### The staged application (R167 to R169) -/

theorem tryChannel (s : State) (n : Index) : KeepsOrders s (s.tryChannel n) := ite (handChanged n rfl) (refl s)

theorem takePoint (s : State) (m : Index) : KeepsOrders s (s.takePoint m) := (of_view (by rfl)).trans (applyPoint _ m _)

theorem tryPoint (s : State) (m : Index) : KeepsOrders s (s.tryPoint m) := ite (takePoint s m) (refl s)

/-- A topology group changes the evidence on positions, but is applied with no order standing (R168). -/
theorem applyTopology (hn : s.ordersStand → s.orders = []) (new : TopologySettings) :
    KeepsOrders s (s.applyTopology new) := by
  have hnew : SameOrders s (s.mapActive fun c => { c with topology := new }) := .of_view rfl
  have hstep (v : State) (p : Index) : SameOrders v (State.rederive s.settings.active.topology v p) :=
    .of_view ((State.derive_orderView _ p).trans (by rfl))
  have hderived : SameOrders s ((upTo 8).foldl (State.rederive s.settings.active.topology)
      (s.mapActive fun c => { c with topology := new })) :=
    List.foldlRecOn (motive := SameOrders s) (upTo 8) _ hnew fun v hv p _ => hv.trans (hstep v p)
  have hkeeps : KeepsOrders s ((upTo 8).foldl (State.rederive s.settings.active.topology)
      (s.mapActive fun c => { c with topology := new })) :=
    ⟨hderived.powered, hderived.agree, fun hs => .of_noOrders (hderived.orders.trans (hn hs))⟩
  have hall (v : State) : KeepsOrders v v.replaceSets.evaluateAll := (replaceSets v).trans (evaluateWhere _)
  exact hkeeps.trans (hall _)

/-- The topology group's safe point is one at which no order stands, and none stands in SETUP_FAULT (R161, R168, R169). -/
theorem tryTopology (s : State) : KeepsOrders s s.tryTopology := by
  unfold State.tryTopology
  split
  · next hsafe =>
    refine (of_view (by rfl)).trans (applyTopology (s := s.mapWaiting _) (fun hs => ?_) _)
    have hsafe := (Bool.and_eq_true_iff.mp hsafe).2
    simp only [State.topologySafe, Bool.or_eq_true, Bool.and_eq_true, List.isEmpty_iff] at hsafe
    rcases hsafe with hfault | ⟨-, hnone⟩
    · refine hs.still ?_
      show s.control.state.evaluates = false
      rw [eq_of_beq hfault]
      rfl
    · exact hnone
  · exact refl s

theorem tryLink (s : State) : KeepsOrders s s.tryLink := by
  have posts (l : List Index) (v : State) :
      KeepsOrders v (l.foldl (fun u n => u.post .peerState n PeerState.waiting.code) v) :=
    foldl (f := fun u n => State.post u .peerState n PeerState.waiting.code) (fun _ _ => of_view (by rfl)) l v
  have happly (v : State) (new : LinkSettings) : KeepsOrders v (v.applyLink new) := by
    unfold State.applyLink
    exact (of_view (by rfl)).trans ((posts _ _).trans (handLinkInputs v _))
  exact ite ((of_view (by rfl)).trans (happly _ _)) (refl s)

theorem tryStation (s : State) : KeepsOrders s s.tryStation := ite (of_view (by rfl)) (refl s)

/-- SETUP_FAULT is left for IN_SERVICE with the last part (R161). -/
theorem applyDone (s : State) : KeepsOrders s s.applyDone := by
  have hdone : KeepsOrders s (({ s with settings := { s.settings with doneOwed := false } } : State).post
      .applyDone 0 s.settings.serial).dropImage := (of_view (by rfl)).trans (dropImage _)
  unfold State.applyDone
  exact ite (hdone.trans (changeState (.inl rfl))) hdone

theorem finishApply (before s : State) : KeepsOrders s (before.finishApply s) := ite (applyDone s) (refl s)

theorem forgetCaptured (s : State) (which : Index → Bool) : KeepsOrders s (s.forgetCaptured which) :=
  foldl (f := fun t n => State.setChannel t n { t.channel n with captured := none }) (fun _ _ => of_view (by rfl)) _ s

theorem acceptCommit (s : State) : KeepsOrders s s.acceptCommit := by
  -- The parts at their safe points, then APPLY_DONE if none waits.
  have parts (v : State) : KeepsOrders v
      ((upTo 4).foldl State.tryPoint ((upTo 16).foldl State.tryChannel v)).tryTopology.tryLink :=
    ((foldl tryChannel _ v).trans (foldl tryPoint _ _)).trans ((tryTopology _).trans (tryLink _))
  have done (v : State) : KeepsOrders v (if v.applying then v
      else if v.sched.doneAfterReply then { v with settings := { v.settings with doneOwed := true } }
      else v.applyDone) := ite (refl v) (ite (of_view (by rfl)) (applyDone v))
  unfold State.acceptCommit
  exact (((of_view (by rfl)).trans (forgetCaptured _ _)).trans (parts _)).trans (done _)

end KeepsOrders

end Sys2Proof.Machine
end

section
/-! Every command keeps the two rules on orders, and so does every step. Most commands change nothing that the rules read;
the others go through the shared operations. -/

namespace Sys2Proof.Machine

open Wire

variable {s : State}

/-- Both rules on orders hold after it if they held before it. -/
def KeepsRules (s t : State) : Prop := (s.ordersAgree → t.ordersAgree) ∧ (s.ordersJudged → t.ordersJudged)

/-- With the supply as it was, no order may have come without it. -/
theorem KeepsOrders.rules {t : State} (h : KeepsOrders s t) (hn : s.powered = false → s.orders = [] → t.orders = []) :
    KeepsRules s t := by
  refine ⟨h.agree, fun hs => ?_⟩
  obtain ⟨hdark, hstand⟩ := State.ordersJudged_iff.mp hs
  refine State.ordersJudged_iff.mpr ⟨fun hp => ?_, h.judged hstand⟩
  rw [h.powered] at hp
  exact hn hp (hdark hp)

/-- Whatever next state is answered, the rules on orders hold in it if they held before. -/
def AnswersOrders (s : State) (o : Host.Outcome State Fault Refusal) : Prop := ∀ t, o = .next t → KeepsRules s t

namespace AnswersOrders

theorem next {t : State} (h : KeepsRules s t) : AnswersOrders s (.next t) := by
  intro u hu
  cases hu
  exact h

/-- A command that leaves the orders as they are, with the supply or without it. -/
theorem wiring {t : State} (h : KeepsOrders s t) (ho : t.orders = s.orders) : AnswersOrders s (.next t) :=
  next (h.rules fun _ hn => ho.trans hn)

/-- A command keeps what its effect keeps; without supply it has none. -/
theorem conclude {f : State → State} (h : KeepsOrders s (f s)) : AnswersOrders s (conclude s f) := by
  unfold Machine.conclude
  split
  · next hp => exact next ((h.trans (.settle s _)).rules fun hdark => absurd hp (by simp [hdark]))
  · exact next ⟨id, id⟩

end AnswersOrders

namespace KeepsOrders

/-- Time passes, and the link controller changes (R127, R128). -/
theorem mapLink_advanceTo (s : State) (d : Instant) (f : Link → Link) : KeepsOrders s ((s.advanceTo d).mapLink f) :=
  (advanceTo s d).trans (mapLink _ f)

/-- The timer of an order that stands runs out (R108, R110, R115). -/
theorem timer_advanceTo {t : State} {p : Index} {o : Order} (ho : s.orderAt p = some o) (d : Instant)
    (h : OrdersMove (s.advanceTo d) t) : KeepsOrders s t := by
  refine (advanceTo s d).trans (of_standing h ?_)
  rw [State.advanceTo_orders]
  exact List.ne_nil_of_mem (State.mem_of_orderAt ho).1

/-- One channel's sample (R4). -/
theorem sampleChannel (s : State) (n : Index) (raw : Nat) : KeepsOrders s (s.sampleChannel n raw) := by
  have hnote (t : State) (l : Nat) : KeepsOrders t (s.noteSteady t n l) := ite (of_view rfl) (refl t)
  have hset (c : Channel) : KeepsOrders s (s.setChannel n c) := of_view rfl
  have hopen : KeepsOrders s (s.sampleOpen n raw) :=
    ite (hset _) (((hset _).trans (hnote _ _)).trans (handChannel s _ n))
  unfold State.sampleChannel
  refine ite (refl s) ?_
  dsimp only
  split
  · exact hset _
  · exact hset _
  · exact hopen

/-- A position's record replaced at some instant, its derived position with it as it was, and derived anew (R56, R58). -/
theorem setPosition_derivePosition (s : State) (d : Instant) (p : Index) {q : Position}
    (hq : q.derived = (s.position p).derived) : KeepsOrders s (((s.advanceTo d).setPosition p q).derivePosition p) := by
  have hset : KeepsOrders (s.advanceTo d) ((s.advanceTo d).setPosition p q) := by
    refine setPosition q (hq.trans ?_)
    rw [State.position, State.position, State.advanceTo_positions]
  exact ((advanceTo s d).trans hset).trans (derivePosition _ p)

/-- What follows a reply's last byte (R168, R169, R179). -/
theorem afterReply (s : State) (restart : Bool) : KeepsOrders s (s.afterReply restart) := by
  have hstation : KeepsOrders s (s.finishApply s.tryStation) := (tryStation s).trans (finishApply s _)
  unfold State.afterReply
  exact ite (resetPart s _) (ite (hstation.trans (applyDone _)) hstation)

theorem endReply (s : State) : KeepsOrders s s.endReply := by
  have hbegun : KeepsOrders s (if s.port.transmitting then s else s.beginReply) :=
    ite (refl s) ((advanceTo s _).trans (of_view (by rfl)))
  unfold State.endReply
  exact hbegun.trans ((advanceTo _ _).trans (of_view (by rfl)))

theorem setPartTime (s : State) (v : Nat) : KeepsOrders s (s.setPartTime v) := by
  unfold State.setPartTime
  exact of_view rfl

theorem broadcastTime (s : State) (body : List Byte) : KeepsOrders s (s.broadcastTime body) :=
  ite (of_view rfl) (ite (ite (of_view rfl) (of_view rfl)) (setPartTime s _))

/-! ### Requests (R174, R175) -/

/-- An addressed request keeps what the owning block's act keeps: handling moves a test deadline (R158). -/
theorem request {kind : Nat} {body : List Byte} {act : State → Handled}
    (h : ∀ t, KeepsOrders t (act t).state) : KeepsOrders s (s.request kind body act) := by
  have hbegin : KeepsOrders s s.beginHandling := by
    refine of_view ?_
    rw [State.beginHandling_eq]
    rfl
  have hjudged : KeepsOrders s (s.beginHandling.judgeRequest kind body act).state := by
    unfold State.judgeRequest
    split
    · exact hbegin
    · exact hbegin.trans (h _)
  unfold State.request State.takeFrame
  exact ite (refl s) (ite (of_view rfl) (hjudged.trans (of_view rfl)))

/-- An accepted request keeps what its effect keeps. -/
theorem accept {t : State} (h : KeepsOrders s t) (body : List Byte) :
    KeepsOrders s (Machine.accept t body).state := h

/-- Both of an act's answers keep the rules. -/
theorem handled_ite {c : Prop} [Decidable c] {a b : Handled} (ha : KeepsOrders s a.state)
    (hb : KeepsOrders s b.state) : KeepsOrders s (if c then a else b).state := by
  split
  · exact ha
  · exact hb

end KeepsOrders

namespace AnswersOrders

/-- A request's command keeps what the act keeps. -/
theorem request {kind : Nat} {body : List Byte} {act : State → State → Handled}
    (h : ∀ t, KeepsOrders t (act s t).state) :
    AnswersOrders s (Machine.conclude s fun s => s.request kind body (act s)) :=
  conclude (.request h)

/-- A request that only reads keeps everything. -/
theorem read {kind : Nat} {body : List Byte} {answer : State → State → List Byte} :
    AnswersOrders s (Machine.conclude s fun s => s.request kind body fun t => Machine.accept t (answer s t)) :=
  .request (act := fun s t => Machine.accept t (answer s t)) fun t => .refl t

end AnswersOrders

variable (s)

/-! ### Power, reset and state control -/

theorem execPowerOn_orders : AnswersOrders s (execPowerOn s) := by
  unfold execPowerOn
  split
  · exact .conclude (.refl s)
  · refine .next ⟨fun h => ?_, fun _ => .of_noOrders rfl⟩
    exact State.restart_ordersAgree (s := { s with powered := true }) (State.openAgrees_iff.mp h.2.2.2).2.2 _

theorem execPowerLoss_orders : AnswersOrders s (execPowerLoss s) := by
  unfold execPowerLoss
  split
  · exact .next ⟨fun h => State.losePower_ordersAgree (State.openAgrees_iff.mp h.2.2.2).2.2, fun _ => .of_noOrders rfl⟩
  · exact .next ⟨id, id⟩

theorem execRestartTerminalChange_orders (b : Bool) : AnswersOrders s (execRestartTerminalChange b s) := by
  unfold execRestartTerminalChange
  split
  · exact .conclude (.of_view rfl)
  · exact .wiring (.of_view rfl) rfl

theorem execRestartTerminalPress_orders : AnswersOrders s (execRestartTerminalPress s) := by
  refine .conclude ?_
  split
  · exact .refl s
  · exact (KeepsOrders.advanceTo s _).trans (.resetPart _ _)

theorem execRestartTerminalRelease_orders : AnswersOrders s (execRestartTerminalRelease s) := by
  refine .conclude ?_
  split
  · exact .refl s
  · exact (KeepsOrders.advanceTo s _).trans (.of_view rfl)

/-- STARTING is left with no order standing, be it for SETUP_FAULT (R155, R156). -/
theorem execStartingEnd_orders : AnswersOrders s (execStartingEnd s) := by
  refine .conclude ?_
  split
  · exact .refl s
  · next hstarting =>
    refine ((KeepsOrders.advanceTo s _).trans (.recompute _)).trans (.changeState (.inr ?_))
    rw [State.control_of_apart (State.recompute_apart _), State.advanceTo_control]
    have hstate : s.control.state = .starting := by simpa using hstarting
    rw [hstate]
    rfl

theorem execTestTimeout_orders : AnswersOrders s (execTestTimeout s) := by
  refine .conclude ?_
  split
  · exact ((KeepsOrders.advanceTo s _).trans (.of_view (by rfl))).trans (.changeState (.inl rfl))
  · exact .refl s

/-! ### Light front end and supervision -/

theorem execLightSample_orders (raw : List Nat) : AnswersOrders s (execLightSample raw s) :=
  .conclude (.ite (.refl s) (((KeepsOrders.advanceTo s _).trans (.of_view (by rfl))).trans
    (.foldl (fun t n => .sampleChannel t n _) _ _)))

theorem execBackgroundUpdate_orders : AnswersOrders s (execBackgroundUpdate s) :=
  .conclude (.ite (.refl s) (.of_view rfl))

theorem execSupervisionSlot_orders (n : Index) : AnswersOrders s (execSupervisionSlot n s) := by
  have hslot : KeepsOrders s (s.toSlot n) :=
    .ite (.advanceTo s _) ((KeepsOrders.advanceTo s _).trans (.advanceTo _ _))
  exact .conclude (.ite (.refl s) (.ite (hslot.trans (.of_view rfl)) (.refl s)))

theorem execBurstEnd_orders (n : Index) : AnswersOrders s (execBurstEnd n s) := by
  have judged (t : State) : KeepsOrders t (t.judgeHealth n) := .ite (.refl t) (.handChanged n rfl)
  refine .conclude ?_
  split
  · exact .refl s
  · exact .ite (.refl s) ((KeepsOrders.of_view (by rfl)).trans (judged _))

theorem execCaptureBurstStart_orders (n : Index) : AnswersOrders s (execCaptureBurstStart n s) := by
  refine .conclude ?_
  split
  · exact .refl s
  · exact .ite ((KeepsOrders.advanceTo s _).trans (.of_view rfl)) (.refl s)

theorem execCaptureEnd_orders (n : Index) : AnswersOrders s (execCaptureEnd n s) := by
  have judged (t : State) (candidate : Nat) : KeepsOrders t (t.judgeCandidate n candidate) :=
    .ite (.of_view rfl) (.of_view rfl)
  refine .conclude ?_
  split
  · exact .refl s
  · exact .ite (.refl s) (((KeepsOrders.advanceTo s _).trans (judged _ _)).trans (.of_view rfl))

/-! ### Current front end and position inputs -/

theorem execCurrentSample_orders (samples : List Int) : AnswersOrders s (execCurrentSample samples s) := by
  refine .conclude (.ite (.refl s) ((KeepsOrders.advanceTo s _).trans (.handPoints ?_ ?_ fun m h4 => .inl ?_)))
  · rfl
  · rfl
  · exact mem_inOrder _ h4

theorem execOcHoldExpiry_orders (m : Index) : AnswersOrders s (execOcHoldExpiry m s) :=
  .conclude (.ite (.handPoint m _) (.refl s))

theorem execCpClear_orders (m : Index) : AnswersOrders s (execCpClear m s) :=
  .conclude (.ite (.handPoint m _) (.refl s))

theorem execContactRawChange_orders (p : Index) (c : Contact) (on : Bool) :
    AnswersOrders s (execContactRawChange p c on s) := by
  have hraw (i : ContactInput) : KeepsOrders s (s.setPosition p ((s.position p).setContact c i)) :=
    .setPosition _ (by cases c <;> rfl)
  unfold execContactRawChange
  split
  · exact .conclude (hraw _)
  · exact .wiring (hraw _) rfl

theorem execDebounceExpiry_orders (p : Index) (c : Contact) : AnswersOrders s (execDebounceExpiry p c s) := by
  refine .conclude ?_
  split
  · exact .refl s
  · exact .setPosition_derivePosition s _ p (by cases c <;> rfl)

theorem execDiscrepancyExpiry_orders (p : Index) : AnswersOrders s (execDiscrepancyExpiry p s) := by
  refine .conclude ?_
  split
  · exact .refl s
  · exact .setPosition_derivePosition s _ p rfl

/-! ### Order unit -/

theorem execMinPulseExpiry_orders (p : Index) : AnswersOrders s (execMinPulseExpiry p s) := by
  refine .conclude ?_
  split
  · exact .refl s
  · next o ho => exact .ite (.timer_advanceTo ho _ (.release p)) (.ite (.timer_advanceTo ho _ (.confirm _)) (.refl s))

theorem execBfDeadline_orders (p : Index) : AnswersOrders s (execBfDeadline p s) := by
  refine .conclude ?_
  split
  · exact .refl s
  · next o ho =>
    split
    · next hdue =>
      have hdriving : o.stage ≠ .confirmed := by
        rw [eq_of_beq (Bool.and_eq_true_iff.mp hdue).1]
        exact Stage.noConfusion
      have ho' : o ∈ (s.advanceTo o.deadline).orderAt p := by rwa [State.orderAt, State.advanceTo_orders]
      exact .timer_advanceTo ho _ ((OrdersMove.failOrder ho' hdriving).trans (.judgeOrder p))
    · exact .refl s

theorem execDriveTimeout_orders (p : Index) : AnswersOrders s (execDriveTimeout p s) := by
  refine .conclude ?_
  split
  · exact .refl s
  · next o ho =>
    split
    · next hfailed =>
      have hstage : o.stage ≠ .confirmed := by
        rw [eq_of_beq hfailed]
        exact Stage.noConfusion
      have ho' : o ∈ (s.advanceTo (o.startedAt + Config.driveSpan)).orderAt p := by
        rwa [State.orderAt, State.advanceTo_orders]
      exact .timer_advanceTo ho _ (.stallOrder ho' hstage)
    · exact .refl s

theorem execLockoutButtonChange_orders (b : Bool) : AnswersOrders s (execLockoutButtonChange b s) := by
  unfold execLockoutButtonChange
  split
  · exact .conclude (.of_view rfl)
  · exact .wiring (.of_view rfl) rfl

theorem execLockoutResetPress_orders : AnswersOrders s (execLockoutResetPress s) := by
  refine .conclude ?_
  split
  · exact .refl s
  · refine ((KeepsOrders.advanceTo s _).trans (.of_view (by rfl))).trans (.ite (.refl _) (.clearLockouts fun p hp => ?_))
    simpa using (List.mem_filter.mp hp).2

theorem execLockoutButtonRelease_orders : AnswersOrders s (execLockoutButtonRelease s) := by
  refine .conclude ?_
  split
  · exact .refl s
  · exact (KeepsOrders.advanceTo s _).trans (.of_view rfl)

/-! ### Cross link -/

theorem execHeartbeatDue_orders : AnswersOrders s (execHeartbeatDue s) :=
  .conclude (.ite (.mapLink_advanceTo s _ _) (.refl s))

theorem execSendDecide_orders : AnswersOrders s (execSendDecide s) :=
  .conclude (.ite (.mapLink_advanceTo s _ _) (.refl s))

theorem execTelegramStart_orders : AnswersOrders s (execTelegramStart s) := by
  refine .conclude ?_
  split
  · exact .mapLink_advanceTo s _ _
  · exact .refl s

theorem execAttemptVoided_orders : AnswersOrders s (execAttemptVoided s) :=
  .conclude (.ite (.startBit s) (.refl s))

theorem execStartBitSeen_orders : AnswersOrders s (execStartBitSeen s) :=
  .conclude (.ite (.startBit s) (.refl s))

theorem execArbitrationLost_orders : AnswersOrders s (execArbitrationLost s) :=
  .conclude (.ite (.of_view rfl) (.refl s))

theorem execBitError_orders (b : Bool) : AnswersOrders s (execBitError b s) :=
  .conclude (.ite (.ite (.of_view rfl) (.of_view rfl)) (.refl s))

theorem execTelegramCompleted_orders : AnswersOrders s (execTelegramCompleted s) := by
  refine .conclude ?_
  split
  · exact .mapLink_advanceTo s _ _
  · exact .refl s

theorem execTelegramReceived_orders (bits : List Bit) : AnswersOrders s (execTelegramReceived bits s) := by
  refine .conclude ?_
  split
  · exact .refl s
  · exact .ite (.refl s) ((KeepsOrders.mapLink_advanceTo s _ _).trans (.judgeTelegram _ bits))

theorem execLineDisturbance_orders (bits : Nat) : AnswersOrders s (execLineDisturbance s bits) :=
  .conclude (.ite ((KeepsOrders.mapLink_advanceTo s _ _).trans (.countLink _ _)) (.refl s))

theorem execPeerSilenceExpiry_orders (u : Index) : AnswersOrders s (execPeerSilenceExpiry u s) := by
  refine .conclude ?_
  split
  · exact .refl s
  · exact ((KeepsOrders.advanceTo s _).trans (.of_view (by rfl))).trans (.handLinkInputs s _)

theorem execSuspensionEnd_orders : AnswersOrders s (execSuspensionEnd s) := by
  refine .conclude ?_
  split
  · exact .refl s
  · exact .mapLink_advanceTo s _ _

theorem execDuplicateAlarmExpiry_orders : AnswersOrders s (execDuplicateAlarmExpiry s) := by
  unfold execDuplicateAlarmExpiry
  refine .conclude ?_
  split
  · exact .mapLink_advanceTo s _ _
  · exact .refl s

/-! ### Staged application and store -/

theorem execChannelGroupApply_orders (n : Index) : AnswersOrders s (execChannelGroupApply n s) :=
  .conclude ((KeepsOrders.tryChannel s n).trans (.finishApply s _))

theorem execPointGroupApply_orders (m : Index) : AnswersOrders s (execPointGroupApply m s) := by
  have hat : KeepsOrders s (if s.unguarded then s else s.toCurrentInstant) :=
    .ite (.refl s) (.ite (.refl s) (.advanceTo s _))
  exact .conclude (.ite ((hat.trans (.takePoint _ m)).trans (.finishApply s _)) (.refl s))

theorem execTopologyGroupApply_orders : AnswersOrders s (execTopologyGroupApply s) :=
  .conclude ((KeepsOrders.tryTopology s).trans (.finishApply s _))

theorem execLinkGroupApply_orders : AnswersOrders s (execLinkGroupApply s) :=
  .conclude ((KeepsOrders.tryLink s).trans (.finishApply s _))

theorem execStoreWriteBegin_orders : AnswersOrders s (execStoreWriteBegin s) :=
  .conclude (.ite (.refl s) (.chooseWrite s))

theorem execStoreWriteEnd_orders (o : WriteOutcome) : AnswersOrders s (execStoreWriteEnd o s) := by
  refine .conclude ?_
  split
  · exact .refl s
  · next w hw =>
    refine (KeepsOrders.advanceTo s _).trans (.endWrite ?_ o)
    rwa [State.advanceTo_store]

/-! ### Station port -/

theorem execFrameGapTimeout_orders (read : List Byte) : AnswersOrders s (execFrameGapTimeout s read) :=
  .conclude (.ite (.of_view rfl) (.refl s))

theorem execFramingDiscard_orders (cause : FramingCause) (read : List Byte) :
    AnswersOrders s (execFramingDiscard cause s read) := .conclude (.ite (.of_view rfl) (.refl s))

theorem execFrameCheckFailure_orders : AnswersOrders s (execFrameCheckFailure s) :=
  .conclude (.ite (.refl s) (.of_view rfl))

theorem execForeignFrame_orders (address kind : Byte) : AnswersOrders s (execForeignFrame address kind s) :=
  .conclude (.ite (.refl s) (.ite (.of_view rfl) (.ite (.of_view rfl) (.ite (.of_view rfl) (.refl s)))))

theorem execOverrunDiscard_orders : AnswersOrders s (execOverrunDiscard s) :=
  .conclude (.ite (.of_view rfl) (.refl s))

theorem execIgnoredBroadcast_orders (kind : Byte) : AnswersOrders s (execIgnoredBroadcast kind s) :=
  .conclude (.ite (.refl s) (.ite (.of_view rfl) (.ite (.of_view rfl) (.refl s))))

theorem execReplyStart_orders : AnswersOrders s (execReplyStart s) :=
  .conclude (.ite ((KeepsOrders.advanceTo s _).trans (.of_view rfl)) (.refl s))

theorem execReplySent_orders : AnswersOrders s (execReplySent s) :=
  .conclude (.ite ((KeepsOrders.endReply s).trans (.afterReply _ _)) (.refl s))

theorem execUnknownKind_orders (kind : Byte) : AnswersOrders s (execUnknownKind kind s) :=
  .conclude (.ite (.refl s) (.request fun t => .refl t))

theorem execTimeSet_orders (broadcast : Bool) (body : List Byte) :
    AnswersOrders s (execTimeSet broadcast body s) :=
  .conclude (.ite (.ite (.refl s) (.ite (.of_view rfl) (.broadcastTime s body))) (.request fun t => .setPartTime t _))

/-! ### The requests that act (R157, R166, R167) -/

namespace KeepsOrders

theorem commit : KeepsOrders s s.commit.state := by
  unfold State.commit
  refine handled_ite (refl s) (handled_ite (refl s) (handled_ite (refl s) (handled_ite (refl s) ?_)))
  split
  · exact refl s
  · exact accept (acceptCommit s) _

theorem discardPending : KeepsOrders s s.discardPending.state :=
  handled_ite (refl s) (accept ((of_view (by rfl)).trans (forgetCaptured _ _)) _)

theorem readRecord (body : List Byte) : KeepsOrders s (s.readRecord body).state := by
  unfold State.readRecord
  split <;> exact refl s

theorem readSetting (body : List Byte) : KeepsOrders s (s.readSetting body).state := by
  unfold State.readSetting
  dsimp only
  split <;> exact refl s

/-- An acknowledged record was closed already (R147). -/
theorem markRead (r : TripRecord) : KeepsOrders s (s.markRead r) := by
  have hopens : (s.records.map fun q => if q.number == r.number && q.state == .unread then { q with state := .read }
      else q).map (fun r => decide (r.state = .opened)) = s.opens := by
    rw [State.opens, List.map_map]
    refine List.map_congr_left fun q _ => ?_
    by_cases hq : q.state = .unread
    · by_cases hn : q.number = r.number <;> simp [hq, hn]
    · simp [hq]
  have hread (st : Store) (hs : s.store.noneOpen → st.noneOpen) : KeepsOrders s { s with
      records := s.records.map fun q => if q.number == r.number && q.state == .unread then { q with state := .read } else q
      store := st } :=
    of_same ⟨rfl, rfl, rfl, rfl, rfl, hopens, hs⟩ fun _ => .of_grid rfl rfl _
  exact ite (hread _ id) (hread _ id)

theorem ackRecord (number : Nat) : KeepsOrders s (s.ackRecord number).state := by
  unfold State.ackRecord
  split
  · exact refl s
  · split
    · exact refl s
    · exact markRead s _
    · exact refl s

theorem writeSetting (body : List Byte) : KeepsOrders s (s.writeSetting body).state := by
  unfold State.writeSetting
  dsimp only
  split
  · exact refl s
  · split
    · exact refl s
    · exact of_view rfl

/-- Zones are evaluated in every state that a request enters (R157, R97). -/
theorem setProtection (target : Nat) : KeepsOrders s (s.setProtection target).state := by
  unfold State.setProtection
  split
  · exact changeState (.inl rfl)
  · exact handled_ite (changeState (.inl rfl)) (refl s)
  · exact changeState (.inl rfl)
  · exact changeState (.inl rfl)
  · exact refl s

theorem channelOut (n : Index) : KeepsOrders s (s.channelOut n).state := by
  unfold State.channelOut
  split
  case h_1 | h_2 | h_3 => exact refl s
  all_goals exact handChanged n rfl

theorem channelIn (n : Index) : KeepsOrders s (s.channelIn n).state := by
  unfold State.channelIn
  split
  case h_3 => exact handChanged n rfl
  all_goals exact refl s

theorem captureReference (n : Index) : KeepsOrders s (s.captureReference n).state := by
  unfold State.captureReference
  dsimp only
  split
  case h_8 => exact handled_ite (refl s) (of_view rfl)
  all_goals exact refl s

theorem simulateLight (n : Index) (on : Bool) : KeepsOrders s (s.simulateLight n on).state := by
  refine handled_ite (refl s) ?_
  split
  case h_1 | h_2 | h_3 => exact refl s
  all_goals exact handChanged n rfl

theorem simulateCurrent (m : Index) (on : Bool) : KeepsOrders s (s.simulateCurrent m on).state := by
  have hset : KeepsOrders s (s.setPoint m { s.point m with simulated := on }) := setPoint m _ rfl
  exact handled_ite (refl s) (ite hset (hset.trans (evaluateWhere _)))

/-- TEST_TRIP makes an order in TEST alone (R118). -/
theorem testTrip (set : List Index) : KeepsOrders s (s.testTrip set).state := by
  unfold State.testTrip
  split
  · exact refl s
  · next htest =>
    split
    · refine handled_ite (refl s) (handled_ite (refl s) (of_evaluating (.requestOrder _ _ _) ?_))
      have hstate : s.control.state = .test := by simpa using htest
      rw [hstate]
      rfl
    · exact refl s

theorem cancelOrder (p : Index) : KeepsOrders s (s.cancelOrder p).state := by
  unfold State.cancelOrder
  split
  · exact refl s
  · next o ho =>
    exact handled_ite (of_standing (.release p) (List.ne_nil_of_mem (State.mem_of_orderAt ho).1)) (refl s)

end KeepsOrders

/-! ### The requests' commands -/

theorem execIdentify_orders (body : List Byte) : AnswersOrders s (execIdentify body s) := .read

theorem execStatus_orders (body : List Byte) : AnswersOrders s (execStatus body s) := .read

theorem execReadChannel_orders (body : List Byte) : AnswersOrders s (execReadChannel body s) := .read

theorem execReadPoint_orders (body : List Byte) : AnswersOrders s (execReadPoint body s) := .read

theorem execReadPosition_orders (body : List Byte) : AnswersOrders s (execReadPosition body s) := .read

theorem execReadZone_orders (body : List Byte) : AnswersOrders s (execReadZone body s) := .read

theorem execReadOrders_orders (body : List Byte) : AnswersOrders s (execReadOrders body s) := .read

theorem execReadPeers_orders (body : List Byte) : AnswersOrders s (execReadPeers body s) := .read

theorem execReadRecord_orders (body : List Byte) : AnswersOrders s (execReadRecord body s) :=
  .request fun t => .readRecord t body

theorem execAckRecord_orders (body : List Byte) : AnswersOrders s (execAckRecord body s) :=
  .request fun t => .ackRecord t _

theorem execFetchNotices_orders (body : List Byte) : AnswersOrders s (execFetchNotices body s) :=
  .request (act := fun _ => State.fetchNotices) fun _ => .of_view rfl

theorem execReadSetting_orders (body : List Byte) : AnswersOrders s (execReadSetting body s) :=
  .request fun t => .readSetting t body

theorem execWriteSetting_orders (body : List Byte) : AnswersOrders s (execWriteSetting body s) :=
  .request fun t => .writeSetting t body

theorem execDiscard_orders (body : List Byte) : AnswersOrders s (execDiscard body s) :=
  .request .discardPending

theorem execCommit_orders (body : List Byte) : AnswersOrders s (execCommit body s) :=
  .request .commit

theorem execSetState_orders (body : List Byte) : AnswersOrders s (execSetState body s) :=
  .request fun t => .setProtection t _

theorem execChannelOut_orders (body : List Byte) : AnswersOrders s (execChannelOut body s) :=
  .request fun t => .channelOut t _

theorem execChannelIn_orders (body : List Byte) : AnswersOrders s (execChannelIn body s) :=
  .request fun t => .channelIn t _

theorem execCaptureReference_orders (body : List Byte) : AnswersOrders s (execCaptureReference body s) :=
  .request fun t => .captureReference t _

theorem execSimulateLight_orders (body : List Byte) : AnswersOrders s (execSimulateLight body s) :=
  .request fun t => .simulateLight t _ _

theorem execSimulateCurrent_orders (body : List Byte) : AnswersOrders s (execSimulateCurrent body s) :=
  .request fun t => .simulateCurrent t _ _

theorem execTestTrip_orders (body : List Byte) : AnswersOrders s (execTestTrip body s) :=
  .request fun t => .testTrip t _

theorem execCancelOrder_orders (body : List Byte) : AnswersOrders s (execCancelOrder body s) :=
  .request fun t => .cancelOrder t _

theorem execResetLockout_orders (body : List Byte) : AnswersOrders s (execResetLockout body s) :=
  .request fun t => .clearLockouts fun p hp => by simpa using (List.mem_filter.mp hp).2

theorem execRestart_orders (body : List Byte) : AnswersOrders s (execRestart body s) :=
  .request (act := fun _ t => Machine.accept (t.mapPort fun p => { p with restartAfter := true }) [])
    fun _ => .of_view rfl

/-! ### Every command, every step -/

/-- Every command keeps the rules on orders. -/
theorem exec_orders (c : Instr) : AnswersOrders s (exec c s) := by
  cases c with
  | powerOn => exact execPowerOn_orders s
  | powerLoss => exact execPowerLoss_orders s
  | restartTerminalChange b => exact execRestartTerminalChange_orders s b
  | restartTerminalPress => exact execRestartTerminalPress_orders s
  | restartTerminalRelease => exact execRestartTerminalRelease_orders s
  | startingEnd => exact execStartingEnd_orders s
  | testTimeout => exact execTestTimeout_orders s
  | lightSample raw => exact execLightSample_orders s raw
  | backgroundUpdate => exact execBackgroundUpdate_orders s
  | supervisionSlot n => exact execSupervisionSlot_orders s n
  | burstEnd n => exact execBurstEnd_orders s n
  | captureBurstStart n => exact execCaptureBurstStart_orders s n
  | captureEnd n => exact execCaptureEnd_orders s n
  | currentSample samples => exact execCurrentSample_orders s samples
  | ocHoldExpiry m => exact execOcHoldExpiry_orders s m
  | cpClear m => exact execCpClear_orders s m
  | contactRawChange p c on => exact execContactRawChange_orders s p c on
  | debounceExpiry p c => exact execDebounceExpiry_orders s p c
  | discrepancyExpiry p => exact execDiscrepancyExpiry_orders s p
  | minPulseExpiry p => exact execMinPulseExpiry_orders s p
  | bfDeadline p => exact execBfDeadline_orders s p
  | driveTimeout p => exact execDriveTimeout_orders s p
  | lockoutButtonChange b => exact execLockoutButtonChange_orders s b
  | lockoutResetPress => exact execLockoutResetPress_orders s
  | lockoutButtonRelease => exact execLockoutButtonRelease_orders s
  | heartbeatDue => exact execHeartbeatDue_orders s
  | sendDecide => exact execSendDecide_orders s
  | telegramStart => exact execTelegramStart_orders s
  | attemptVoided => exact execAttemptVoided_orders s
  | startBitSeen => exact execStartBitSeen_orders s
  | arbitrationLost => exact execArbitrationLost_orders s
  | bitError b => exact execBitError_orders s b
  | telegramCompleted => exact execTelegramCompleted_orders s
  | telegramReceived bits => exact execTelegramReceived_orders s bits
  | lineDisturbance bits => exact execLineDisturbance_orders s bits
  | peerSilenceExpiry u => exact execPeerSilenceExpiry_orders s u
  | suspensionEnd => exact execSuspensionEnd_orders s
  | duplicateAlarmExpiry => exact execDuplicateAlarmExpiry_orders s
  | channelGroupApply n => exact execChannelGroupApply_orders s n
  | pointGroupApply m => exact execPointGroupApply_orders s m
  | topologyGroupApply => exact execTopologyGroupApply_orders s
  | linkGroupApply => exact execLinkGroupApply_orders s
  | storeWriteBegin => exact execStoreWriteBegin_orders s
  | storeWriteEnd o => exact execStoreWriteEnd_orders s o
  | frameGapTimeout read => exact execFrameGapTimeout_orders s read
  | framingDiscard cause read => exact execFramingDiscard_orders s cause read
  | frameCheckFailure => exact execFrameCheckFailure_orders s
  | foreignFrame address kind => exact execForeignFrame_orders s address kind
  | overrunDiscard => exact execOverrunDiscard_orders s
  | ignoredBroadcast kind => exact execIgnoredBroadcast_orders s kind
  | unknownKind kind => exact execUnknownKind_orders s kind
  | replyStart => exact execReplyStart_orders s
  | replySent => exact execReplySent_orders s
  | identify body => exact execIdentify_orders s body
  | status body => exact execStatus_orders s body
  | readChannel body => exact execReadChannel_orders s body
  | readPoint body => exact execReadPoint_orders s body
  | readPosition body => exact execReadPosition_orders s body
  | readZone body => exact execReadZone_orders s body
  | readOrders body => exact execReadOrders_orders s body
  | readPeers body => exact execReadPeers_orders s body
  | readRecord body => exact execReadRecord_orders s body
  | ackRecord body => exact execAckRecord_orders s body
  | fetchNotices body => exact execFetchNotices_orders s body
  | readSetting body => exact execReadSetting_orders s body
  | writeSetting body => exact execWriteSetting_orders s body
  | discard body => exact execDiscard_orders s body
  | commit body => exact execCommit_orders s body
  | setState body => exact execSetState_orders s body
  | channelOut body => exact execChannelOut_orders s body
  | channelIn body => exact execChannelIn_orders s body
  | captureReference body => exact execCaptureReference_orders s body
  | simulateLight body => exact execSimulateLight_orders s body
  | simulateCurrent body => exact execSimulateCurrent_orders s body
  | testTrip body => exact execTestTrip_orders s body
  | cancelOrder body => exact execCancelOrder_orders s body
  | resetLockout body => exact execResetLockout_orders s body
  | timeSet broadcast body => exact execTimeSet_orders s broadcast body
  | restart body => exact execRestart_orders s body

/-- Every step keeps the rules on orders. -/
theorem step_orders : AnswersOrders s (step s) := by
  unfold step
  split
  · refine .wiring (.ite (.advanceTo s _) (.refl s)) ?_
    unfold State.idle
    split
    · exact s.advanceTo_orders _
    · rfl
  · next c rest _ =>
    intro t ht
    have hqueue : KeepsRules s { s with pending := rest } := (KeepsOrders.of_view (by rfl)).rules fun _ => id
    have hexec := exec_orders { s with pending := rest } c t ht
    exact ⟨hexec.1 ∘ hqueue.1, hexec.2 ∘ hqueue.2⟩

/-- Settles O6: each operation of the order unit keeps orders, outputs, lockouts and the OPEN record together, and only a
reset, a loss of supply and the lockouts' reset touch them otherwise. -/
theorem ordersAlwaysAgree : Obligations.OrdersAlwaysAgree := fun s hs t ht => (step_orders s t ht).1 hs

/-- Settles O12: each command that changes the evidence on a position judges its order, and each order made is judged with
its creation, in a protection state in which zones are evaluated. -/
theorem ordersStayJudged : Obligations.OrdersStayJudged := fun s hs t ht => (step_orders s t ht).2 hs

end Sys2Proof.Machine
end

section
/-! The order unit's timers and its judgement of an order by the evidence (R107 to R109, R115), written out field by field. -/

namespace Sys2Proof.Machine

open Wire

variable {s t : State} {p : Index} {o : Order}

/-! ### Orders and entries written out (R100, R144) -/

theorem State.mapOrder_eq (s : State) (p : Index) (f : Order → Order) :
    s.mapOrder p f = { s with orders := s.orders.map fun q => if q.position = p then f q else q } := by
  simp only [State.mapOrder, beq_iff_eq]

theorem State.mapEntry_eq (s : State) (p : Index) (f : Entry → Entry) :
    s.mapEntry p f = { s with
      records := s.records.map fun r =>
        if r.state ≠ .opened then r
        else { r with entries := r.entries.map fun e => if e.position = p ∧ e.released = none then f e else e } } := by
  simp only [State.mapEntry, State.mapOpen, beq_iff_eq, Bool.and_eq_true, ne_eq, ite_not]

theorem State.recordConfirmation_eq (s : State) (p : Index) :
    s.recordConfirmation p = { s with
      records := s.records.map fun r =>
        if r.state ≠ .opened then r
        else { r with
          entries := r.entries.map fun e =>
            if e.position = p ∧ e.released = none then
              { e with
                confirmed := some (min 65535 ((s.clock - s.incidentStart) / 1200))
                stage := if e.stage = .driving then .confirmed else e.stage }
            else e } } := by
  rw [State.recordConfirmation, s.mapEntry_eq]
  simp only [beq_iff_eq]
  rfl

/-- Confirmation in the list and in the entry (R107, R144). -/
theorem State.confirmAt_eq (s : State) (p : Index) :
    s.confirmAt p = { s with
      orders := s.orders.map fun q => if q.position = p then { q with stage := .confirmed } else q
      records := s.records.map fun r =>
        if r.state ≠ .opened then r
        else { r with
          entries := r.entries.map fun e =>
            if e.position = p ∧ e.released = none then
              { e with
                confirmed := some (min 65535 ((s.clock - s.incidentStart) / 1200))
                stage := if e.stage = .driving then .confirmed else e.stage }
            else e } } := by
  rw [State.confirmAt, s.mapOrder_eq, State.recordConfirmation_eq]

/-- The instant a minimum pulse ends has come when the clock is brought to it. -/
theorem State.pulseRun_advanceTo (h : o.position = p) :
    (s.advanceTo (o.startedAt + (s.positionSet p).minPulse * Config.ms)).pulseRun o = true := by
  subst h
  have hset : (s.advanceTo (o.startedAt + (s.positionSet o.position).minPulse * Config.ms)).positionSet o.position =
      s.positionSet o.position := by rw [State.positionSet, State.advanceTo_settings]; rfl
  simp only [State.pulseRun, State.pulseEnd, hset, State.advanceTo_clock, decide_eq_true_eq]
  exact Nat.le_max_right _ _

/-! ### The timers (R108, R115) -/

theorem exec_minPulseExpiry_none (hp : s.powered = true) (ho : s.orderAt p = none) :
    exec (.minPulseExpiry p) s = .next (settle s s) := by
  show execMinPulseExpiry p s = _
  unfold execMinPulseExpiry
  rw [conclude_powered s _ hp]
  simp only [ho]

theorem exec_minPulseExpiry_some (hp : s.powered = true) (ho : s.orderAt p = some o) :
    exec (.minPulseExpiry p) s = .next (settle s
      (if o.stage = .confirmed then (s.advanceTo (s.pulseEnd p o.startedAt)).release p
      else if o.supervised = false ∧ (o.stage = .driving ∨ o.stage = .failed) then
        (s.advanceTo (s.pulseEnd p o.startedAt)).confirm o
      else s)) := by
  show execMinPulseExpiry p s = _
  unfold execMinPulseExpiry
  rw [conclude_powered s _ hp]
  simp only [ho, beq_iff_eq, Bool.and_eq_true, Bool.or_eq_true, Bool.not_eq_true']

theorem exec_driveTimeout_none (hp : s.powered = true) (ho : s.orderAt p = none) :
    exec (.driveTimeout p) s = .next (settle s s) := by
  show execDriveTimeout p s = _
  unfold execDriveTimeout
  rw [conclude_powered s _ hp]
  simp only [ho]

theorem exec_driveTimeout_some (hp : s.powered = true) (ho : s.orderAt p = some o) :
    exec (.driveTimeout p) s = .next (settle s
      (if o.stage = .failed then (s.advanceTo (o.startedAt + Config.driveSpan)).stallOrder o else s)) := by
  show execDriveTimeout p s = _
  unfold execDriveTimeout
  rw [conclude_powered s _ hp]
  simp only [ho, beq_iff_eq]

/-- An unsupervised order confirmed when its minimum pulse has run is released with it (R108). -/
theorem State.confirm_advanceTo (h : o.position = p) :
    (s.advanceTo (s.pulseEnd p o.startedAt)).confirm o =
      ((s.advanceTo (s.pulseEnd p o.startedAt)).confirmAt p).release p := by
  rw [State.confirm_eq, h]
  exact if_pos (State.pulseRun_advanceTo h)

theorem State.stallOrder_eq (s : State) (o : Order) :
    s.stallOrder o = State.post { s with
      orders := s.orders.map fun q => if q.position = o.position then { q with stage := .stalled } else q
      outputs := withoutMember 8 s.outputs o.position
      records := s.records.map fun r =>
        if r.state ≠ .opened then r
        else { r with
          entries := r.entries.map fun e =>
            if e.position = o.position ∧ e.released = none then { e with stage := .stalled } else e } }
      .driveTimeout o.position o.attr.code := by
  unfold State.stallOrder
  dsimp only
  rw [s.mapOrder_eq, State.recordStage, State.mapEntry_eq]
  rfl

/-! ### The judgement (R107 to R109) -/

theorem State.followPosition_eq (s : State) (p : Index) :
    s.followPosition p = { s with
      orders := s.orders.map fun q => if q.position = p then { q with supervised := !s.unsupervised p } else q } :=
  s.mapOrder_eq p _

theorem State.followPosition_confirmAt_eq (s : State) (p : Index) :
    (s.followPosition p).confirmAt p = { s with
      orders := s.orders.map fun q =>
        if q.position = p then { q with supervised := !s.unsupervised p, stage := .confirmed } else q
      records := s.records.map fun r =>
        if r.state ≠ .opened then r
        else { r with
          entries := r.entries.map fun e =>
            if e.position = p ∧ e.released = none then
              { e with
                confirmed := some (min 65535 ((s.clock - s.incidentStart) / 1200))
                stage := if e.stage = .driving then .confirmed else e.stage }
            else e } } := by
  rw [s.followPosition_confirmAt p, s.mapOrder_eq, State.recordConfirmation_eq]

theorem State.pulseRun_iff (h : o.position = p) :
    s.pulseRun o = true ↔ o.startedAt + (s.positionSet p).minPulse * Config.ms ≤ s.clock := by
  subst h
  exact decide_eq_true_iff

/-- Settles O36: each timer's command by the stage of the order it finds, and the judgement by its evidence. -/
theorem orderTimersRun : Obligations.OrderTimersRun := by
  unfold Obligations.OrderTimersRun
  refine ⟨fun s p hp => ⟨exec_minPulseExpiry_none hp, fun o ho => ?_⟩,
    fun s p hp => ⟨exec_driveTimeout_none hp, fun o ho => ?_⟩, fun s p => ⟨State.judgeOrder_of_none, fun o ho => ?_⟩⟩
  · have hpos := (State.mem_of_orderAt ho).2
    rw [exec_minPulseExpiry_some hp ho]
    dsimp only
    refine ⟨fun hstage => by rw [if_pos hstage]; rfl, fun hsup hstage => ?_, fun hstage => ?_⟩
    · have hne : o.stage ≠ .confirmed := by rcases hstage with h | h <;> simp [h]
      rw [if_neg hne, if_pos ⟨hsup, hstage⟩, State.confirm_advanceTo hpos, State.confirmAt_eq]
      simp only [State.advanceTo_orders, State.advanceTo_records, State.advanceTo_incidentStart]
      rfl
    · have hne : o.stage ≠ .confirmed := by rcases hstage with h | h <;> simp [h]
      have hno : ¬ (o.supervised = false ∧ (o.stage = .driving ∨ o.stage = .failed)) := by
        rcases hstage with h | h <;> simp [h]
      rw [if_neg hne, if_neg hno]
  · obtain rfl := (State.mem_of_orderAt ho).2
    rw [exec_driveTimeout_some hp ho]
    refine ⟨fun hstage => by rw [if_neg hstage], fun hstage => ?_⟩
    rw [if_pos hstage, State.stallOrder_eq]
    simp only [State.advanceTo_orders, State.advanceTo_outputs, State.advanceTo_records]
    rfl
  · have hrun := State.pulseRun_iff (s := s) (State.mem_of_orderAt ho).2
    rw [State.judgeOrder_of_some ho, s.followPosition_confirmAt_eq, s.followPosition_eq]
    dsimp only [id]
    simp only [hrun]
    refine ⟨fun hno => ?_, fun hstage hun hclear => ?_, fun hstage hun hpulse => ?_⟩
    · rcases hno with hstage | ⟨hun, hclear⟩ | ⟨hun, hpulse⟩
      · rw [if_pos hstage]
      · simp [hun, hclear]
      · simp [hun, hpulse]
    · rw [if_neg hstage, hun, hclear]
      rfl
    · rw [if_neg hstage, if_pos hun, if_pos hpulse]

end Sys2Proof.Machine
end

section
/-! A release, and the close of the trip record with the last order (R50, R108, R145). -/

namespace Sys2Proof.Machine

open Wire

variable {s t : State} {p : Index} {o : Order} {r : TripRecord}

/-! ### The close of the OPEN record (R145) -/

/-- The peaks handed over, the OPEN record UNREAD with them, RECORD_CLOSED posted. -/
def State.closed (s : State) (r : TripRecord) : State :=
  State.post { s with
    current := { s.current with points := s.current.points.map fun (q : Point) => { q with peak := none } }
    records := s.records.map fun q =>
      if q.state = .opened then { q with peaks := some s.peaks, state := .unread } else q }
    .recordClosed r.kind.code r.number

theorem State.closeRecord_some (h : s.records.find? (fun r => r.state == .opened) = some r) :
    s.closeRecord =
      if r.kind = .live then
        if unreadLive (s.closed r).records = 14 then ((s.closed r).queueRecord r.number).post .recordsNearlyFull 0 14
        else (s.closed r).queueRecord r.number
      else s.closed r := by
  rw [State.closeRecord, h]
  simp only [State.mapOpen, beq_iff_eq]
  rfl

theorem State.closeRecord_fields (h : s.records.find? (fun r => r.state == .opened) = some r) :
    s.closeRecord.records = (s.closed r).records ∧ s.closeRecord.current = (s.closed r).current ∧
      s.closeRecord.notices =
        (if r.kind = .live ∧ unreadLive (s.closed r).records = 14 then
          enqueue (s.closed r).notices { kind := .recordsNearlyFull, subject := 0, value := 14, time := s.partTime }
        else (s.closed r).notices) ∧
      s.closeRecord.store.waitRecords =
        (if r.kind = .live ∧ r.number ∉ s.store.waitRecords then s.store.waitRecords ++ [r.number]
        else s.store.waitRecords) := by
  have hqueue : ((s.closed r).queueRecord r.number).store.waitRecords =
      if r.number ∉ s.store.waitRecords then s.store.waitRecords ++ [r.number] else s.store.waitRecords := by
    simp only [State.queueRecord, List.contains_iff_mem, ite_not]
    rfl
  rw [State.closeRecord_some h]
  by_cases hlive : r.kind = .live
  · by_cases hfull : unreadLive (s.closed r).records = 14
    · rw [if_pos hlive, if_pos hfull, if_pos ⟨hlive, hfull⟩]
      simp only [hlive, true_and]
      exact ⟨rfl, rfl, rfl, hqueue⟩
    · rw [if_pos hlive, if_neg hfull, if_neg fun h => hfull h.2]
      simp only [hlive, true_and]
      exact ⟨rfl, rfl, rfl, hqueue⟩
  · rw [if_neg hlive, if_neg fun h => hlive h.1, if_neg fun h => hlive h.1]
    exact ⟨rfl, rfl, rfl, rfl⟩

/-! ### The departure (R108) -/

/-- The order off the list, its output de-energised, its entry with the released offset, before any close. -/
def State.departed (s : State) (p : Index) : State :=
  { s with
    orders := s.orders.filter fun o => o.position != p
    outputs := withoutMember 8 s.outputs p
    records := s.records.map fun r =>
      if r.state = .opened then
        { r with
          entries := r.entries.map fun e =>
            if e.position = p ∧ e.released = none then
              { e with released := some (min 65535 ((s.clock - s.incidentStart) / 1200)) }
            else e }
      else r }

theorem State.release_eq (s : State) (p : Index) :
    s.release p = s.noteContent (if (s.departed p).orders = [] then (s.departed p).closeRecord else s.departed p) := by
  have hrecorded : (({ s with orders := s.orders.filter fun o => o.position != p } : State).deenergise p).recordRelease p =
      s.departed p := by
    rw [State.recordRelease, State.mapEntry_eq]
    simp only [ne_eq, ite_not]
    rfl
  unfold State.release State.depart
  dsimp only
  rw [hrecorded]
  simp only [List.isEmpty_iff]

/-- The record that closes is the one that was OPEN, with its entries as the departure leaves them. -/
theorem State.departed_find (s : State) (p : Index) :
    (s.departed p).records.find? (fun r => r.state == .opened) =
      (s.records.find? fun r => r.state == .opened).map fun r =>
        { r with
          entries := r.entries.map fun e =>
            if e.position = p ∧ e.released = none then
              { e with released := some (min 65535 ((s.clock - s.incidentStart) / 1200)) }
            else e } := by
  rw [State.departed, List.find?_map]
  have htest : ((fun r : TripRecord => r.state == .opened) ∘ fun r =>
      if r.state = .opened then
        { r with
          entries := r.entries.map fun e =>
            if e.position = p ∧ e.released = none then
              { e with released := some (min 65535 ((s.clock - s.incidentStart) / 1200)) }
            else e }
      else r) = fun r => r.state == .opened := by
    funext r
    by_cases hr : r.state = .opened <;> simp [hr]
  rw [htest]
  cases hf : s.records.find? fun r => r.state == .opened with
  | none => rfl
  | some r =>
    have hopen : r.state = .opened := by simpa using List.find?_some hf
    simp [hopen]

/-- Settles O35: the departure, and with the last order the close of the record that was OPEN. -/
theorem releaseDeparts : Obligations.ReleaseDeparts := by
  unfold Obligations.ReleaseDeparts
  intro s p _ _
  dsimp only
  have houtputs : (s.release p).outputs = withoutMember 8 s.outputs p :=
    s.depart_outputs p (recordRelease_changesEntries p)
  have heq := s.release_eq p
  refine ⟨s.depart_orders p fun _ => rfl, ?_, ?_, s.depart_lockout p (recordRelease_changesEntries p), s.release_zones p,
    s.release_apart p, fun hleft => ?_, fun hleft r hr => ?_⟩
  · rw [houtputs]
    exact fun hin => (mem_withoutMember.mp hin).2.1 rfl
  · intro q h8 hne
    rw [houtputs, mem_withoutMember]
    simp [h8, hne]
  · rw [if_neg (show ¬ (s.departed p).orders = [] from hleft)] at heq
    rw [heq]
    simp only [State.noteContent_notices, State.noteContent_store, State.noteContent_records]
    exact ⟨rfl, rfl, rfl⟩
  · rw [if_pos (show (s.departed p).orders = [] from hleft)] at heq
    have hfound := s.departed_find p
    rw [Option.mem_def.mp hr] at hfound
    obtain ⟨hrecords, hcurrent, hnotices, hwait⟩ := State.closeRecord_fields hfound
    have hall : (s.release p).records = s.records.map fun q =>
        if q.state = .opened then
          { q with
            entries := q.entries.map fun e =>
              if e.position = p ∧ e.released = none then
                { e with released := some (min 65535 ((s.clock - s.incidentStart) / 1200)) }
              else e
            peaks := some ((upTo 4).map fun m => ((s.point m).peak).getD 0), state := .unread }
        else q := by
      rw [heq, State.noteContent_records, hrecords]
      show ((s.departed p).records).map _ = _
      rw [State.departed, List.map_map]
      refine List.map_congr_left fun q _ => ?_
      by_cases hq : q.state = .opened
      · simp [hq]
        rfl
      · simp [hq]
    refine ⟨hall, fun m _ => ?_, ?_, ?_⟩
    · rw [State.point, heq, State.noteContent_current, hcurrent]
      exact congrArg Point.peak (item_map (fun q : Point => { q with peak := none }) s.current.points .fresh m)
    · rw [heq, State.noteContent_notices, State.noteContent_records, hnotices, hrecords]
      rfl
    · rw [heq, State.noteContent_store]
      exact hwait

end Sys2Proof.Machine
end

section
/-! A request for a position without an order: the creation, its judgement and its records (R103, R107, R120, R121, R143,
R144). -/

namespace Sys2Proof.Machine

open Wire

variable {s t : State} {p : Index} {o : Order} {c : Cause} {a : Attribute}

/-! ### The judgement of an order that starts now (R107, R108) -/

/-- With a minimum pulse to run, an order that starts now is not released. -/
theorem State.pulseRun_now (hm : 0 < (s.positionSet p).minPulse) (hp : o.position = p) (ho : o.startedAt = s.clock) :
    s.pulseRun o = false := by
  have hpos : 0 < (s.positionSet p).minPulse * Config.ms := Nat.mul_pos hm (by decide)
  refine decide_eq_false ?_
  rw [State.pulseEnd, hp, ho]
  exact Nat.not_le_of_lt (Nat.lt_add_of_pos_right hpos)

/-- The evidence is there at once: the position is supervised and cleared. -/
def State.confirmsAtOnce (s : State) (p : Index) : Bool := !s.unsupervised p && s.cleared p

/-- A DRIVING order whose minimum pulse runs is confirmed by its judgement, or drives on. -/
theorem State.judgeOrder_driving (ho : s.orderAt p = some o) (hs : o.stage = .driving) (hr : s.pulseRun o = false) :
    s.judgeOrder p =
      if s.confirmsAtOnce p then (s.followPosition p).confirmAt p else s.followPosition p := by
  rw [State.judgeOrder_of_some ho, hs, hr, State.confirmsAtOnce]
  cases hu : s.unsupervised p <;> cases hc : s.cleared p <;> simp

/-- An order already supervised as its position has it is not touched by that. -/
theorem State.followPosition_same (h : ∀ o ∈ s.orders, o.position = p → o.supervised = !s.unsupervised p) :
    s.followPosition p = s :=
  State.mapOrder_same fun o ho hp => by rw [← h o ho hp]

theorem State.confirmsAtOnce_of_apart (h : t.apart = s.apart) (p : Index) : t.confirmsAtOnce p = s.confirmsAtOnce p := by
  obtain ⟨hu, hc⟩ := SameEvidence.of_apart h p
  rw [State.confirmsAtOnce, State.confirmsAtOnce, hu, hc]

/-! ### Outputs and lockouts of a LIVE order (R120, R121) -/

theorem State.energised_eq (s : State) (p : Index) :
    (s.energise p).setLockout p = { s with
      outputs := withMember 8 s.outputs p
      lockout := if p ∈ s.lockout then s.lockout else withMember 8 s.lockout p
      store := { s.store with waitLockout := s.store.waitLockout || !s.lockout.contains p } } := by
  unfold State.setLockout
  by_cases hp : p ∈ s.lockout
  · simp [hp, State.energise]
  · simp [hp, State.energise, State.queueLockout]

theorem State.placeOrder_eq (s : State) (p : Index) (c : Cause) (a : Attribute) :
    s.placeOrder p c a = { s with
      orders := s.orders ++ [s.newOrder p c a]
      outputs := if a = .live then withMember 8 s.outputs p else s.outputs
      lockout := if a = .live ∧ p ∉ s.lockout then withMember 8 s.lockout p else s.lockout
      store := { s.store with waitLockout := s.store.waitLockout || (a == .live && !s.lockout.contains p) } } := by
  cases a with
  | dry =>
    have hne : (Attribute.dry == Attribute.live) = false := rfl
    simp [State.placeOrder, hne]
  | live =>
    show (({ s with orders := s.orders ++ [s.newOrder p c .live] } : State).energise p).setLockout p = _
    rw [State.energised_eq]
    by_cases hp : p ∈ s.lockout <;> simp [hp]

/-! ### A creation (R103, R143, R144) -/

/-- The new order in its place and recorded, before its judgement. -/
def State.orderRecorded (s : State) (p : Index) (c : Cause) (a : Attribute) : State :=
  (s.placeOrder p c a).recordCreation s.orders.isEmpty (s.newOrder p c a) c

theorem State.orderRecorded_orders (s : State) (p : Index) (c : Cause) (a : Attribute) :
    (s.orderRecorded p c a).orders = s.orders ++ [s.newOrder p c a] :=
  (State.recordCreation_orders _ _ _ _).trans (s.placeOrder_orders p c a)

theorem State.orderRecorded_apart (s : State) (p : Index) (c : Cause) (a : Attribute) :
    (s.orderRecorded p c a).apart = s.apart :=
  (State.recordCreation_apart _ _ _ _).trans (s.placeOrder_apart p c a)

theorem State.mem_orderRecorded (hn : s.orderAt p = none) (ho : o ∈ (s.orderRecorded p c a).orders)
    (hp : o.position = p) : o = s.newOrder p c a := by
  rw [s.orderRecorded_orders] at ho
  exact (List.mem_append.mp ho).elim (fun hold => absurd hp (State.orderAt_eq_none.mp hn o hold)) List.mem_singleton.mp

/-- A created order is confirmed at once, or drives. -/
theorem State.createOrder_judged (hn : s.orderAt p = none) (hm : 0 < (s.positionSet p).minPulse) :
    s.createOrder p c a =
      if s.confirmsAtOnce p then (s.orderRecorded p c a).confirmAt p else s.orderRecorded p c a := by
  have hapart := s.orderRecorded_apart p c a
  have hat : (s.orderRecorded p c a).orderAt p = some (s.newOrder p c a) := by
    have hleft : s.orders.find? (fun o => o.position == p) = none := hn
    simp [State.orderAt, s.orderRecorded_orders, List.find?_append, hleft, State.newOrder]
  have hpulse : (s.orderRecorded p c a).pulseRun (s.newOrder p c a) = false := by
    refine State.pulseRun_now (p := p) ?_ rfl (State.clock_of_apart hapart).symm
    rwa [State.positionSet, State.settings_of_apart hapart]
  have hfollow : (s.orderRecorded p c a).followPosition p = s.orderRecorded p c a :=
    State.followPosition_same fun o ho hp => by
      rw [State.mem_orderRecorded hn ho hp, (SameEvidence.of_apart hapart p).1]
      rfl
  rw [s.createOrder_eq]
  show (s.orderRecorded p c a).judgeOrder p = _
  rw [State.judgeOrder_driving hat rfl hpulse, hfollow, State.confirmsAtOnce_of_apart hapart]

/-- Only the new order of the position is confirmed. -/
theorem State.orderRecorded_confirmAt_orders (hn : s.orderAt p = none) :
    ((s.orderRecorded p c a).confirmAt p).orders =
      s.orders ++ [{ s.newOrder p c a with stage := .confirmed }] := by
  rw [State.confirmAt_eq]
  show (s.orderRecorded p c a).orders.map _ = _
  rw [s.orderRecorded_orders, List.map_append]
  congr 1
  · refine (List.map_congr_left fun o ho => ?_).trans s.orders.map_id
    simp [State.orderAt_eq_none.mp hn o ho]
  · simp [State.newOrder]

/-! ### Entries (R144) -/

/-- The confirmation of an entry (R144). -/
def Entry.confirmedAt (e : Entry) (offset : Nat) : Entry :=
  { e with confirmed := some offset, stage := if e.stage = .driving then .confirmed else e.stage }

/-- All standing entries of the position confirmed in a record (R144). -/
def TripRecord.confirmed (r : TripRecord) (p : Index) (offset : Nat) : TripRecord :=
  { r with
    entries := r.entries.map fun e => if e.position = p ∧ e.released = none then e.confirmedAt offset else e }

theorem State.confirmAt_records (s : State) (p : Index) :
    (s.confirmAt p).records = s.records.map fun r => if r.state ≠ .opened then r else r.confirmed p s.offset := by
  rw [State.confirmAt_eq]
  rfl

/-- Where all entries of the position are released, none is changed. -/
theorem map_entries_released {es : List Entry} (h : ∀ e ∈ es, e.position = p → e.released.isSome) (f : Entry → Entry) :
    es.map (fun e => if e.position = p ∧ e.released = none then f e else e) = es := by
  refine (List.map_congr_left fun e he => if_neg ?_).trans es.map_id
  rintro ⟨hp, hr⟩
  simpa [hr] using h e he hp

/-- The entry that a creation leaves, after the judgement of its order (R107, R144). -/
def State.judgedEntry (s : State) (p : Index) (c : Cause) (a : Attribute) (created : Nat) : Entry :=
  if s.confirmsAtOnce p then (newEntry (s.newOrder p c a) c created).confirmedAt created
  else newEntry (s.newOrder p c a) c created

theorem State.judgedEntry_eq (s : State) (p : Index) (c : Cause) (a : Attribute) (created : Nat) :
    s.judgedEntry p c a created =
      { position := p, cause := c, live := a == .live
        stage := if s.confirmsAtOnce p then .confirmed else .driving, created
        confirmed := if s.confirmsAtOnce p then some created else none, released := none } := by
  rw [State.judgedEntry]
  split <;> rfl

/-- Confirming all standing entries of the position in a record that has just got one confirms that one. -/
theorem TripRecord.addEntry_confirmed {r : TripRecord} {e : Entry} (hp : e.position = p) (hr : e.released = none)
    (h : ∀ e ∈ r.entries, e.position = p → e.released.isSome) (offset : Nat) :
    (r.addEntry e).confirmed p offset = r.addEntry (e.confirmedAt offset) := by
  unfold TripRecord.confirmed TripRecord.addEntry
  by_cases hroom : r.entries.length < 12
  · simp only [hroom, if_true, List.map_append, map_entries_released h, List.map_cons, List.map_nil, hp, hr, and_self]
    rfl
  · simp only [hroom, if_false, map_entries_released h]
    rfl

/-! ### The records after a creation (R143, R144) -/

/-- The state after a creation: the new order judged, and its entry with it. -/
theorem State.createOrder_written (hn : s.orderAt p = none) (hm : 0 < (s.positionSet p).minPulse) :
    s.createOrder p c a = { s.orderRecorded p c a with
      orders := s.orders ++
        [{ s.newOrder p c a with stage := if s.confirmsAtOnce p then .confirmed else .driving }]
      records := if s.confirmsAtOnce p then ((s.orderRecorded p c a).confirmAt p).records
        else (s.orderRecorded p c a).records } := by
  rw [State.createOrder_judged hn hm]
  cases s.confirmsAtOnce p with
  | true =>
    simp only [if_true]
    rw [← State.orderRecorded_confirmAt_orders hn, State.confirmAt_eq]
  | false =>
    have horders : s.orders ++ [{ s.newOrder p c a with stage := .driving }] = (s.orderRecorded p c a).orders :=
      (s.orderRecorded_orders p c a).symm
    simp only [Bool.false_eq_true, if_false, horders]

/-- While orders stand, a creation gets its entry in the OPEN record. -/
theorem State.orderRecorded_of_orders (h : s.orders ≠ []) :
    s.orderRecorded p c a = { s.placeOrder p c a with
      records := s.records.map fun r =>
        if r.state ≠ .opened then r else r.addEntry (newEntry (s.newOrder p c a) c s.offset) } := by
  have hoffset : (s.placeOrder p c a).offset = s.offset := by rw [s.placeOrder_eq p c a]; rfl
  rw [State.orderRecorded, State.recordCreation, if_neg (by simpa using h), State.mapOpen, hoffset, s.placeOrder_records]
  simp only [beq_iff_eq, ne_eq, ite_not]

/-- Into an empty list, a creation opens a record. -/
theorem State.orderRecorded_of_noOrder (h : s.orders = []) :
    s.orderRecorded p c a = (s.placeOrder p c a).openRecord (s.newOrder p c a) c := by
  rw [State.orderRecorded, State.recordCreation, if_pos (by simpa using h)]

/-- While orders stand, the creation's entry stands judged in the OPEN record (R144). -/
theorem State.createOrder_records_of_orders (hn : s.orderAt p = none) (hm : 0 < (s.positionSet p).minPulse)
    (hreleased : ∀ r ∈ s.records, r.state = .opened → ∀ e ∈ r.entries, e.position = p → e.released.isSome)
    (h : s.orders ≠ []) :
    (s.createOrder p c a).records = s.records.map fun r =>
      if r.state ≠ .opened then r else r.addEntry (s.judgedEntry p c a s.offset) := by
  have hoffset : (s.orderRecorded p c a).offset = s.offset := by
    rw [State.orderRecorded_of_orders h, s.placeOrder_eq p c a]
    rfl
  rw [State.createOrder_written hn hm]
  dsimp only
  unfold State.judgedEntry
  cases s.confirmsAtOnce p with
  | false => simp only [Bool.false_eq_true, if_false, State.orderRecorded_of_orders h]
  | true =>
    simp only [if_true]
    rw [State.confirmAt_records, hoffset, State.orderRecorded_of_orders h, List.map_map]
    refine List.map_congr_left fun r hr => ?_
    by_cases hopen : r.state = .opened
    · have hadded : (r.addEntry (newEntry (s.newOrder p c a) c s.offset)).state = .opened := hopen
      simp only [Function.comp, hopen, hadded, ne_eq, not_true_eq_false, if_false]
      exact TripRecord.addEntry_confirmed rfl rfl (hreleased r hr hopen) s.offset
    · simp [hopen]

/-- The record that a creation opens holds its entry judged, at offset 0; the older ones stay (R143). -/
theorem State.createOrder_records_of_noOrder (hn : s.orderAt p = none) (hm : 0 < (s.positionSet p).minPulse)
    (h : s.orders = []) (hnone : ∀ r ∈ s.records, r.state ≠ .opened) :
    (s.createOrder p c a).records =
      s.makeRoom.records ++ [{ s.openedRecord (s.newOrder p c a) c with entries := [s.judgedEntry p c a 0] }] := by
  have hrecorded : (s.orderRecorded p c a).records = s.makeRoom.records ++ [s.openedRecord (s.newOrder p c a) c] := by
    rw [State.orderRecorded_of_noOrder h, s.placeOrder_eq p c a, State.openRecord, State.makeRoom, State.makeRoom]
    dsimp only
    split <;> rfl
  have hoffset : (s.orderRecorded p c a).offset = 0 := by
    rw [State.orderRecorded_of_noOrder h, s.placeOrder_eq p c a, State.openRecord, State.makeRoom, State.offset]
    dsimp only
    split <;> simp [saturate]
  have hold : ∀ r ∈ s.makeRoom.records, r.state ≠ .opened := fun r hr => by
    unfold State.makeRoom at hr
    split at hr
    · exact hnone r hr
    · exact hnone r (List.mem_of_mem_drop hr)
  rw [State.createOrder_written hn hm]
  dsimp only
  unfold State.judgedEntry
  cases s.confirmsAtOnce p with
  | false =>
    simp only [Bool.false_eq_true, if_false, hrecorded]
    rfl
  | true =>
    simp only [if_true]
    rw [State.confirmAt_records, hoffset, hrecorded, List.map_append]
    congr 1
    · exact (List.map_congr_left fun r hr => if_pos (hold r hr)).trans s.makeRoom.records.map_id
    · simp [State.openedRecord, TripRecord.confirmed, newEntry, State.newOrder]

/-! ### What a creation leaves and takes (R103) -/

theorem State.requestOrder_of_none (hn : s.orderAt p = none) (c : Cause) (a : Attribute) :
    s.requestOrder p c a = s.createOrder p c a := by
  rw [State.requestOrder, hn]

/-- While orders stand, a creation opens no record. -/
theorem State.createOrder_of_orders (hn : s.orderAt p = none) (hm : 0 < (s.positionSet p).minPulse) (h : s.orders ≠ []) :
    s.createOrder p c a = { s.placeOrder p c a with
      orders := (s.createOrder p c a).orders, records := (s.createOrder p c a).records } := by
  rw [State.createOrder_written hn hm, State.orderRecorded_of_orders h]

/-- A record opens without a word to the outputs, the lockouts and the notices. -/
theorem State.openRecord_fields (s : State) (o : Order) (c : Cause) :
    (s.openRecord o c).outputs = s.outputs ∧ (s.openRecord o c).lockout = s.lockout ∧
      (s.openRecord o c).store.waitLockout = s.store.waitLockout ∧ (s.openRecord o c).notices = s.notices := by
  rw [State.openRecord, State.makeRoom]
  dsimp only
  split <;> exact ⟨rfl, rfl, rfl, rfl⟩

theorem State.createOrder_fields (hn : s.orderAt p = none) (hm : 0 < (s.positionSet p).minPulse) :
    (s.createOrder p c a).outputs = (s.placeOrder p c a).outputs ∧
      (s.createOrder p c a).lockout = (s.placeOrder p c a).lockout ∧
      (s.createOrder p c a).store.waitLockout = (s.placeOrder p c a).store.waitLockout ∧
      (s.createOrder p c a).notices = (s.placeOrder p c a).notices := by
  by_cases h : s.orders = []
  · rw [State.createOrder_written hn hm, State.orderRecorded_of_noOrder h]
    exact State.openRecord_fields (s.placeOrder p c a) (s.newOrder p c a) c
  · rw [State.createOrder_of_orders hn hm h]
    exact ⟨rfl, rfl, rfl, rfl⟩

/-- A number of a list reads the changed element in the changed list, whatever either reads beyond it. -/
theorem item_map_of_mem {α β : Type} (f : α → β) {l : List α} (d : α) (e : β) {k n : Nat} (hl : l.length = k)
    (h : n ∈ upTo k) : item (l.map f) e n = f (item l d n) := by
  obtain ⟨h1, h2⟩ := mem_upTo.mp h
  obtain ⟨j, rfl⟩ : ∃ j, n = j + 1 := ⟨n - 1, by omega⟩
  have hj : j < l.length := by omega
  simp [item, hj]

/-- Every point's peak starts at the largest of its magnitudes with the record that opens (R50). -/
theorem State.openRecord_peak (s : State) (o : Order) (c : Cause) (h : s.current.points.length = 4) {m : Index}
    (hm : m ∈ upTo 4) : ((s.openRecord o c).point m).peak = some ((s.point m).magnitudes.foldl max 0) := by
  have hpoints : (s.openRecord o c).current.points =
      s.current.points.map fun q => { q with peak := some q.largest } := by
    rw [State.openRecord, State.makeRoom]
    dsimp only
    split <;> rfl
  rw [State.point, hpoints, item_map_of_mem _ .fresh _ h hm]
  rfl

/-- The oldest of a list, where it is one looked for. -/
theorem head?_filter_eq {α : Type} (l : List α) (f : α → Bool) : l.head?.filter f = (l.take 1).find? f := by
  cases l with
  | nil => rfl
  | cons x xs => cases hf : f x <;> simp [Option.filter, hf]

/-- Settles O33: a creation's fields by its judgement, its records by whether orders stood before. -/
theorem requestCreatesAnOrder : Obligations.RequestCreatesAnOrder := by
  unfold Obligations.RequestCreatesAnOrder
  intro s p c a _ hn hm hreleased
  dsimp only
  have honce : (!s.unsupervised p && s.cleared p) = s.confirmsAtOnce p := rfl
  rw [honce]
  have hentry (created : Nat) := s.judgedEntry_eq p c a created
  obtain ⟨houtputs, hlockout, hwait, hnotices⟩ := State.createOrder_fields (c := c) (a := a) hn hm
  have hcreated := State.createOrder_written (c := c) (a := a) hn hm
  have hzones := s.requestOrder_zones p c a
  have hapart := s.requestOrder_apart p c a
  rw [State.requestOrder_of_none hn] at hzones hapart ⊢
  refine ⟨?_, ?_, ?_, ?_, ?_, hzones, hapart, fun h => ⟨?_, ?_, ?_⟩, fun h hnone => ⟨?_, ?_, fun m hm4 hlen => ?_, ?_⟩⟩
  · rw [hcreated]
    rfl
  · rw [houtputs, s.placeOrder_eq p c a]
  · rw [hlockout, s.placeOrder_eq p c a]
  · rw [hwait, s.placeOrder_eq p c a]
  · rw [hnotices, s.placeOrder_eq p c a]
  · rw [State.createOrder_of_orders hn hm h, s.placeOrder_eq p c a]
  · rw [State.createOrder_of_orders hn hm h, s.placeOrder_eq p c a]
  · rw [State.createOrder_records_of_orders hn hm hreleased h]
    refine List.map_congr_left fun r _ => ?_
    by_cases hopen : r.state = .opened
    · rw [if_neg (not_not_intro hopen), if_neg (not_not_intro hopen), hentry, TripRecord.addEntry]
      by_cases hroom : r.entries.length < 12
      · simp only [hroom, if_true, beq_iff_eq]
        rfl
      · simp only [hroom, if_false, beq_iff_eq]
        rfl
    · rw [if_pos hopen, if_pos hopen]
  · rw [hcreated, State.orderRecorded_of_noOrder h, s.placeOrder_eq p c a, State.openRecord, State.makeRoom]
    dsimp only
    split <;> rfl
  · rw [hcreated, State.orderRecorded_of_noOrder h, s.placeOrder_eq p c a, State.openRecord, State.makeRoom]
    dsimp only
    split <;> rfl
  · rw [State.point, hcreated, State.orderRecorded_of_noOrder h]
    have hplaced : (s.placeOrder p c a).current = s.current := by rw [s.placeOrder_eq p c a]
    have hpeak := (s.placeOrder p c a).openRecord_peak (s.newOrder p c a) c (by rw [hplaced]; exact hlen) hm4
    rwa [State.point, State.point, hplaced] at hpeak
  · rw [State.createOrder_records_of_noOrder hn hm h hnone, hentry, State.makeRoom]
    have hfull : (!decide (s.records.length < 16)) = decide (16 ≤ s.records.length) := by
      rw [← decide_not, decide_eq_decide, Nat.not_lt]
    congr 1
    · split <;> rfl
    · rw [State.openedRecord, hfull, head?_filter_eq]
      rfl

end Sys2Proof.Machine
end

section
/-! A request for a position that holds an order: the merge and the upgrade (R104, R105, R107, R144). -/

namespace Sys2Proof.Machine

open Wire

variable {s t : State} {p : Index} {o : Order} {c : Cause} {a : Attribute}

/-! ### The cause joined (R104) -/

theorem State.requestOrder_of_some (ho : s.orderAt p = some o) :
    s.requestOrder p c a =
      if o.attr = .dry ∧ a = .live then (s.mapOrder p fun q => q.addCause c).upgradeOrder p
      else s.mapOrder p fun q => q.addCause c := by
  rw [State.requestOrder, ho]
  simp only [Bool.and_eq_true, beq_iff_eq]

/-- The order at a position with a cause joined. -/
theorem State.orderAt_joined (ho : s.orderAt p = some o) (c : Cause) :
    (s.mapOrder p fun q => q.addCause c).orderAt p = some (o.addCause c) :=
  (State.orderAt_mapOrder (f := fun q => q.addCause c) fun _ => rfl).trans
    (by rw [ho, Option.map_some, if_pos (State.mem_of_orderAt ho).2])

/-- With one order for each position, what changes the order of one puts one order in its place. -/
theorem State.oneOrderEach.map_eq (h : s.oneOrderEach) (ho : o ∈ s.orders) (f : Order → Order) :
    (s.orders.map fun q => if q.position = o.position then f q else q) =
      s.orders.map fun q => if q.position = o.position then f o else q :=
  List.map_congr_left fun q hq => by
    by_cases hp : q.position = o.position
    · rw [h.eq ho hq hp]
    · rw [if_neg hp, if_neg hp]

/-! ### The upgrade (R105) -/

/-- An entry LIVE and driving again, and confirmed at once where the evidence is there (R105, R107, R144). -/
def Entry.upgraded (e : Entry) (once : Bool) (offset : Nat) : Entry :=
  { e with
    live := true, stage := if once then .confirmed else .driving, confirmed := if once then some offset else none }

/-- The order upgraded and recorded, before its judgement. -/
def State.upgradeRecorded (s : State) (p : Index) : State := (s.liveAgain p).recordUpgrade p

theorem State.liveAgain_eq (s : State) (p : Index) :
    s.liveAgain p = { s with
      orders := s.orders.map fun q => if q.position = p then s.upgraded p q else q
      outputs := withMember 8 s.outputs p
      lockout := if p ∈ s.lockout then s.lockout else withMember 8 s.lockout p
      store := { s.store with waitLockout := s.store.waitLockout || !s.lockout.contains p } } := by
  rw [State.liveAgain, State.energised_eq, State.mapOrder_eq]

theorem State.upgradeRecorded_eq (s : State) (p : Index) :
    s.upgradeRecorded p = { s.liveAgain p with
      records := s.records.map fun r =>
        if r.state ≠ .opened then r
        else { r with
          kind := .live
          entries := r.entries.map fun e =>
            if e.position = p ∧ e.released = none then { e with live := true, stage := .driving, confirmed := none }
            else e } } := by
  have hmap : (s.records.map fun r : TripRecord =>
      if r.state ≠ .opened then r
      else { r with
        entries := r.entries.map fun e =>
          if e.position = p ∧ e.released = none then { e with live := true, stage := .driving, confirmed := none }
          else e }).map (fun r : TripRecord => if r.state == .opened then { r with kind := .live } else r) =
      s.records.map fun r =>
        if r.state ≠ .opened then r
        else { r with
          kind := .live
          entries := r.entries.map fun e =>
            if e.position = p ∧ e.released = none then { e with live := true, stage := .driving, confirmed := none }
            else e } := by
    rw [List.map_map]
    refine List.map_congr_left fun r _ => ?_
    by_cases hopen : r.state = .opened <;> simp [hopen]
  rw [State.upgradeRecorded, State.recordUpgrade, State.mapEntry_eq, s.liveAgain_records p, State.mapOpen, hmap]

/-- What the judgement makes of an order just upgraded (R105, R107, R109). -/
def State.upgradeJudged (s : State) (p : Index) (o : Order) : Order :=
  { s.upgraded p o with
    stage := if s.confirmsAtOnce p then .confirmed else .driving, supervised := !s.unsupervised p }

/-- An upgrade and its judgement: the order, its output, its lockout and its entry (R105, R107). -/
theorem State.upgradeOrder_written (ho : s.orderAt p = some o) (hm : 0 < (s.positionSet p).minPulse) :
    s.upgradeOrder p = { s.liveAgain p with
      orders := s.orders.map fun q => if q.position = p then s.upgradeJudged p q else q
      records := s.records.map fun r =>
        if r.state ≠ .opened then r
        else { r with
          kind := .live
          entries := r.entries.map fun e =>
            if e.position = p ∧ e.released = none then e.upgraded (s.confirmsAtOnce p) s.offset else e } } := by
  have hapart : (s.upgradeRecorded p).apart = s.apart := by
    rw [State.upgradeRecorded_eq]
    exact s.liveAgain_apart p
  have horders : (s.upgradeRecorded p).orders = (s.mapOrder p (s.upgraded p)).orders := by
    rw [State.upgradeRecorded_eq]
    exact s.liveAgain_orders p
  have hat : (s.upgradeRecorded p).orderAt p = some (s.upgraded p o) := by
    rw [State.orderAt, horders]
    exact (State.orderAt_mapOrder (f := s.upgraded p) fun _ => rfl).trans
      (by rw [ho, Option.map_some, if_pos (State.mem_of_orderAt ho).2])
  have hpulse : (s.upgradeRecorded p).pulseRun (s.upgraded p o) = false := by
    refine State.pulseRun_now (p := p) ?_ (State.mem_of_orderAt ho).2 (State.clock_of_apart hapart).symm
    rwa [State.positionSet, State.settings_of_apart hapart]
  have hun := (SameEvidence.of_apart hapart p).1
  have hoffset : min 65535 (((s.upgradeRecorded p).clock - (s.upgradeRecorded p).incidentStart) / 1200) = s.offset := by
    rw [State.upgradeRecorded_eq, State.liveAgain_eq]
    rfl
  rw [State.mapOrder_eq] at horders
  have hjudged (f : Order → Order) :
      (s.orders.map fun q => if q.position = p then s.upgraded p q else q).map (fun q => if q.position = p then f q else q) =
        s.orders.map fun q => if q.position = p then f (s.upgraded p q) else q := by
    rw [List.map_map]
    refine List.map_congr_left fun q _ => ?_
    by_cases hq : q.position = p <;> simp [hq, State.upgraded]
  rw [s.upgradeOrder_eq]
  show (s.upgradeRecorded p).judgeOrder p = _
  rw [State.judgeOrder_driving hat rfl hpulse, State.confirmsAtOnce_of_apart hapart, State.followPosition_confirmAt_eq,
    State.followPosition_eq, hun, hoffset, horders, hjudged, hjudged, State.upgradeRecorded_eq]
  unfold State.upgradeJudged Entry.upgraded
  cases s.confirmsAtOnce p with
  | true =>
    simp only [if_true, List.map_map]
    congr 1
    refine List.map_congr_left fun r _ => ?_
    by_cases hopen : r.state = .opened
    · simp only [Function.comp, hopen, ne_eq, not_true_eq_false, if_false, List.map_map]
      congr 1
      refine List.map_congr_left fun e _ => ?_
      by_cases hstands : e.position = p ∧ e.released = none <;> simp [hstands, State.offset, saturate]
    · simp [hopen]
  | false =>
    simp only [Bool.false_eq_true, if_false]
    rfl

/-- Settles O34: by the attributes that meet, a merge alone or an upgrade after it. -/
theorem requestMergesOrUpgrades : Obligations.RequestMergesOrUpgrades := by
  unfold Obligations.RequestMergesOrUpgrades
  intro s c a hone o ho h8 hm
  have hat := hone.orderAt ho
  have hadd : s.mapOrder o.position (fun q => q.addCause c) = { s with
      orders := s.orders.map fun q => if q.position = o.position then o.addCause c else q } := by
    rw [s.mapOrder_eq, hone.map_eq ho]
  have hreq := State.requestOrder_of_some (c := c) (a := a) hat
  refine ⟨fun hno => ?_, fun hdry hlive => ?_⟩
  · rw [hreq, if_neg hno, hadd]
    rfl
  · have hzones := s.requestOrder_zones o.position c a
    have hapart := s.requestOrder_apart o.position c a
    have hwritten := State.upgradeOrder_written (State.orderAt_joined hat c) hm
    rw [State.liveAgain_eq, State.mapOrder_eq] at hwritten
    rw [hreq, if_pos ⟨hdry, hlive⟩, State.mapOrder_eq, hwritten] at hzones hapart ⊢
    refine ⟨?_, rfl, rfl, rfl, hzones, hapart, rfl⟩
    show (s.orders.map _).map _ = _
    rw [List.map_map]
    refine List.map_congr_left fun q hq => ?_
    by_cases hp : q.position = o.position
    · obtain rfl := hone.eq ho hq hp
      have hadded : (q.addCause c).position = q.position := rfl
      simp only [Function.comp, if_true, hadded]
      rfl
    · simp [hp]

end Sys2Proof.Machine
end

section
/-! The lockouts and their resets by pushbutton and by request (R121, R122, R123). -/

namespace Sys2Proof.Machine

open Wire

variable {s t : State} {p : Index} {kind : Nat}

/-- Whatever the owning block makes of a request it does not act on, the answer carries its result and its body. -/
theorem compose_beginHandling (r : Result) (body : List Byte) :
    ({ state := s.beginHandling, result := r, body } : Handled).compose kind = s.answered kind (byte r.code :: body) := by
  simp only [Handled.compose, State.beginHandling, State.countHandled, State.countPort, State.moveDeadline, State.mapPort,
    State.answered, bump, Config.testSpan]

/-- Whether a position's lockout can be reset: the position exists and holds no order (R121). -/
def State.lockoutFree (s : State) (p : Index) : Bool := (upTo 8).contains p && s.orders.all fun o => o.position != p

theorem State.freePositions_contains (s : State) (p : Index) : s.freePositions.contains p = s.lockoutFree p := by
  rw [State.lockoutFree, ← State.orderAt_isNone, Bool.eq_iff_iff]
  simp [State.freePositions]

/-- The positions of a set without an order. -/
theorem State.lockoutFree_filter {set : List Index} (hset : ∀ q ∈ set, q ∈ upTo 8) (p : Index) :
    (set.filter fun q => (s.orderAt q).isNone).contains p = (set.contains p && s.lockoutFree p) := by
  rw [State.lockoutFree, ← State.orderAt_isNone, Bool.eq_iff_iff]
  simp only [List.contains_iff_mem, List.mem_filter, Bool.and_eq_true]
  exact ⟨fun h => ⟨h.1, hset p h.1, h.2⟩, fun h => ⟨h.1, h.2.2⟩⟩

/-- The lockouts of a set gone, and the LOCKOUT write queued where one stood (R121). -/
def State.withoutLockouts (s : State) (gone : Index → Bool) : State :=
  { s with
    lockout := s.lockout.filter fun p => !gone p
    store := { s.store with waitLockout := s.store.waitLockout || s.lockout.any gone } }

theorem State.clearLockouts_contains {ps : List Index} {gone : Index → Bool} (h : ∀ p, ps.contains p = gone p) :
    s.clearLockouts ps = s.withoutLockouts gone := by
  rw [s.clearLockouts_eq, State.withoutLockouts, funext h]

/-- With no press due the command does nothing (R123). -/
theorem exec_lockoutResetPress_none (hp : s.powered = true) (h : s.button.due true = none) :
    exec .lockoutResetPress s = .next (settle s s) := by
  show execLockoutResetPress s = _
  unfold execLockoutResetPress
  rw [conclude_powered s _ hp]
  simp only [h]

/-- The press taken, at the end of its debounce (R123). -/
def State.pressTaken (s : State) (d : Instant) : State := { s.advanceTo d with button := s.button.take }

theorem State.clearLockouts_freePositions (s : State) : s.clearLockouts s.freePositions = s.withoutLockouts s.lockoutFree :=
  State.clearLockouts_contains s.freePositions_contains

/-- A press that is due is taken, and disregarded in STARTING (R123). -/
theorem exec_lockoutResetPress_some {d : Instant} (hp : s.powered = true) (h : s.button.due true = some d) :
    exec .lockoutResetPress s = .next (settle s
      (if s.control.state = .starting then s.pressTaken d else (s.pressTaken d).withoutLockouts s.lockoutFree)) := by
  have hcontrol : (s.pressTaken d).control = s.control := s.advanceTo_control d
  have hfree : (s.pressTaken d).lockoutFree = s.lockoutFree :=
    funext fun p => congrArg (fun l : List Order => (upTo 8).contains p && l.all fun o => o.position != p)
      (s.advanceTo_orders d)
  show execLockoutResetPress s = _
  unfold execLockoutResetPress
  rw [conclude_powered s _ hp]
  simp only [h]
  show Host.Outcome.next (settle s (if (s.pressTaken d).control.state == .starting then s.pressTaken d
    else (s.pressTaken d).clearLockouts (s.pressTaken d).freePositions)) = _
  rw [State.clearLockouts_freePositions, hfree, hcontrol]
  simp only [beq_iff_eq]

theorem exec_resetLockout {x : Byte} (h : s.ready) (hs : s.control.state ≠ .starting) :
    exec (.resetLockout [x]) s = .next (settle s ((s.beginHandling.resetLockout (membersOf 8 x.toNat)).compose 24)) :=
  conclude_request h (judgeBody_none (fs := [.plain 1]) rfl hs rfl rfl)

/-- RESET_LOCKOUT's answer: what is refused, what is left, and the rest of the named cleared (R122). -/
theorem State.resetLockout_compose (s : State) {set : List Index} (hset : ∀ q ∈ set, q ∈ upTo 8) :
    (s.beginHandling.resetLockout set).compose 24 =
      (s.answered 24 ((if set.filter (fun p => s.orders.any fun o => o.position == p) = [] then 0 else 11) ::
        [byte (bitmap 8 (set.filter fun p => s.orders.any fun o => o.position == p)),
          byte (bitmap 8 (s.lockout.filter fun p => !(set.contains p && s.lockoutFree p)))])).withoutLockouts
        fun p => set.contains p && s.lockoutFree p := by
  have hrefused : (set.filter fun p => (s.beginHandling.orderAt p).isSome) =
      set.filter fun p => s.orders.any fun o => o.position == p :=
    List.filter_congr fun p _ => State.orderAt_isSome
  have hcleared : s.beginHandling.clearLockouts (set.filter fun p => (s.beginHandling.orderAt p).isNone) =
      s.beginHandling.withoutLockouts fun p => set.contains p && s.lockoutFree p :=
    State.clearLockouts_contains fun p => State.lockoutFree_filter (s := s.beginHandling) hset p
  rw [State.resetLockout, hrefused, hcleared]
  have hcode (l : List Index) :
      byte (if l.isEmpty then Result.accepted else .orderPresent).code = if l = [] then 0 else 11 := by
    cases l <;> rfl
  have hcomposed := congrArg (fun u : State => u.withoutLockouts fun p => set.contains p && s.lockoutFree p)
    (compose_beginHandling (s := s) (kind := 24)
      (if (set.filter fun p => s.orders.any fun o => o.position == p).isEmpty then .accepted else .orderPresent)
      (set8 (set.filter fun p => s.orders.any fun o => o.position == p) ++
        set8 (s.lockout.filter fun p => !(set.contains p && s.lockoutFree p))))
  rw [hcode] at hcomposed
  exact hcomposed

theorem membersOf_upTo {width n : Nat} : ∀ q ∈ membersOf width n, q ∈ upTo width :=
  fun _ hq => (List.mem_filter.mp hq).1

/-- Settles O38: the press by whether it is due, and the request by the named positions that hold an order. -/
theorem lockoutsReset : Obligations.LockoutsReset := by
  unfold Obligations.LockoutsReset
  intro s x hp
  refine ⟨fun d hd hraw htaken => ?_, fun hno => ?_, fun hready hstate => ?_⟩
  · have hdue : s.button.due true = some d := by simpa [Button.due, hraw, htaken] using hd
    have htake : s.button.take = { raw := true, taken := true, timer := none } := by rw [Button.take, hraw]
    rw [exec_lockoutResetPress_some hp hdue, State.pressTaken, htake]
    rfl
  · have hdue : s.button.due true = none := by
      rw [Button.due]
      split
      · next h =>
        obtain ⟨hraw, htaken⟩ : s.button.raw = true ∧ s.button.taken = false := by simpa using h
        exact Option.not_isSome_iff_eq_none.mp fun htimer => hno ⟨hraw, htaken, htimer⟩
      · rfl
    exact exec_lockoutResetPress_none hp hdue
  · rw [exec_resetLockout hready hstate, s.resetLockout_compose membersOf_upTo]
    rfl

end Sys2Proof.Machine
end

section
/-! TEST_TRIP and CANCEL_ORDER (R116, R118). The reply stands in the port, and the order unit neither reads nor writes the
port: a reply composed after its operation is the operation after the reply. -/

namespace Sys2Proof.Machine

open Wire

variable {s t : State} {p : Index} {o : Order} {kind : Nat}

/-! ### The order unit does not see the port -/

/-- The port replaced. -/
def State.withPort (s : State) (q : Port) : State := { s with port := q }

section

variable (s) (q : Port) (p : Index)

theorem State.withPort_makeRoom : (s.withPort q).makeRoom = s.makeRoom.withPort q := by
  rw [State.makeRoom, State.makeRoom, apply_ite fun u : State => u.withPort q]
  rfl

theorem State.withPort_recordCreation (b : Bool) (o : Order) (c : Cause) :
    (s.withPort q).recordCreation b o c = (s.recordCreation b o c).withPort q := by
  cases b with
  | false => rfl
  | true =>
    show (s.withPort q).openRecord o c = (s.openRecord o c).withPort q
    rw [State.openRecord, State.withPort_makeRoom]
    rfl

theorem State.withPort_closeRecord : (s.withPort q).closeRecord = s.closeRecord.withPort q := by
  cases hf : s.records.find? fun r => r.state == .opened with
  | none =>
    have hleft : (s.withPort q).closeRecord = s.withPort q := by
      rw [State.closeRecord, show (s.withPort q).records = s.records from rfl, hf]
    have hright : s.closeRecord = s := by rw [State.closeRecord, hf]
    rw [hleft, hright]
  | some r =>
    rw [State.closeRecord_some hf, State.closeRecord_some (s := s.withPort q) hf, apply_ite fun u : State => u.withPort q,
      apply_ite fun u : State => u.withPort q]
    rfl

theorem State.withPort_noteContent (u : State) :
    (s.withPort q).noteContent (u.withPort q) = (s.noteContent u).withPort q := by
  rw [State.noteContent, State.noteContent, apply_ite fun u : State => u.withPort q]
  rfl

theorem State.withPort_release : (s.withPort q).release p = (s.release p).withPort q := by
  rw [State.release_eq, State.release_eq, ← State.withPort_noteContent]
  congr 1
  rw [apply_ite (fun u : State => u.withPort q), ← State.withPort_closeRecord]
  rfl

theorem State.withPort_judgeOrder : (s.withPort q).judgeOrder p = (s.judgeOrder p).withPort q := by
  cases ho : s.orderAt p with
  | none => rw [State.judgeOrder_of_none ho, State.judgeOrder_of_none (s := s.withPort q) ho]
  | some o =>
    rw [State.judgeOrder_of_some ho, State.judgeOrder_of_some (s := s.withPort q) ho]
    have hconfirmed : ((s.withPort q).followPosition p).confirmAt p = ((s.followPosition p).confirmAt p).withPort q := rfl
    rw [hconfirmed, State.withPort_release]
    simp only [apply_ite fun u : State => u.withPort q]
    rfl

theorem State.withPort_requestOrder (c : Cause) (a : Attribute) :
    (s.withPort q).requestOrder p c a = (s.requestOrder p c a).withPort q := by
  cases ho : s.orderAt p with
  | none =>
    have hplaced : (s.withPort q).placeOrder p c a = (s.placeOrder p c a).withPort q := by
      rw [State.placeOrder_eq, State.placeOrder_eq]
      rfl
    rw [State.requestOrder_of_none ho, State.requestOrder_of_none (s := s.withPort q) ho, State.createOrder_eq,
      State.createOrder_eq, hplaced, State.withPort_recordCreation]
    exact State.withPort_judgeOrder _ q p
  | some o =>
    have hagain (u : State) : (u.withPort q).upgradeOrder p = (u.upgradeOrder p).withPort q := by
      rw [State.upgradeOrder_eq, State.upgradeOrder_eq, ← State.withPort_judgeOrder, State.liveAgain_eq, State.liveAgain_eq]
      rfl
    rw [State.requestOrder_of_some ho, State.requestOrder_of_some (s := s.withPort q) ho,
      apply_ite fun u : State => u.withPort q, ← hagain]
    rfl

end

/-! ### An operation of the order unit carried out by a request (R174) -/

/-- The answer to a request that the order unit carries out, and its operation, in either order. -/
theorem accept_compose_of_apart {f : State → State} (hf : KeepsApart f)
    (hport : ∀ (u : State) (q : Port), f (u.withPort q) = (f u).withPort q) :
    (accept (f s.beginHandling) []).compose kind = f (s.answered kind [0]) := by
  have hsettings : (f s.beginHandling).settings = s.beginHandling.settings := State.settings_of_apart (hf _)
  have hkept : (f s.beginHandling).port = s.beginHandling.port :=
    (congrArg (fun u : State => u.port) (hf s.beginHandling) :)
  rw [← accept_compose (s := s) (kind := kind) []]
  show (f s.beginHandling).withPort _ = f (s.beginHandling.withPort _)
  rw [hport]
  unfold accept
  dsimp only
  rw [hkept, hsettings]

theorem exec_testTrip {x : Byte} (h : s.ready) (hs : s.control.state ≠ .starting) :
    exec (.testTrip [x]) s = .next (settle s ((s.beginHandling.testTrip (membersOf 8 x.toNat)).compose 22)) :=
  conclude_request h (judgeBody_none (fs := [.plain 1]) rfl hs rfl rfl)

theorem exec_cancelOrder {x : Byte} (h : s.ready) (hs : s.control.state ≠ .starting) (hx : x.toNat ∈ upTo 8) :
    exec (.cancelOrder [x]) s = .next (settle s ((s.beginHandling.cancelOrder x.toNat).compose 23)) :=
  conclude_request h (judgeBody_index rfl hs hx)

/-! ### TEST_TRIP (R118) -/

theorem State.testTrip_outsideTest {set : List Index} (h : s.control.state ≠ .test) :
    s.testTrip set = refuse s .wrongState := by
  simp [State.testTrip, h]

theorem State.testTrip_several {set : List Index} (h : s.control.state = .test) (hset : set.length ≠ 1) :
    s.testTrip set = refuse s .notExactlyOne := by
  match set, hset with
  | [], _ => simp [State.testTrip, h]
  | _ :: _ :: _, _ => simp [State.testTrip, h]

theorem State.testTrip_one (h : s.control.state = .test) :
    s.testTrip [p] =
      if s.usedPosition p = false then refuse s .badIndex
      else if (s.orderAt p).isSome then refuse s .orderPresent
      else accept (s.requestOrder p ⟨.test, 0⟩ .live) [] := by
  simp [State.testTrip, h]

/-! ### CANCEL_ORDER (R116) -/

theorem State.cancelOrder_notStalled (h : ∀ o ∈ s.orderAt p, o.stage ≠ .stalled) :
    s.cancelOrder p = refuse s .notStalled := by
  cases ho : s.orderAt p with
  | none => simp [State.cancelOrder, ho]
  | some o => simp [State.cancelOrder, ho, h o ho]

theorem State.cancelOrder_stalled (ho : s.orderAt p = some o) (h : o.stage = .stalled) :
    s.cancelOrder p = accept (s.release p) [] := by
  simp [State.cancelOrder, ho, h, State.release]

/-- An index out of range is refused before the order unit sees it (R175). -/
theorem judgeBody_cancelOrder_badIndex {x : Byte} {st : Protection} (hs : st ≠ .starting)
    (hx : ¬ (1 ≤ x.toNat ∧ x.toNat ≤ 8)) : judgeBody st 23 [x] = some .badIndex := by
  have hrefused : (Field.index 8).refusal (at0 [x] 0) = some .badIndex := by simpa [Field.refusal, at0] using hx
  simp [judgeBody, kindFields, bodyLength, Field.width, hs, bodyRefusal, hrefused]

/-- Settles O39: each refusal by the owning block's judgement, each acceptance by the operation after the reply. -/
theorem testTripAndCancelOrder : Obligations.TestTripAndCancelOrder := by
  unfold Obligations.TestTripAndCancelOrder
  intro s x h hs
  refine ⟨fun htest => ?_, fun htest hset => ?_, fun p hp htest hset => ?_, fun hx => ?_, fun hx hno => ?_,
    fun hx o ho hstage => ?_⟩
  · exact answered_of_refused (exec_testTrip h hs) (State.testTrip_outsideTest (s := s.beginHandling) htest) rfl
  · exact answered_of_refused (exec_testTrip h hs) (State.testTrip_several (s := s.beginHandling) htest hset) rfl
  · have hone : membersOf 8 x.toNat = [p] := by
      obtain ⟨q, hq⟩ := List.length_eq_one_iff.mp hset
      rw [hq] at hp ⊢
      rw [List.mem_singleton.mp hp]
    have htrip := exec_testTrip (x := x) h hs
    rw [hone, State.testTrip_one (s := s.beginHandling) htest] at htrip
    refine ⟨fun hused => ?_, fun hused hpresent => ?_, fun hused hnone => ?_⟩
    · rw [if_pos (show s.beginHandling.usedPosition p = false from hused)] at htrip
      exact answered_of_refused htrip rfl rfl
    · rw [if_neg (show ¬ s.beginHandling.usedPosition p = false from (Bool.not_eq_false _).mpr hused),
        if_pos (show (s.beginHandling.orderAt p).isSome from hpresent)] at htrip
      exact answered_of_refused htrip rfl rfl
    · have hnot : ¬ (s.beginHandling.orderAt p).isSome := by
        rw [Option.not_isSome_iff_eq_none]
        exact hnone
      rw [if_neg (show ¬ s.beginHandling.usedPosition p = false from (Bool.not_eq_false _).mpr hused), if_neg hnot] at htrip
      rw [htrip, accept_compose_of_apart (f := fun u => u.requestOrder p ⟨.test, 0⟩ .live)
        (fun u => u.requestOrder_apart p ⟨.test, 0⟩ .live) fun u q => u.withPort_requestOrder q p ⟨.test, 0⟩ .live]
  · show conclude s (fun s => s.request 23 [x] _) = _
    rw [conclude_powered s _ h.1, State.request_refused h (judgeBody_cancelOrder_badIndex hs hx)]
    rfl
  · exact answered_of_refused (exec_cancelOrder h hs hx) (State.cancelOrder_notStalled (s := s.beginHandling) hno) rfl
  · rw [exec_cancelOrder h hs hx, State.cancelOrder_stalled (s := s.beginHandling) ho hstage,
      accept_compose_of_apart (f := fun u => u.release x.toNat) (fun u => u.release_apart x.toNat)
        fun u q => u.withPort_release q x.toNat]

end Sys2Proof.Machine
end

section
/-! What a request does to the orders of its own position and leaves of the others' (R103 to R105), and what a series of
requests for one cause leaves behind (R110). -/

namespace Sys2Proof.Machine

open Wire

variable {s t : State} {p q b : Index} {o : Order} {c : Cause} {a : Attribute}

/-! ### The orders of one position -/

/-- The orders of a position: one, or none (R100). -/
def State.ordersOf (s : State) (q : Index) : List Order := s.orders.filter fun o => o.position == q

theorem State.orderAt_eq_head? (s : State) (q : Index) : s.orderAt q = (s.ordersOf q).head? :=
  List.head?_filter.symm

theorem State.mem_ordersOf : o ∈ s.ordersOf q ↔ o ∈ s.orders ∧ o.position = q := by
  simp [State.ordersOf]

theorem State.ordersOf_of_orders (h : t.orders = s.orders) (q : Index) : t.ordersOf q = s.ordersOf q := by
  rw [State.ordersOf, State.ordersOf, h]

/-- An operation that leaves the orders of the other positions as they are. -/
def LeavesOthers (p : Index) (s t : State) : Prop := ∀ q, q ≠ p → t.ordersOf q = s.ordersOf q

namespace LeavesOthers

theorem of_orders (h : t.orders = s.orders) : LeavesOthers p s t := fun q _ => State.ordersOf_of_orders h q

theorem trans {u : State} (h : LeavesOthers p s t) (h' : LeavesOthers p t u) : LeavesOthers p s u :=
  fun q hq => (h' q hq).trans (h q hq)

theorem ite {k : Prop} [Decidable k] {u : State} (ht : LeavesOthers p s t) (hu : LeavesOthers p s u) :
    LeavesOthers p s (if k then t else u) := by
  split
  · exact ht
  · exact hu

theorem mapOrder {f : Order → Order} (hf : ∀ o, (f o).position = o.position) : LeavesOthers p s (s.mapOrder p f) := by
  intro q hq
  rw [State.ordersOf, State.mapOrder_eq, List.filter_map]
  have htest : ((fun o : Order => o.position == q) ∘ fun o => if o.position = p then f o else o) =
      fun o => o.position == q := by
    funext o
    by_cases hp : o.position = p <;> simp [hp, hf]
  rw [htest]
  refine (List.map_congr_left fun o ho => if_neg ?_).trans (List.map_id _)
  rw [eq_of_beq (List.mem_filter.mp ho).2]
  exact hq

theorem release : LeavesOthers p s (s.release p) := by
  intro q hq
  rw [State.ordersOf, State.release, s.depart_orders p (recordRelease_changesEntries p).orders, List.filter_filter]
  refine List.filter_congr fun o _ => ?_
  by_cases ho : o.position = q <;> simp [ho, hq]

theorem placeOrder : LeavesOthers p s (s.placeOrder p c a) := by
  intro q hq
  rw [State.ordersOf, State.placeOrder_orders, List.filter_append]
  simp [State.newOrder, Ne.symm hq, State.ordersOf]

theorem judgeOrder : LeavesOthers p s (s.judgeOrder p) := by
  have hfollow : LeavesOthers p s (s.followPosition p) := mapOrder fun _ => rfl
  have hconfirm : LeavesOthers p s ((s.followPosition p).confirmAt p) :=
    hfollow.trans (mapOrder (f := fun q => { q with stage := .confirmed }) fun _ => rfl)
  cases ho : s.orderAt p with
  | none =>
    rw [State.judgeOrder_of_none ho]
    exact of_orders rfl
  | some o =>
    rw [State.judgeOrder_of_some ho]
    exact ite hfollow (ite (ite (hconfirm.trans release) hfollow) (ite (ite (hconfirm.trans release) hconfirm) hfollow))

theorem requestOrder : LeavesOthers p s (s.requestOrder p c a) := by
  cases ho : s.orderAt p with
  | none =>
    rw [State.requestOrder_of_none ho, State.createOrder_eq]
    exact (placeOrder.trans (of_orders (State.recordCreation_orders _ _ _ _))).trans judgeOrder
  | some o =>
    have hjoined : LeavesOthers p s (s.mapOrder p fun q => q.addCause c) := mapOrder fun _ => rfl
    rw [State.requestOrder_of_some ho, State.upgradeOrder_eq]
    refine ite ((hjoined.trans ?_).trans judgeOrder) hjoined
    exact (mapOrder (f := State.upgraded _ p) fun _ => rfl).trans (of_orders (State.liveAgain_orders _ p))

end LeavesOthers

/-! ### A lockout set stays (R121) -/

theorem State.judgeOrder_lockout (s : State) (p : Index) : (s.judgeOrder p).lockout = s.lockout := by
  have hreleased : (((s.followPosition p).confirmAt p).release p).lockout = s.lockout :=
    State.depart_lockout _ p (recordRelease_changesEntries p)
  cases ho : s.orderAt p with
  | none => rw [State.judgeOrder_of_none ho]
  | some o =>
    rw [State.judgeOrder_of_some ho]
    simp only [apply_ite State.lockout, hreleased]
    simp only [State.followPosition, State.confirmAt, State.recordConfirmation, State.mapOrder, State.mapEntry,
      State.mapOpen, ite_self]

/-- A created order's lockout, whatever its judgement makes of it. -/
theorem State.createOrder_lockout (s : State) (p : Index) (c : Cause) (a : Attribute) :
    (s.createOrder p c a).lockout = if a = .live ∧ p ∉ s.lockout then withMember 8 s.lockout p else s.lockout := by
  rw [State.createOrder_eq, State.judgeOrder_lockout, State.recordCreation_lockout, State.placeOrder_eq]

theorem State.upgradeOrder_lockout (s : State) (p : Index) :
    (s.upgradeOrder p).lockout = if p ∈ s.lockout then s.lockout else withMember 8 s.lockout p := by
  rw [State.upgradeOrder_eq, State.judgeOrder_lockout]
  show (s.liveAgain p).lockout = _
  rw [State.liveAgain_eq]

/-- A request sets its position's lockout, or none. -/
theorem State.requestOrder_lockout_cases (s : State) (p : Index) (c : Cause) (a : Attribute) :
    (s.requestOrder p c a).lockout = s.lockout ∨ (s.requestOrder p c a).lockout = withMember 8 s.lockout p := by
  cases ho : s.orderAt p with
  | none =>
    rw [State.requestOrder_of_none ho, State.createOrder_lockout]
    split
    · exact .inr rfl
    · exact .inl rfl
  | some o =>
    rw [State.requestOrder_of_some ho]
    split
    · rw [State.upgradeOrder_lockout]
      split
      · exact .inl rfl
      · exact .inr rfl
    · exact .inl rfl

theorem State.requestOrder_lockout (h8 : b ∈ upTo 8) (hb : b ∈ s.lockout) (p : Index) (c : Cause) (a : Attribute) :
    b ∈ (s.requestOrder p c a).lockout := by
  rcases s.requestOrder_lockout_cases p c a with h | h <;> rw [h]
  · exact hb
  · exact mem_withMember.mpr ⟨h8, .inr hb⟩

/-! ### What a request leaves at its own position -/

/-- An order stands for the position with the cause, kept or counted, and LIVE if that was asked (R103 to R105). -/
def State.askedAt (s : State) (b : Index) (c : Cause) (a : Attribute) : Prop :=
  ∃ o ∈ s.orders, o.position = b ∧ (c ∈ o.causes ∨ (4 ≤ o.causes.length ∧ 0 < o.further)) ∧ (a = .live → o.attr = .live)

/-- A LIVE order of the position has its lockout set (R121). -/
def State.lockedAt (s : State) (b : Index) : Prop := ∀ o ∈ s.orders, o.position = b → o.attr = .live → b ∈ s.lockout

theorem Order.addCause_carries (o : Order) (c : Cause) :
    c ∈ (o.addCause c).causes ∨ (4 ≤ (o.addCause c).causes.length ∧ 0 < (o.addCause c).further) := by
  unfold Order.addCause
  by_cases hroom : o.causes.length < 4
  · simp [hroom]
  · refine .inr ?_
    simp only [hroom, if_false]
    exact ⟨Nat.not_lt.mp hroom, by simp [bump]⟩

theorem State.requestOrder_askedAt (hm : 0 < (s.positionSet b).minPulse) (c : Cause) (a : Attribute) :
    (s.requestOrder b c a).askedAt b c a := by
  cases ho : s.orderAt b with
  | none =>
    rw [State.requestOrder_of_none ho, State.createOrder_written ho hm]
    exact ⟨_, List.mem_append_right _ (List.mem_singleton_self _), rfl, .inl (List.mem_singleton_self c), id⟩
  | some o =>
    have hjoined := State.orderAt_joined ho c
    obtain ⟨hmem, hpos⟩ := State.mem_of_orderAt hjoined
    rw [State.requestOrder_of_some ho]
    split
    · rw [State.upgradeOrder_written hjoined hm]
      exact ⟨_, List.mem_map.mpr ⟨_, hmem, if_pos hpos⟩, hpos, o.addCause_carries c, fun _ => rfl⟩
    · next hno =>
      refine ⟨_, hmem, hpos, o.addCause_carries c, fun ha => ?_⟩
      cases hattr : o.attr with
      | dry => exact absurd ⟨hattr, ha⟩ hno
      | live => exact hattr

/-- The orders of a position and its lockout alone bear on whether it is locked. -/
theorem State.lockedAt.of_other (h : s.lockedAt b) (hl : b ∈ s.lockout → b ∈ t.lockout) (ho : t.ordersOf b = s.ordersOf b) :
    t.lockedAt b := fun o hmem hpos hlive => by
  have hold : o ∈ s.ordersOf b := ho ▸ State.mem_ordersOf.mpr ⟨hmem, hpos⟩
  exact hl (h o (State.mem_ordersOf.mp hold).1 hpos hlive)

theorem State.requestOrder_lockedAt (h8 : b ∈ upTo 8) (hm : 0 < (s.positionSet b).minPulse) (h : s.lockedAt b)
    (p : Index) (c : Cause) (a : Attribute) : (s.requestOrder p c a).lockedAt b := by
  have hkept (hb : b ∈ s.lockout) := State.requestOrder_lockout h8 hb p c a
  by_cases hp : b = p
  · subst hp
    cases ho : s.orderAt b with
    | none =>
      rw [State.requestOrder_of_none ho]
      intro o hmem hpos hlive
      rw [State.createOrder_lockout]
      split
      · exact mem_withMember.mpr ⟨h8, .inl rfl⟩
      · next hno =>
        rw [State.createOrder_written ho hm] at hmem
        rcases List.mem_append.mp hmem with hold | hnew
        · exact absurd hpos (State.orderAt_eq_none.mp ho o hold)
        · rw [List.mem_singleton.mp hnew] at hlive
          exact not_not.mp fun hb => hno ⟨hlive, hb⟩
    | some o =>
      rw [State.requestOrder_of_some ho]
      split
      · intro _ _ _ _
        rw [State.upgradeOrder_lockout]
        split
        · next hb => exact hb
        · exact mem_withMember.mpr ⟨h8, .inl rfl⟩
      · intro r hmem hpos hlive
        rcases State.mem_mapOrder hmem with ⟨v, hv, hpv, rfl⟩ | ⟨hold, -⟩
        · exact h v hv hpv hlive
        · exact h r hold hpos hlive
  · exact h.of_other hkept (LeavesOthers.requestOrder b hp)

/-! ### A series of requests for one cause (R110) -/

/-- A position other than those of the requests keeps its orders. -/
theorem State.requestAll_ordersOf {ps : List Index} (h : q ∉ ps) (s : State) (c : Cause) (a : Attribute) :
    (s.requestAll ps c a).ordersOf q = s.ordersOf q :=
  List.foldlRecOn (motive := fun t : State => t.ordersOf q = s.ordersOf q) ps _ rfl fun _ ht _ hp =>
    (LeavesOthers.requestOrder q fun he => h (he ▸ hp)).trans ht

theorem State.positionSet_of_apart (h : t.apart = s.apart) (b : Index) : t.positionSet b = s.positionSet b := by
  rw [State.positionSet, State.positionSet, State.settings_of_apart h]

theorem State.requestAll_lockedAt (h8 : b ∈ upTo 8) (hm : 0 < (s.positionSet b).minPulse) (h : s.lockedAt b)
    (ps : List Index) (c : Cause) (a : Attribute) : (s.requestAll ps c a).lockedAt b := by
  induction ps generalizing s with
  | nil => exact h
  | cons p ps ih =>
    have hm' : 0 < ((s.requestOrder p c a).positionSet b).minPulse := by
      rwa [State.positionSet_of_apart (s.requestOrder_apart p c a)]
    exact ih hm' (State.requestOrder_lockedAt h8 hm h p c a)

/-- What a request leaves at its position, the later ones of the series leave too. -/
theorem State.requestAll_askedAt {ps : List Index} (hb : b ∈ ps) (hm : 0 < (s.positionSet b).minPulse) (c : Cause)
    (a : Attribute) : (s.requestAll ps c a).askedAt b c a := by
  have key (ps : List Index) : ∀ s : State, 0 < (s.positionSet b).minPulse → (s.askedAt b c a ∨ b ∈ ps) →
      (s.requestAll ps c a).askedAt b c a := by
    induction ps with
    | nil => exact fun s _ h => h.resolve_right List.not_mem_nil
    | cons p ps ih =>
      intro s hm h
      refine ih (s.requestOrder p c a) ?_ ?_
      · rwa [State.positionSet_of_apart (s.requestOrder_apart p c a)]
      · by_cases hp : b = p
        · exact .inl (hp ▸ State.requestOrder_askedAt (hp ▸ hm) c a)
        · refine h.imp (fun ⟨o, ho, hpos, hrest⟩ => ?_) fun hin => (List.mem_cons.mp hin).resolve_left hp
          have hkept := LeavesOthers.requestOrder (s := s) (c := c) (a := a) b hp
          exact ⟨o, (State.mem_ordersOf.mp (hkept ▸ State.mem_ordersOf.mpr ⟨ho, hpos⟩)).1, hpos, hrest⟩
  exact key ps s hm (.inr hb)

end Sys2Proof.Machine
end

section
/-! Breaker failure: the deadline of a driving order, the backups it asks and the flags it raises (R110 to R114). -/

namespace Sys2Proof.Machine

open Wire

variable {s t u : State} {p q b : Index} {o : Order} {c : Cause} {a : Attribute}

/-! ### The orders of one position, changed and alone -/

theorem State.ordersOf_mapOrder {f : Order → Order} (hf : ∀ o, (f o).position = o.position) :
    (s.mapOrder p f).ordersOf p = (s.ordersOf p).map f := by
  rw [State.ordersOf, State.mapOrder_eq, List.filter_map]
  have htest : ((fun o : Order => o.position == p) ∘ fun o => if o.position = p then f o else o) =
      fun o => o.position == p := by
    funext o
    by_cases hp : o.position = p <;> simp [hp, hf]
  rw [htest]
  exact List.map_congr_left fun o ho => if_pos (eq_of_beq (List.mem_filter.mp ho).2)

theorem State.oneOrderEach.ordersOf (h : s.oneOrderEach) (ho : s.orderAt p = some o) : s.ordersOf p = [o] := by
  obtain ⟨hmem, rfl⟩ := State.mem_of_orderAt ho
  have hnodup : (s.ordersOf o.position).Nodup := (List.Nodup.of_map _ h).filter _
  refine List.perm_singleton.mp ((List.perm_ext_iff_of_nodup hnodup (List.nodup_singleton o)).mpr fun r => ?_)
  rw [State.mem_ordersOf, List.mem_singleton]
  exact ⟨fun hr => h.eq hmem hr.1 hr.2, fun hr => by rw [hr]; exact ⟨hmem, rfl⟩⟩

theorem State.mem_mapOrder_of_mem {f : Order → Order} (ho : o ∈ s.orders) :
    (if o.position = p then f o else o) ∈ (s.mapOrder p f).orders := by
  rw [State.mapOrder_eq]
  exact List.mem_map.mpr ⟨o, ho, rfl⟩

/-- An order alone at its position and supervised as the position has it is not touched by following it. -/
theorem State.followPosition_alone (h : s.ordersOf p = [o]) (hs : o.supervised = !s.unsupervised p) :
    s.followPosition p = s :=
  State.followPosition_same fun r hr hp => by
    have hin : r ∈ s.ordersOf p := State.mem_ordersOf.mpr ⟨hr, hp⟩
    rw [h] at hin
    rw [List.mem_singleton.mp hin, hs]

/-! ### The failure (R110) -/

/-- What the failure makes of the order before any request (R110). -/
def State.failedAt (s : State) (o : Order) : State :=
  State.post { s with
    orders := s.orders.map fun q =>
      if q.position = o.position then { q with stage := .failed, escalated := some (!o.testOnly) } else q
    records := s.records.map fun r =>
      if r.state ≠ .opened then r
      else { r with
        entries := r.entries.map fun e =>
          if e.position = o.position ∧ e.released = none then { e with stage := .failed } else e } }
    .orderFailed o.position o.attr.code

theorem State.failedAt_orders (s : State) (o : Order) : (s.failedAt o).orders =
    (s.mapOrder o.position fun q => { q with stage := .failed, escalated := some (!o.testOnly) }).orders := by
  rw [State.mapOrder_eq]
  rfl

/-- The backups an order asks: none if it is test only (R110). -/
def State.backupsOf (s : State) (o : Order) : List Index :=
  if o.testOnly then [] else (s.positionSet o.position).backups.filter s.usedPosition

/-- Whether the failure of an order raises its remote flags (R111, R112). -/
def State.raisesFlags (s : State) (o : Order) : Bool :=
  !o.testOnly && o.attr == .live && (s.positionSet o.position).remoteBackups.any fun e => e.isSome

/-- The failure with its requests to the backups (R110). -/
def State.backupsAsked (s : State) (o : Order) : State :=
  (s.failedAt o).requestAll (s.backupsOf o) ⟨.backup, o.position⟩ o.attr

/-- The failure with its requests and its flags (R110 to R112). -/
def State.failed (s : State) (o : Order) : State :=
  (s.backupsAsked o).mapOrder o.position fun q => { q with remoteHeld := q.remoteHeld || s.raisesFlags o }

theorem State.backupsAsked_apart (s : State) (o : Order) : (s.backupsAsked o).apart = s.apart :=
  State.requestAll_apart (s.failedAt o) _ _ _

theorem State.escalate_eq (s : State) (o : Order) : s.escalate o = s.failed o := by
  have hfailed : ((s.mapOrder o.position fun q => { q with stage := .failed, escalated := some (!o.testOnly) }).recordStage
      o.position .failed).post .orderFailed o.position o.attr.code = s.failedAt o := by
    rw [State.recordStage, State.mapOrder_eq, State.mapEntry_eq]
    rfl
  have hsome : (!(presentEntries (s.positionSet o.position).remoteBackups).isEmpty) =
      (s.positionSet o.position).remoteBackups.any fun e => e.isSome := by
    rw [presentEntries_isEmpty, List.not_all_eq_any_not]
    exact congrArg _ (funext fun e => by cases e <;> rfl)
  rw [State.escalate]
  dsimp only
  rw [hfailed]
  by_cases htest : o.testOnly = true
  · have hasked : s.backupsAsked o = s.failedAt o := by
      rw [State.backupsAsked, State.backupsOf, if_pos htest]
      rfl
    rw [if_pos htest, State.failed, hasked]
    exact (State.mapOrder_same fun q _ _ => by simp [State.raisesFlags, htest]).symm
  · have hasked : (s.failedAt o).requestAll
        (((s.failedAt o).positionSet o.position).backups.filter (s.failedAt o).usedPosition) ⟨.backup, o.position⟩ o.attr =
        s.backupsAsked o := by
      rw [State.backupsAsked, State.backupsOf, if_neg htest]
      rfl
    have hraises : s.raisesFlags o =
        (o.attr == .live && (s.positionSet o.position).remoteBackups.any fun e => e.isSome) := by
      simp [State.raisesFlags, htest]
    rw [if_neg htest, hasked, State.positionSet_of_apart (s.backupsAsked_apart o), hsome, State.failed, ← hraises]
    split
    · next hraised => simp only [hraised, Bool.or_true]
    · next hlowered =>
      rw [Bool.not_eq_true] at hlowered
      exact (State.mapOrder_same fun q _ _ => by rw [hlowered, Bool.or_false]).symm

theorem State.failed_apart (s : State) (o : Order) : (s.failed o).apart = s.apart := by
  rw [← State.escalate_eq, State.escalate_apart]

/-- The order that fails, alone at its position (R100, R110). -/
theorem State.failed_ordersOf (h : s.ordersOf o.position = [o]) (hb : o.position ∉ (s.positionSet o.position).backups) :
    (s.failed o).ordersOf o.position = [{ o with
      stage := .failed, escalated := some (!o.testOnly), remoteHeld := o.remoteHeld || s.raisesFlags o }] := by
  have hnot : o.position ∉ s.backupsOf o := by
    unfold State.backupsOf
    split
    · exact List.not_mem_nil
    · exact fun hin => hb (List.mem_filter.mp hin).1
  have hfailed : (s.failedAt o).ordersOf o.position = [{ o with stage := .failed, escalated := some (!o.testOnly) }] := by
    rw [State.ordersOf_of_orders (s.failedAt_orders o),
      State.ordersOf_mapOrder (f := fun q => { q with stage := .failed, escalated := some (!o.testOnly) }) fun _ => rfl, h]
    rfl
  rw [State.failed, State.ordersOf_mapOrder (f := fun q => { q with remoteHeld := q.remoteHeld || s.raisesFlags o })
    fun _ => rfl, State.backupsAsked, State.requestAll_ordersOf hnot, hfailed]
  rfl

/-! ### The command (R110, R113) -/

theorem exec_bfDeadline_some (hp : s.powered = true) (ho : s.orderAt p = some o) :
    exec (.bfDeadline p) s = .next (settle s
      (if o.stage = .driving ∧ ¬ (o.supervised = false ∧ s.pulseEnd p o.startedAt < o.deadline) then
        ((s.advanceTo o.deadline).failOrder o).judgeOrder p
      else s)) := by
  obtain rfl := (State.mem_of_orderAt ho).2
  show execBfDeadline o.position s = _
  unfold execBfDeadline
  rw [conclude_powered s _ hp]
  simp only [ho, State.deadlineVoid, Bool.and_eq_true, Bool.not_eq_true', Bool.and_eq_false_iff, beq_iff_eq,
    decide_eq_false_iff_not, not_and_or, Bool.not_eq_false', Bool.not_eq_false]

theorem State.advanceTo_content (s : State) (d : Instant) : (s.advanceTo d).content = s.content := by
  rw [s.advanceTo_eq d]
  rfl

theorem State.advanceTo_evidence (s : State) (d : Instant) (p : Index) : SameEvidence s (s.advanceTo d) p := by
  rw [s.advanceTo_eq d]
  exact ⟨rfl, rfl⟩

/-- Content noted against the state before time passed is noted at the end of the command. -/
theorem settle_noteContent_advanceTo (d : Instant) : settle s ((s.advanceTo d).noteContent t) = settle s t := by
  have hsame : (s.advanceTo d).noteContent t = s.noteContent t := by
    rw [State.noteContent, State.noteContent, State.advanceTo_content]
  rw [hsame, settle_noteContent]

/-! ### The judgement of a failed order (R108, R113) -/

section

variable (h : s.ordersOf p = [o]) (hs : o.supervised = !s.unsupervised p) (hstage : o.stage ≠ .confirmed)
include h hs hstage

/-- A failed order without its evidence, or whose minimum pulse still runs, stays as it is. -/
theorem State.judgeOrder_stays
    (hno : (o.supervised = true ∧ s.cleared p = false) ∨ (o.supervised = false ∧ s.pulseRun o = false)) :
    s.judgeOrder p = s := by
  have hat : s.orderAt p = some o := by rw [State.orderAt_eq_head?, h]; rfl
  rw [State.judgeOrder_of_some hat, if_neg hstage, State.followPosition_alone h hs]
  rcases hno with ⟨hsup, hclear⟩ | ⟨hsup, hpulse⟩
  · have hun : s.unsupervised p = false := by simpa [hsup] using hs
    simp [hun, hclear]
  · have hun : s.unsupervised p = true := by simpa [hsup] using hs
    simp [hun, hpulse]

/-- An unsupervised one whose minimum pulse has run is confirmed and released. -/
theorem State.judgeOrder_releases (hsup : o.supervised = false) (hpulse : s.pulseRun o = true) :
    s.judgeOrder p = (s.confirmAt p).release p := by
  have hat : s.orderAt p = some o := by rw [State.orderAt_eq_head?, h]; rfl
  have hun : s.unsupervised p = true := by simpa [hsup] using hs
  rw [State.judgeOrder_of_some hat, if_neg hstage, State.followPosition_alone h hs, if_pos hun, if_pos hpulse]

end

/-! ### What the failure leaves behind (R110 to R112, R121) -/

/-- ORDER_FAILED stands behind what the queue held, whatever the requests post after it. -/
theorem State.failed_holds (hroom : s.notices.length < 31) (hs : ∀ n ∈ s.notices, n.kind ≠ .lost) (o : Order) :
    (s.failed o).holds (s.notices ++
      [{ kind := .orderFailed, subject := o.position, value := o.attr.code, time := s.partTime }]) := by
  have hposted : (s.failedAt o).holds (s.notices ++
      [{ kind := .orderFailed, subject := o.position, value := o.attr.code, time := s.partTime }]) := by
    refine ⟨fun n hn => ?_, ?_⟩
    · rcases List.mem_append.mp hn with hold | hnew
      · exact hs n hold
      · rw [List.mem_singleton.mp hnew]
        exact NoticeKind.noConfusion
    · show _ <+: enqueue s.notices _
      rw [enqueue_room _ _ hs hroom]
  exact (hposted.requestAll (s.backupsOf o) ⟨.backup, o.position⟩ o.attr).same rfl

theorem State.failed_zones (s : State) (o : Order) : (s.failed o).zones = s.zones :=
  State.requestAll_zones (s.failedAt o) (s.backupsOf o) ⟨.backup, o.position⟩ o.attr

/-- A test-only order asks no backup. -/
theorem State.failed_length (h : o.testOnly = true) : (s.failed o).orders.length = s.orders.length := by
  rw [State.failed, State.backupsAsked, State.backupsOf, if_pos h, State.mapOrder_eq]
  simp [State.requestAll, State.failedAt, State.post]

/-- Every backup asked holds an order for this cause, LIVE with its lockout where a LIVE order failed. -/
theorem State.failed_backup (hb : b ∈ s.backupsOf o) (h8 : b ∈ upTo 8) (hm : 0 < (s.positionSet b).minPulse) :
    ∃ q ∈ (s.failed o).orders, q.position = b ∧
      (⟨.backup, o.position⟩ ∈ q.causes ∨ (4 ≤ q.causes.length ∧ 0 < q.further)) ∧
      (o.attr = .live → q.attr = .live ∧ (s.liveLocked → b ∈ (s.failed o).lockout)) := by
  obtain ⟨q, hq, hpos, hcause, hlive⟩ : (s.backupsAsked o).askedAt b ⟨.backup, o.position⟩ o.attr :=
    State.requestAll_askedAt (s := s.failedAt o) hb hm _ _
  have hlocked (hl : s.liveLocked) : (s.backupsAsked o).lockedAt b := by
    refine State.requestAll_lockedAt (s := s.failedAt o) h8 hm (fun r hr hrp hrlive => ?_) _ _ _
    rw [s.failedAt_orders o] at hr
    rcases State.mem_mapOrder hr with ⟨v, hv, -, rfl⟩ | ⟨hold, -⟩
    · exact hrp ▸ hl v hv hrlive (hrp.symm ▸ h8)
    · exact hrp ▸ hl r hold hrlive (hrp.symm ▸ h8)
  refine ⟨_, State.mem_mapOrder_of_mem hq, ?_⟩
  have hlockout (hattr : o.attr = .live) : q.attr = .live ∧ (s.liveLocked → b ∈ (s.failed o).lockout) :=
    ⟨hlive hattr, fun hl => hlocked hl q hq hpos (hlive hattr)⟩
  split
  · exact ⟨hpos, hcause, hlockout⟩
  · exact ⟨hpos, hcause, hlockout⟩

/-! ### The command at the deadline of a driving order (R110, R113) -/

/-- The failure at the deadline, and the flags it raised noted, before the judgement (R110, R127). -/
def State.deadlinePassed (s : State) (o : Order) : State :=
  (s.advanceTo o.deadline).noteContent ((s.advanceTo o.deadline).failed o)

/-- The order as its failure leaves it (R110, R112). -/
def State.failedOrder (s : State) (o : Order) : Order :=
  { o with stage := .failed, escalated := some (!o.testOnly), remoteHeld := o.remoteHeld || s.raisesFlags o }

theorem State.advanceTo_raisesFlags (s : State) (d : Instant) (o : Order) :
    (s.advanceTo d).raisesFlags o = s.raisesFlags o := by
  rw [State.raisesFlags, State.raisesFlags, State.advanceTo_positionSet]

theorem State.deadlinePassed_apart (s : State) (o : Order) :
    (s.deadlinePassed o).apart = (s.advanceTo o.deadline).apart := by
  rw [State.deadlinePassed, State.noteContent_apart, State.failed_apart]

theorem State.deadlinePassed_evidence (s : State) (o : Order) (p : Index) : SameEvidence s (s.deadlinePassed o) p := by
  obtain ⟨hun, hclear⟩ := SameEvidence.of_apart (s.deadlinePassed_apart o) p
  obtain ⟨hun', hclear'⟩ := s.advanceTo_evidence o.deadline p
  exact ⟨hun.trans hun', hclear.trans hclear'⟩

theorem State.deadlinePassed_pulseRun (s : State) (o : Order) :
    (s.deadlinePassed o).pulseRun (s.failedOrder o) = true ↔
      o.startedAt + (s.positionSet o.position).minPulse * Config.ms ≤ (s.advanceTo o.deadline).clock := by
  have hclock := State.clock_of_apart (s.deadlinePassed_apart o)
  have hset := State.positionSet_of_apart (s.deadlinePassed_apart o) o.position
  rw [State.pulseRun_iff (o := s.failedOrder o) (p := o.position) rfl, hclock, hset, State.advanceTo_positionSet]
  rfl

section

variable (hone : s.oneOrderEach) (ho : s.orderAt p = some o) (hb : p ∉ (s.positionSet p).backups)
include hone ho hb

theorem State.advanceTo_failed_ordersOf (d : Instant) :
    ((s.advanceTo d).failed o).ordersOf p = [s.failedOrder o] := by
  obtain rfl := (State.mem_of_orderAt ho).2
  have halone : (s.advanceTo d).ordersOf o.position = [o] :=
    (State.ordersOf_of_orders (s.advanceTo_orders d) _).trans (hone.ordersOf ho)
  rw [State.failed_ordersOf halone (by rwa [State.advanceTo_positionSet]), State.advanceTo_raisesFlags]
  rfl

theorem State.deadlinePassed_ordersOf : (s.deadlinePassed o).ordersOf p = [s.failedOrder o] :=
  (State.ordersOf_of_orders (State.noteContent_orders _ _) p).trans (State.advanceTo_failed_ordersOf hone ho hb o.deadline)

variable (hp : s.powered = true) (hdriving : o.stage = .driving) (hsup : o.supervised = !s.unsupervised p)
include hp hdriving hsup

/-- Without its evidence, or with its minimum pulse still running, the order stays FAILED (R110, R113). -/
theorem exec_bfDeadline_stays
    (hno : (o.supervised = true ∧ s.cleared p = false) ∨ (o.supervised = false ∧
      o.deadline ≤ s.pulseEnd p o.startedAt ∧ (s.advanceTo o.deadline).clock < s.pulseEnd p o.startedAt)) :
    exec (.bfDeadline p) s = .next (settle s ((s.advanceTo o.deadline).failed o)) := by
  obtain ⟨hun, hclear⟩ := s.deadlinePassed_evidence o p
  have hvoid : ¬ (o.supervised = false ∧ s.pulseEnd p o.startedAt < o.deadline) := by
    rintro ⟨hunsup, hlt⟩
    rcases hno with ⟨h, -⟩ | ⟨-, hle, -⟩
    · exact absurd (h.symm.trans hunsup) Bool.noConfusion
    · exact absurd hlt (Nat.not_lt.mpr hle)
  rw [exec_bfDeadline_some hp ho, if_pos ⟨hdriving, hvoid⟩, State.failOrder, State.escalate_eq]
  show Host.Outcome.next (settle s ((s.deadlinePassed o).judgeOrder p)) = _
  rw [State.judgeOrder_stays (State.deadlinePassed_ordersOf hone ho hb) (by rw [hun]; exact hsup) Stage.noConfusion,
    State.deadlinePassed, settle_noteContent_advanceTo]
  refine hno.imp (fun h => ⟨h.1, hclear.trans h.2⟩) fun h => ⟨h.1, ?_⟩
  obtain rfl := (State.mem_of_orderAt ho).2
  rw [← Bool.not_eq_true, State.deadlinePassed_pulseRun]
  exact Nat.not_le.mpr h.2.2

/-- Where the minimum pulse has run too, an unsupervised order is confirmed and released at once (R113). -/
theorem exec_bfDeadline_releases (hunsup : o.supervised = false) (hle : o.deadline ≤ s.pulseEnd p o.startedAt)
    (hrun : s.pulseEnd p o.startedAt ≤ (s.advanceTo o.deadline).clock) :
    exec (.bfDeadline p) s = .next (settle s (((s.deadlinePassed o).confirmAt p).release p)) := by
  obtain ⟨hun, -⟩ := s.deadlinePassed_evidence o p
  have hvoid : ¬ (o.supervised = false ∧ s.pulseEnd p o.startedAt < o.deadline) := fun h => absurd h.2 (Nat.not_lt.mpr hle)
  rw [exec_bfDeadline_some hp ho, if_pos ⟨hdriving, hvoid⟩, State.failOrder, State.escalate_eq]
  show Host.Outcome.next (settle s ((s.deadlinePassed o).judgeOrder p)) = _
  rw [State.judgeOrder_releases (State.deadlinePassed_ordersOf hone ho hb) (by rw [hun]; exact hsup) Stage.noConfusion
    hunsup]
  obtain rfl := (State.mem_of_orderAt ho).2
  exact (s.deadlinePassed_pulseRun o).mpr hrun

end

/-! ### The obligation -/

/-- Settles O37: the failure by its parts, and its judgement by the supervision of the order that fails. -/
theorem deadlineFails : Obligations.DeadlineFails := by
  unfold Obligations.DeadlineFails
  intro s p hp hone hpulses
  refine ⟨fun o ho hno => ?_, fun o ho hdriving hsup hbackups => ?_, fun o ho hdriving hun hclear hsup hbackups => ?_⟩
  · rw [exec_bfDeadline_some hp ho, if_neg]
    rintro ⟨hdriving, hvoid⟩
    exact hno.elim (fun h => h hdriving) hvoid
  · obtain rfl := (State.mem_of_orderAt ho).2
    intro ends u failed asked held x y confirmed
    have hfailed : u.failedAt o = failed := by
      rw [State.failedAt, State.advanceTo_orders, State.advanceTo_records, State.post]
      rw [State.advanceTo_notices]
    have hasked : u.backupsOf o = if o.testOnly then [] else (s.positionSet o.position).backups.filter s.usedPosition := by
      rw [State.backupsOf, State.advanceTo_positionSet, funext (s.advanceTo_used o.deadline)]
    have hx : u.failed o = x := by
      rw [State.failed, State.mapOrder_eq, State.advanceTo_raisesFlags, State.backupsAsked, hfailed, hasked]
      rfl
    refine ⟨fun hs hclear => ?_, fun hs hle hlt => ?_, fun hs hle hrun => ?_⟩
    · rw [exec_bfDeadline_stays hone ho hbackups hp hdriving hsup (.inl ⟨hs, hclear⟩), hx]
    · rw [exec_bfDeadline_stays hone ho hbackups hp hdriving hsup (.inr ⟨hs, hle, hlt⟩), hx]
    · rw [exec_bfDeadline_releases hone ho hbackups hp hdriving hsup hs hle hrun, State.deadlinePassed, hx,
        State.confirmAt_eq]
  · have hstays := exec_bfDeadline_stays hone ho hbackups hp hdriving (by rw [hsup, hun]; rfl) (.inl ⟨hsup, hclear⟩)
    have hapart : (settle s ((s.advanceTo o.deadline).failed o)).apart = (s.advanceTo o.deadline).apart := by
      rw [settle_apart, State.failed_apart]
    refine ⟨_, hstays, posted_of_holds fun hroom hlost => ?_, ?_, hapart, ?_, ?_, fun htest => ?_,
      fun htest b hb hused h8 => ?_⟩
    · rw [State.partTime_of_apart hapart, ← (State.mem_of_orderAt ho).2]
      refine State.holds.same (s := (s.advanceTo o.deadline).failed o) ?_ (settle_notices _ _)
      rw [← s.advanceTo_notices o.deadline] at hroom hlost ⊢
      exact State.failed_holds (Nat.lt_of_succ_le hroom) hlost o
    · rw [State.clock_of_apart hapart, State.advanceTo_clock]
    · rw [settle_zones, State.failed_zones, State.advanceTo_zones]
    · rw [State.orderAt_eq_head?, State.ordersOf_of_orders (settle_orders _ _),
        State.advanceTo_failed_ordersOf hone ho hbackups, State.failedOrder, State.raisesFlags, (State.mem_of_orderAt ho).2]
      rfl
    · rw [settle_orders, State.failed_length htest, State.advanceTo_orders]
    · obtain rfl := (State.mem_of_orderAt ho).2
      have hasked : b ∈ (s.advanceTo o.deadline).backupsOf o := by
        rw [State.backupsOf, if_neg (Bool.eq_false_iff.mp htest), State.advanceTo_positionSet]
        exact List.mem_filter.mpr ⟨hb, (s.advanceTo_used o.deadline b).trans hused⟩
      have hm : 0 < ((s.advanceTo o.deadline).positionSet b).minPulse := by
        rw [State.advanceTo_positionSet]
        exact hpulses b h8
      have hlocked : s.liveLocked → (s.advanceTo o.deadline).liveLocked := fun h => by
        rwa [State.liveLocked, State.advanceTo_orders, State.advanceTo_lockout]
      obtain ⟨q, hq, hpos, hcause, hlive⟩ := State.failed_backup hasked h8 hm
      rw [settle_orders, settle_lockout]
      exact ⟨q, hq, hpos, hcause, fun ha => ⟨(hlive ha).1, fun hl => (hlive ha).2 (hlocked hl)⟩⟩

end Sys2Proof.Machine
end

section
/-! The rule on the cross link (R125, R128, R134, R135): what it asks of the controller and of a peer's record, what it
reads of the state, and the changes of the controller that keep it. -/

namespace Sys2Proof.Machine

open Wire

variable {s t u : State} {l k : Link} {unit : Nat}

/-! ### A peer's record (R134, R135) -/

/-- A silence timer exactly while LIVE, and flags in LIVE alone. -/
def Peer.Fits (p : Peer) : Prop :=
  (p.silence.isSome ↔ p.state = .live) ∧ (p.state ≠ .live → p.light = [] ∧ p.current = [] ∧ p.requests = [])

theorem Peer.fresh_fits (n : Index) : (Peer.fresh n).Fits := by simp [Peer.Fits, Peer.fresh]

theorem Peer.take_fits (p : Peer) (c : Content) (own : Nat) (now : Instant) : (p.take c own now).Fits := by
  simp [Peer.Fits, Peer.take]

theorem Peer.lose_fits (p : Peer) : p.lose.Fits := by simp [Peer.Fits, Peer.lose]

/-! ### The controller (R125, R128) -/

/-- The rule on the controller of a unit of that number. -/
structure Link.Fits (l : Link) (unit : Nat) : Prop where
  off : unit = 0 → l.tx = .off ∧ l.peers = []
  armed : l.tx = .armed → l.snapshot.isSome ∧ l.decided.isSome
  sending : l.tx = .sending → l.snapshot.isSome ∧ l.driving.isSome ∧ l.sendStart.isSome
  peers : ∀ p ∈ l.peers, p.Fits

theorem State.linkAgrees_iff : s.linkAgrees ↔ s.link.Fits s.settings.active.link.unit :=
  ⟨fun ⟨h1, h2, h3, h4⟩ => ⟨h1, h2, h3, h4⟩, fun ⟨h1, h2, h3, h4⟩ => ⟨h1, h2, h3, h4⟩⟩

/-- A controller set up for no unit number fits every unit. -/
theorem Link.fresh_fits (n : Nat) (ps : List Index) (h : unit = 0 → n = 0) : (Link.fresh n ps).Fits unit := by
  have htx : (Link.fresh n ps).tx = if n = 0 then .off else .due := rfl
  have hps : (Link.fresh n ps).peers = if n = 0 then [] else ps.map Peer.fresh := rfl
  refine ⟨fun hu => ?_, fun ha => ?_, fun hs => ?_, fun p hp => ?_⟩
  · rw [htx, hps, if_pos (h hu), if_pos (h hu)]
    exact ⟨rfl, rfl⟩
  · rw [htx] at ha
    split at ha <;> cases ha
  · rw [htx] at hs
    split at hs <;> cases hs
  · rw [hps] at hp
    split at hp
    · cases hp
    · obtain ⟨n, -, rfl⟩ := List.mem_map.mp hp
      exact Peer.fresh_fits n

namespace Link.Fits

/-- A transmitter that is not off comes to rest, whatever it gives up or has completed (R127, R130, R131, R133). -/
theorem rest (h : l.Fits unit) (hon : l.tx ≠ .off) (htx : k.tx = .idle ∨ k.tx = .due) (hp : k.peers = l.peers) :
    k.Fits unit where
  off hu := absurd (h.off hu).1 hon
  armed ha := by rcases htx with htx | htx <;> exact Transmitter.noConfusion (htx.symm.trans ha)
  sending hs := by rcases htx with htx | htx <;> exact Transmitter.noConfusion (htx.symm.trans hs)
  peers := hp ▸ h.peers

theorem backToDue (h : l.Fits unit) (hon : l.tx ≠ .off) : l.backToDue.Fits unit := h.rest hon (.inr rfl) rfl

/-- The decision to send (R128). -/
theorem decide (h : l.Fits unit) (hdue : l.tx = .due) (c : Content) (now : Instant) :
    ({ l with tx := .armed, snapshot := some c, decided := some now, holdOff := none } : Link).Fits unit where
  off hu := absurd ((h.off hu).1.symm.trans hdue) Transmitter.noConfusion
  armed _ := ⟨rfl, rfl⟩
  sending := Transmitter.noConfusion
  peers := h.peers

/-- An ARMED unit drives its start bit (R128, R129). -/
theorem startSending (h : l.Fits unit) (ha : l.tx = .armed) (c : Content) (start : Instant) :
    (l.startSending c start).Fits unit where
  off hu := absurd ((h.off hu).1.symm.trans ha) Transmitter.noConfusion
  armed := Transmitter.noConfusion
  sending _ := ⟨(h.armed ha).1, rfl, rfl⟩
  peers := h.peers

/-- The record of one peer changed to one that fits. -/
theorem mapPeer (h : l.Fits unit) (n : Index) {f : Peer → Peer} (hf : ∀ p, (f p).Fits) :
    ({ l with peers := l.peers.map fun p => if p.unit == n then f p else p } : Link).Fits unit where
  off hu := ⟨(h.off hu).1, List.map_eq_nil_iff.mpr (h.off hu).2⟩
  armed := h.armed
  sending := h.sending
  peers q hq := by
    obtain ⟨p, hp, rfl⟩ := List.mem_map.mp hq
    split
    · exact hf p
    · exact h.peers p hp

/-- A link group applied (R138): a link taken up is DUE, one kept sends on, and every peer is set up anew. -/
theorem applied {before after : LinkSettings} (h : l.Fits before.unit) (now : Instant) :
    (l.applied before after now).Fits after.unit := by
  by_cases hoff : after.unit = 0
  · have hlink : (l.applied before after now).tx = .off ∧ (l.applied before after now).peers = [] := by
      simp [Link.applied, hoff]
    obtain ⟨htx, hps⟩ := hlink
    refine ⟨fun _ => ⟨htx, hps⟩, fun ha => ?_, fun hs => ?_, fun p hp => ?_⟩
    · cases htx.symm.trans ha
    · cases htx.symm.trans hs
    · rw [hps] at hp
      cases hp
  · have hon : (after.unit != 0) = true := bne_iff_ne.mpr hoff
    have kept {x : Transmitter} (hx : x ≠ .due) (htx : (l.applied before after now).tx = x) : l.tx = x := by
      simp only [Link.applied, hon, Bool.not_true, Bool.false_eq_true, if_false] at htx
      split at htx
      · exact absurd htx.symm hx
      · exact htx
    refine ⟨fun hu => absurd hu hoff, fun ha => ?_, fun hs => ?_, fun p hp => ?_⟩
    · simpa only [Link.applied, hon, if_true] using h.armed (kept (by decide) ha)
    · simpa only [Link.applied, hon, if_true] using h.sending (kept (by decide) hs)
    · rw [show (l.applied before after now).peers = after.peers.map Peer.fresh by simp [Link.applied, hon]] at hp
      obtain ⟨n, -, rfl⟩ := List.mem_map.mp hp
      exact Peer.fresh_fits n

end Link.Fits

/-! ### What the rule reads -/

/-- What the rule reads of a controller. -/
def Link.bearing (l : Link) :
    Transmitter × Option Content × Option Instant × Option (List Bit) × Option Instant × List Peer :=
  (l.tx, l.snapshot, l.decided, l.driving, l.sendStart, l.peers)

theorem Link.Fits.of_bearing (h : l.Fits unit) (hb : k.bearing = l.bearing) : k.Fits unit := by
  simp only [Link.bearing, Prod.mk.injEq] at hb
  obtain ⟨htx, hsnapshot, hdecided, hdriving, hstart, hpeers⟩ := hb
  obtain ⟨hoff, harmed, hsending, hfit⟩ := h
  constructor
  · rwa [htx, hpeers]
  · rwa [htx, hsnapshot, hdecided]
  · rwa [htx, hsnapshot, hdriving, hstart]
  · rwa [hpeers]

/-- The rule does not tell IDLE from DUE, and so does not see what the end of a command may do to the link. -/
theorem State.apart_link_fits : s.apart.link.Fits unit ↔ s.link.Fits unit := by
  by_cases hidle : s.link.tx = .idle
  · have hdue : s.apart.link.tx = .due := if_pos hidle
    constructor
    · exact fun h => h.rest (by rw [hdue]; decide) (.inl hidle) rfl
    · exact fun h => h.rest (by rw [hidle]; decide) (.inr hdue) rfl
  · have hsame : s.apart.link.bearing = s.link.bearing := by simp [State.apart, Link.bearing, hidle]
    exact ⟨fun h => h.of_bearing hsame.symm, fun h => h.of_bearing hsame⟩

/-- What the rule reads of the state. -/
def State.linkView (s : State) := (s.settings.active.link.unit, s.apart.link.bearing)

/-- What is proved of every operation: with the rule before it, the rule holds after it. -/
def KeepsLink (s t : State) : Prop := s.linkAgrees → t.linkAgrees

namespace KeepsLink

theorem refl (s : State) : KeepsLink s s := id

theorem trans (h : KeepsLink s t) (h' : KeepsLink t u) : KeepsLink s u := h' ∘ h

theorem ite {p : Prop} [Decidable p] (ht : KeepsLink s t) (hu : KeepsLink s u) : KeepsLink s (if p then t else u) := by
  split
  · exact ht
  · exact hu

theorem foldl {α : Type} {f : State → α → State} (h : ∀ t x, KeepsLink t (f t x)) (l : List α) (s : State) :
    KeepsLink s (l.foldl f s) :=
  List.foldlRecOn (motive := KeepsLink s) l f (refl s) fun t ht x _ => ht.trans (h t x)

theorem of_fits (h : s.link.Fits s.settings.active.link.unit → t.link.Fits t.settings.active.link.unit) :
    KeepsLink s t := fun hs => State.linkAgrees_iff.mpr (h (State.linkAgrees_iff.mp hs))

theorem of_view (h : t.linkView = s.linkView) : KeepsLink s t := by
  obtain ⟨hunit, hlink⟩ := Prod.mk.inj h
  exact of_fits fun hs => State.apart_link_fits.mp ((hunit ▸ State.apart_link_fits.mpr hs).of_bearing hlink)

/-- The decision path does not touch what the rule reads. -/
theorem of_apart (h : t.apart = s.apart) : KeepsLink s t :=
  of_view (congrArg (fun u : State => (u.settings.active.link.unit, u.link.bearing)) h :)

theorem advanceTo (s : State) (d : Instant) : KeepsLink s (s.advanceTo d) := by
  rw [s.advanceTo_eq d]
  exact of_view rfl

theorem settle (s t : State) : KeepsLink t (settle s t) := of_apart (settle_apart s t)

end KeepsLink

end Sys2Proof.Machine
end

section
/-! The operations that several commands share keep the rule on the cross link: the decision path and the front ends, which
do not touch it, the link's own operations, the staged application, the store and a restart. -/

namespace Sys2Proof.Machine

open Wire

variable {s t u : State}

namespace KeepsLink

/-! ### Updates that the rule does not see -/

theorem post (s : State) (k : NoticeKind) (a b : Nat) : KeepsLink s (s.post k a b) := of_view rfl

theorem countLink (s : State) (f : LinkCounters → LinkCounters) : KeepsLink s (s.countLink f) := of_view rfl

/-- The controller changed in nothing that the rule reads. -/
theorem mapLink_unread (s : State) {f : Link → Link} (h : ∀ l, (f l).bearing = l.bearing) : KeepsLink s (s.mapLink f) :=
  of_fits fun hs => hs.of_bearing (h s.link)

/-- A record changed, whatever is posted with it, and the decision path. -/
theorem handed (ht : t.linkView = s.linkView) (hu : u.apart = t.apart) : KeepsLink s u :=
  (of_view ht).trans (of_apart hu)

theorem clearLockouts (s : State) (ps : List Index) : KeepsLink s (s.clearLockouts ps) := of_apart (by simp)

theorem handChannel (s t : State) (n : Index) : KeepsLink t (s.handChannel t n) := of_apart (by simp)

theorem handPoint (s t : State) (m : Index) : KeepsLink t (s.handPoint t m) := of_apart (by simp)

/-- One channel's sample (R4). -/
theorem sampleChannel (s : State) (n : Index) (raw : Nat) : KeepsLink s (s.sampleChannel n raw) :=
  handed (t := s.setChannel n (s.sampledChannel n raw)) rfl (s.sampleChannel_apart n raw)

theorem derive (s : State) (p : Index) : KeepsLink s (s.derive p) := ite (of_view rfl) (of_view rfl)

/-- A position's record replaced at some instant, and derived anew (R56 to R58). -/
theorem setPosition_derivePosition (s : State) (d : Instant) (p : Index) (q : Position) :
    KeepsLink s (((s.advanceTo d).setPosition p q).derivePosition p) :=
  (((advanceTo s d).trans (of_view (by rfl))).trans (derive _ p)).trans (of_apart (State.derivePosition_apart _ p))

/-- A change of protection state (R153, R159). -/
theorem changeState (s : State) (new : Protection) : KeepsLink s (s.changeState new) := by
  have cleared (v : State) : KeepsLink v (if s.control.state = .test then v.clearSimulations.withdrawDry else v) :=
    ite ((of_view (by rfl)).trans (of_apart (State.withdrawDry_apart _))) (refl v)
  exact ((of_view (by rfl)).trans (cleared _)).trans (of_apart (State.evaluateAll_apart _))

/-! ### The cross link (R129 to R137) -/

theorem mapPeer (s : State) (n : Index) {f : Peer → Peer} (hf : ∀ p, (f p).Fits) : KeepsLink s (s.mapPeer n f) :=
  of_fits fun hs => hs.mapPeer n hf

theorem handLinkInputs (s t : State) : KeepsLink t (s.handLinkInputs t) := of_apart (by simp)

/-- A peer's telegram makes its record LIVE (R135, R136). -/
theorem takePeer (s : State) (p : Peer) (c : Content) : KeepsLink s (s.takePeer p c) := by
  have edges (ps : List Index) (v : State) : KeepsLink v (ps.foldl (fun v q => v.requestEdge p.unit q) v) :=
    foldl (fun v q => of_apart (v.requestEdge_apart p.unit q)) ps v
  have heard : KeepsLink s (if p.state == .live then s else s.post .peerState p.unit PeerState.live.code) :=
    ite (refl s) (post s _ _ _)
  have taken := heard.trans (mapPeer _ p.unit fun q => q.take_fits c s.settings.active.link.unit s.clock)
  unfold State.takePeer
  exact taken.trans (ite ((edges _ _).trans (handLinkInputs s _)) ((handLinkInputs s _).trans (edges _ _)))

/-- A duplicate seen gives an ARMED attempt up (R133). -/
theorem takeDuplicate (s : State) : KeepsLink s s.takeDuplicate := by
  have stopped (v : State) (d : Instant) : KeepsLink v (v.mapLink fun l =>
      { (if l.tx == .armed then l.backToDue else l) with
        suspended := some d, lastDuplicate := some v.clock, duplicateAlarm := true }) := by
    refine of_fits fun hv => Link.Fits.of_bearing (l := if v.link.tx == .armed then v.link.backToDue else v.link) ?_ rfl
    split
    · next harmed => exact hv.backToDue (by rw [eq_of_beq harmed]; decide)
    · exact hv
  have announced (v : State) (a b : Nat) (d : Instant) :
      KeepsLink v ((v.post .duplicateUnit a b).mapLink fun l => { l with duplicateNotice := some d }) := of_view rfl
  unfold State.takeDuplicate
  exact ((countLink s _).trans (ite (refl _) (announced _ _ _ _))).trans (stopped _ _)

theorem judgeTelegram (s : State) (bits : List Bit) : KeepsLink s (s.judgeTelegram bits) := by
  unfold State.judgeTelegram
  refine ite (countLink s _) (ite (countLink s _) (ite (takeDuplicate s) ?_))
  split
  · exact takePeer s _ _
  · exact countLink s _

/-- A start bit seen starts an ARMED unit too, voids its attempt, or is taken by a unit that is not ARMED (R129, R132). -/
theorem startBit (s : State) : KeepsLink s s.startBit := by
  have seen (v : State) (d : Instant) : KeepsLink v (v.mapLink fun l => { l with telegram := some d, holdOff := none }) :=
    mapLink_unread v fun _ => rfl
  refine (advanceTo s _).trans (t := s.toStartBit) ?_
  unfold State.startBit
  dsimp only
  split
  · next start c hown => exact of_fits fun hs => hs.startSending (State.ownStart_some hown).1 c start
  · split
    · next harmed =>
      refine ((seen _ s.toStartBit.clock).trans (of_fits fun hs => ?_)).trans (countLink _ _)
      exact hs.backToDue (fun hoff => Transmitter.noConfusion ((eq_of_beq harmed).symm.trans hoff))
    · exact seen _ _

/-! ### The staged application (R138, R167 to R169) -/

theorem tryChannel (s : State) (n : Index) : KeepsLink s (s.tryChannel n) :=
  ite ((of_view (by rfl)).trans (handChannel _ _ n)) (refl s)

theorem applyPoint (s : State) (m : Index) (new : PointSettings) : KeepsLink s (s.applyPoint m new) := by
  have judged (v : State) (p : Option Index) : KeepsLink v (v.judgeAttached p) := of_apart (v.judgeAttached_apart p)
  have reconfirmed (v : State) : KeepsLink v v.reconfirm := of_apart v.reconfirm_apart
  refine (of_view (t := (s.mapActive fun c => { c with points := put c.points m new }).setPoint m
    ((s.point m).applied (s.pointSet m) new)) rfl).trans (ite (refl _) (ite ?_ ?_))
  · exact ((judged _ _).trans (judged _ _)).trans (reconfirmed _)
  · exact ((reconfirmed _).trans (judged _ _)).trans (judged _ _)

theorem takePoint (s : State) (m : Index) : KeepsLink s (s.takePoint m) := (of_view (by rfl)).trans (applyPoint _ m _)

theorem tryPoint (s : State) (m : Index) : KeepsLink s (s.tryPoint m) := ite (takePoint s m) (refl s)

theorem tryTopology (s : State) : KeepsLink s s.tryTopology := by
  have happly (v : State) (new : TopologySettings) : KeepsLink v (v.applyTopology new) := by
    refine ((of_view (by rfl)).trans (foldl (f := State.rederive v.settings.active.topology) (fun t p => ?_) (upTo 8)
      (v.mapActive fun c => { c with topology := new }))).trans
        (of_apart ((State.evaluateAll_apart _).trans (State.replaceSets_apart _)))
    exact (of_view (by rfl)).trans (derive (t.setPosition p _) p)
  exact ite ((of_view (by rfl)).trans (happly _ _)) (refl s)

theorem tryLink (s : State) : KeepsLink s s.tryLink := by
  have happly (v : State) (new : LinkSettings) : KeepsLink v (v.applyLink new) := by
    have applied : KeepsLink v ((v.mapActive fun c => { c with link := new }).mapLink fun l =>
        l.applied v.settings.active.link new v.clock) := of_fits fun hs => hs.applied v.clock
    unfold State.applyLink
    exact (applied.trans (foldl (f := fun u n => State.post u .peerState n PeerState.waiting.code)
      (fun t n => post t _ n _) _ _)).trans (handLinkInputs v _)
  exact ite ((of_view (by rfl)).trans (happly _ _)) (refl s)

theorem tryStation (s : State) : KeepsLink s s.tryStation := ite (of_view rfl) (refl s)

theorem dropImage (s : State) : KeepsLink s s.dropImage := ite (refl s) (of_view rfl)

theorem applyDone (s : State) : KeepsLink s s.applyDone := by
  have hdone : KeepsLink s (({ s with settings := { s.settings with doneOwed := false } } : State).post
      .applyDone 0 s.settings.serial).dropImage := (of_view (by rfl)).trans (dropImage _)
  unfold State.applyDone
  exact ite (hdone.trans (changeState _ _)) hdone

theorem finishApply (before s : State) : KeepsLink s (before.finishApply s) := ite (applyDone s) (refl s)

theorem forgetCaptured (s : State) (which : Index → Bool) : KeepsLink s (s.forgetCaptured which) :=
  foldl (f := fun t n => State.setChannel t n { t.channel n with captured := none }) (fun _ _ => of_view (by rfl)) _ s

theorem acceptCommit (s : State) : KeepsLink s s.acceptCommit := by
  -- The parts at their safe points, then APPLY_DONE if none waits.
  have parts (v : State) : KeepsLink v
      ((upTo 4).foldl State.tryPoint ((upTo 16).foldl State.tryChannel v)).tryTopology.tryLink :=
    ((foldl tryChannel _ v).trans (foldl tryPoint _ _)).trans ((tryTopology _).trans (tryLink _))
  have done (v : State) : KeepsLink v (if v.applying then v
      else if v.sched.doneAfterReply then { v with settings := { v.settings with doneOwed := true } }
      else v.applyDone) := ite (refl v) (ite (of_view (by rfl)) (applyDone v))
  unfold State.acceptCommit
  exact (((of_view (by rfl)).trans (forgetCaptured _ _)).trans (parts _)).trans (done _)

/-! ### The store and the restart (R154, R170 to R172) -/

theorem endWrite (s : State) (c : WriteContent) (o : WriteOutcome) : KeepsLink s (s.endWrite c o) := by
  have good (v : State) : KeepsLink v (v.storeGood c) := by cases c <;> exact of_view (by rfl)
  have bad (v : State) : KeepsLink v (v.storeBad c) := by cases c <;> exact of_view (by rfl)
  cases o with
  | verified => exact ((of_view (by rfl)).trans (good s.freeStore)).trans (of_view (by rfl))
  | corrupted => exact ((of_view (by rfl)).trans (bad s.freeStore)).trans (of_view (by rfl))
  | unchanged => exact of_view (by rfl)

theorem chooseWrite (s : State) : KeepsLink s s.chooseWrite := by
  unfold State.chooseWrite
  refine ite (of_view (by rfl)) ?_
  split
  · exact of_view (by rfl)
  · exact ite ((of_view (by rfl)).trans (dropImage _)) (refl s)

/-- Without supply the link is off, whatever number the unit has (R154). -/
theorem losePower (s : State) : KeepsLink s s.losePower :=
  of_fits fun _ => Link.fresh_fits 0 [] fun _ => rfl

/-- A restart sets the link up anew (R140). -/
theorem restart (s t : State) (cause : ResetCause) : KeepsLink s (t.restart cause) :=
  of_fits fun _ => Link.fresh_fits t.store.loadedSettings.link.unit _ id

theorem resetPart (s : State) (cause : ResetCause) : KeepsLink s (s.resetPart cause) :=
  restart s s.completeWrites cause

/-! ### The station port (R174, R178, R179) -/

/-- What follows a reply's last byte (R168, R169, R179). -/
theorem afterReply (s : State) (restart : Bool) : KeepsLink s (s.afterReply restart) := by
  have hstation : KeepsLink s (s.finishApply s.tryStation) := (tryStation s).trans (finishApply s _)
  exact ite (resetPart s _) (ite (hstation.trans (applyDone _)) hstation)

theorem endReply (s : State) : KeepsLink s s.endReply := by
  have hbegun : KeepsLink s (if s.port.transmitting then s else s.beginReply) :=
    ite (refl s) ((advanceTo s _).trans (of_view (by rfl)))
  exact hbegun.trans ((advanceTo _ _).trans (of_view (by rfl)))

theorem setPartTime (s : State) (v : Nat) : KeepsLink s (s.setPartTime v) := of_view rfl

theorem broadcastTime (s : State) (body : List Byte) : KeepsLink s (s.broadcastTime body) :=
  ite (of_view rfl) (ite (ite (of_view rfl) (of_view rfl)) (setPartTime s _))

/-- An addressed request keeps what the owning block's act keeps. -/
theorem request {kind : Nat} {body : List Byte} {act : State → Handled} (h : ∀ t, KeepsLink t (act t).state) :
    KeepsLink s (s.request kind body act) := by
  have hbegin : KeepsLink s s.beginHandling := by
    rw [State.beginHandling_eq]
    exact of_view rfl
  have hjudged : KeepsLink s (s.beginHandling.judgeRequest kind body act).state := by
    unfold State.judgeRequest
    split
    · exact hbegin
    · exact hbegin.trans (h _)
  exact ite (refl s) (ite (of_view rfl) (hjudged.trans (of_view rfl)))

/-- Both of an act's answers keep the rule. -/
theorem handled_ite {c : Prop} [Decidable c] {a b : Handled} (ha : KeepsLink s a.state) (hb : KeepsLink s b.state) :
    KeepsLink s (if c then a else b).state := by
  split
  · exact ha
  · exact hb

end KeepsLink

end Sys2Proof.Machine
end

section
/-! Every command keeps the rule on the cross link, and so does every step. -/

namespace Sys2Proof.Machine

open Wire

variable {s : State}

/-- Whatever next state is answered, the rule on the cross link holds in it if it held before. -/
def AnswersLink (s : State) (o : Host.Outcome State Fault Refusal) : Prop := ∀ t, o = .next t → KeepsLink s t

namespace AnswersLink

theorem next {t : State} (h : KeepsLink s t) : AnswersLink s (.next t) := by
  intro u hu
  cases hu
  exact h

/-- A command keeps what its effect keeps. -/
theorem conclude {f : State → State} (h : KeepsLink s (f s)) : AnswersLink s (conclude s f) := by
  unfold Machine.conclude
  split
  · exact next (h.trans (.settle s _))
  · exact next (.refl s)

/-- A change of the wiring, with the supply present or without it. -/
theorem wired {f : State → State} {t : State} (hf : (f s).linkView = s.linkView) (ht : t.linkView = s.linkView) :
    AnswersLink s (if s.powered then Machine.conclude s f else .next t) := by
  split
  · exact conclude (.of_view hf)
  · exact next (.of_view ht)

/-- A request's command keeps what the act keeps. -/
theorem request {kind : Nat} {body : List Byte} {act : State → State → Handled}
    (h : ∀ t, KeepsLink t (act s t).state) :
    AnswersLink s (Machine.conclude s fun s => s.request kind body (act s)) :=
  conclude (.request h)

/-- A request that only reads keeps everything. -/
theorem read {kind : Nat} {body : List Byte} {answer : State → State → List Byte} :
    AnswersLink s (Machine.conclude s fun s => s.request kind body fun t => accept t (answer s t)) :=
  .request (act := fun s t => accept t (answer s t)) fun t => .refl t

end AnswersLink

variable (s)

/-! ### Power, reset and state control -/

theorem execPowerOn_link : AnswersLink s (execPowerOn s) := by
  unfold execPowerOn
  split
  · exact .conclude (.refl s)
  · exact .next (.restart s _ _)

theorem execPowerLoss_link : AnswersLink s (execPowerLoss s) := by
  unfold execPowerLoss
  split
  · exact .next (.losePower s)
  · exact .next (.refl s)

theorem execRestartTerminalPress_link : AnswersLink s (execRestartTerminalPress s) := by
  refine .conclude ?_
  split
  · exact .refl s
  · exact (KeepsLink.advanceTo s _).trans (.resetPart _ _)

theorem execRestartTerminalRelease_link : AnswersLink s (execRestartTerminalRelease s) := by
  refine .conclude ?_
  split
  · exact .refl s
  · exact (KeepsLink.advanceTo s _).trans (.of_view rfl)

theorem execStartingEnd_link : AnswersLink s (execStartingEnd s) :=
  .conclude (.ite (.refl s)
    (((KeepsLink.advanceTo s _).trans (.of_apart (State.recompute_apart _))).trans (.changeState _ _)))

theorem execTestTimeout_link : AnswersLink s (execTestTimeout s) := by
  refine .conclude ?_
  split
  · exact ((KeepsLink.advanceTo s _).trans (.post _ _ _ _)).trans (.changeState _ _)
  · exact .refl s

/-! ### Light front end and supervision -/

theorem execLightSample_link (raw : List Nat) : AnswersLink s (execLightSample raw s) :=
  .conclude (.ite (.refl s) (((KeepsLink.advanceTo s _).trans (.of_view (by rfl))).trans
    (.foldl (fun t n => .sampleChannel t n _) _ _)))

theorem execBackgroundUpdate_link : AnswersLink s (execBackgroundUpdate s) := .conclude (.ite (.refl s) (.of_view rfl))

theorem execSupervisionSlot_link (n : Index) : AnswersLink s (execSupervisionSlot n s) := by
  have hslot : KeepsLink s (s.toSlot n) := .ite (.advanceTo s _) ((KeepsLink.advanceTo s _).trans (.advanceTo _ _))
  exact .conclude (.ite (.refl s) (.ite (hslot.trans (.of_view rfl)) (.refl s)))

theorem execBurstEnd_link (n : Index) : AnswersLink s (execBurstEnd n s) := by
  have judged (t : State) : KeepsLink t (t.judgeHealth n) :=
    .ite (.refl t) ((KeepsLink.of_view (by rfl)).trans (.handChannel t _ n))
  refine .conclude ?_
  split
  · exact .refl s
  · exact .ite (.refl s) ((KeepsLink.of_view (by rfl)).trans (judged _))

theorem execCaptureBurstStart_link (n : Index) : AnswersLink s (execCaptureBurstStart n s) := by
  refine .conclude ?_
  split
  · exact .refl s
  · exact .ite ((KeepsLink.advanceTo s _).trans (.of_view rfl)) (.refl s)

theorem execCaptureEnd_link (n : Index) : AnswersLink s (execCaptureEnd n s) := by
  have judged (t : State) (candidate : Nat) : KeepsLink t (t.judgeCandidate n candidate) :=
    .ite (.of_view rfl) (.of_view rfl)
  refine .conclude ?_
  split
  · exact .refl s
  · exact .ite (.refl s) (((KeepsLink.advanceTo s _).trans (judged _ _)).trans (.of_view rfl))

/-! ### Current front end and position inputs -/

theorem execCurrentSample_link (samples : List Int) : AnswersLink s (execCurrentSample samples s) :=
  .conclude (.ite (.refl s) (((KeepsLink.advanceTo s _).trans (.of_view (by rfl))).trans
    (.foldl (fun t m => .handPoint _ t m) _ _)))

theorem execOcHoldExpiry_link (m : Index) : AnswersLink s (execOcHoldExpiry m s) :=
  .conclude (.ite ((KeepsLink.of_view (by rfl)).trans (.handPoint s _ m)) (.refl s))

theorem execCpClear_link (m : Index) : AnswersLink s (execCpClear m s) :=
  .conclude (.ite ((KeepsLink.of_view (by rfl)).trans (.handPoint s _ m)) (.refl s))

theorem execDebounceExpiry_link (p : Index) (c : Contact) : AnswersLink s (execDebounceExpiry p c s) := by
  refine .conclude ?_
  split
  · exact .refl s
  · exact .setPosition_derivePosition s _ p _

theorem execDiscrepancyExpiry_link (p : Index) : AnswersLink s (execDiscrepancyExpiry p s) := by
  refine .conclude ?_
  split
  · exact .refl s
  · exact .setPosition_derivePosition s _ p _

/-! ### Order unit -/

variable {s} in
/-- An order's timer runs out (R108, R110, R115). -/
theorem KeepsLink.order_advanceTo {t : State} {d : Instant} (h : t.apart = (s.advanceTo d).apart) : KeepsLink s t :=
  (KeepsLink.advanceTo s d).trans (.of_apart h)

theorem execMinPulseExpiry_link (p : Index) : AnswersLink s (execMinPulseExpiry p s) := by
  refine .conclude ?_
  split
  · exact .refl s
  · exact .ite (.order_advanceTo (State.release_apart _ p))
      (.ite (.order_advanceTo (State.confirm_apart _ _)) (.refl s))

theorem execBfDeadline_link (p : Index) : AnswersLink s (execBfDeadline p s) := by
  refine .conclude ?_
  split
  · exact .refl s
  · exact .ite (.order_advanceTo ((State.judgeOrder_apart _ p).trans (State.failOrder_apart _ _))) (.refl s)

theorem execDriveTimeout_link (p : Index) : AnswersLink s (execDriveTimeout p s) := by
  refine .conclude ?_
  split
  · exact .refl s
  · exact .ite (.order_advanceTo (State.stallOrder_apart _ _)) (.refl s)

theorem execLockoutResetPress_link : AnswersLink s (execLockoutResetPress s) := by
  refine .conclude ?_
  split
  · exact .refl s
  · exact ((KeepsLink.advanceTo s _).trans (.of_view (by rfl))).trans (.ite (.refl _) (.clearLockouts _ _))

theorem execLockoutButtonRelease_link : AnswersLink s (execLockoutButtonRelease s) := by
  refine .conclude ?_
  split
  · exact .refl s
  · exact (KeepsLink.advanceTo s _).trans (.of_view rfl)

/-! ### Cross link -/

/-- An IDLE transmitter becomes DUE (R127). -/
theorem execHeartbeatDue_link : AnswersLink s (execHeartbeatDue s) := by
  have due (v : State) (h : v.link.tx = .idle) : KeepsLink v (v.mapLink fun l => { l with tx := .due }) :=
    .of_fits fun hs => hs.rest (by rw [h]; decide) (.inr rfl) rfl
  refine .conclude ?_
  split
  · next hidle =>
    exact (KeepsLink.advanceTo s _).trans (due _ ((congrArg Link.tx (s.advanceTo_link _)).trans (eq_of_beq hidle)))
  · exact .refl s

theorem execAttemptVoided_link : AnswersLink s (execAttemptVoided s) := .conclude (.ite (.startBit s) (.refl s))

theorem execStartBitSeen_link : AnswersLink s (execStartBitSeen s) := .conclude (.ite (.startBit s) (.refl s))

/-- A DUE transmitter takes its snapshot (R128). -/
theorem execSendDecide_link : AnswersLink s (execSendDecide s) := by
  refine .conclude ?_
  split
  · next h =>
    simp only [Bool.and_eq_true] at h
    obtain ⟨⟨hdue, -⟩, -⟩ := h
    exact (KeepsLink.advanceTo s _).trans
      (.of_fits fun hs => hs.decide ((congrArg Link.tx (s.advanceTo_link _)).trans (eq_of_beq hdue)) _ _)
  · exact .refl s

/-- An ARMED transmitter drives its start bit (R128). -/
theorem execTelegramStart_link : AnswersLink s (execTelegramStart s) := by
  refine .conclude ?_
  split
  · next harmed _ _ =>
    exact (KeepsLink.advanceTo s _).trans
      (.of_fits fun hs => hs.startSending ((congrArg Link.tx (s.advanceTo_link _)).trans harmed) _ _)
  · exact .refl s

variable {s} in
/-- A SENDING transmitter gives its telegram up, and counts it (R130). -/
theorem KeepsLink.stopSending (h : (s.link.tx == .sending) = true) (f : LinkCounters → LinkCounters) :
    KeepsLink s ((s.mapLink Link.backToDue).countLink f) := by
  have hstop : KeepsLink s (s.mapLink Link.backToDue) :=
    .of_fits fun hs => hs.backToDue (by rw [eq_of_beq h]; decide)
  exact hstop.trans (.countLink _ f)

theorem execArbitrationLost_link : AnswersLink s (execArbitrationLost s) := by
  refine .conclude ?_
  split
  · next hsending => exact .stopSending hsending _
  · exact .refl s

theorem execBitError_link (b : Bool) : AnswersLink s (execBitError b s) := by
  refine .conclude ?_
  split
  · next hsending => exact (KeepsLink.stopSending hsending _).trans (.ite (.mapLink_unread _ fun _ => rfl) (.refl _))
  · exact .refl s

/-- A SENDING transmitter has sent, and is IDLE or due again (R131). -/
theorem execTelegramCompleted_link : AnswersLink s (execTelegramCompleted s) := by
  refine .conclude ?_
  split
  · next hsending _ _ =>
    refine (KeepsLink.advanceTo s _).trans (.of_fits fun hs => hs.rest ?_ ?_ rfl)
    · rw [s.advanceTo_link, hsending]
      decide
    · dsimp only [State.mapLink]
      split
      · exact .inl rfl
      · exact .inr rfl
  · exact .refl s

theorem execTelegramReceived_link (bits : List Bit) : AnswersLink s (execTelegramReceived bits s) := by
  have idle (v : State) (d : Instant) : KeepsLink v (v.mapLink fun l => l.idleFrom d) := .mapLink_unread v fun _ => rfl
  refine .conclude ?_
  split
  · exact .refl s
  · exact .ite (.refl s) (((KeepsLink.advanceTo s _).trans (idle _ _)).trans (.judgeTelegram _ bits))

theorem execLineDisturbance_link (bits : Nat) : AnswersLink s (execLineDisturbance s bits) := by
  have disturbed (v : State) (d : Instant) :
      KeepsLink v (v.mapLink fun l => { l with recessive := d, disturbed := some d }) := .mapLink_unread v fun _ => rfl
  exact .conclude (.ite (((KeepsLink.advanceTo s _).trans (disturbed _ _)).trans (.countLink _ _)) (.refl s))

/-- A peer's silence makes its record LOST (R135). -/
theorem execPeerSilenceExpiry_link (n : Index) : AnswersLink s (execPeerSilenceExpiry n s) := by
  refine .conclude ?_
  split
  · exact .refl s
  · exact (((KeepsLink.advanceTo s _).trans (.mapPeer _ n Peer.lose_fits)).trans (.post _ _ _ _)).trans
      (.handLinkInputs s _)

theorem execSuspensionEnd_link : AnswersLink s (execSuspensionEnd s) := by
  refine .conclude ?_
  split
  · exact .refl s
  · exact (KeepsLink.advanceTo s _).trans (.mapLink_unread _ fun _ => rfl)

theorem execDuplicateAlarmExpiry_link : AnswersLink s (execDuplicateAlarmExpiry s) := by
  unfold execDuplicateAlarmExpiry
  refine .conclude ?_
  split
  · exact (KeepsLink.advanceTo s _).trans (.mapLink_unread _ fun _ => rfl)
  · exact .refl s

/-! ### Staged application and store -/

theorem execChannelGroupApply_link (n : Index) : AnswersLink s (execChannelGroupApply n s) :=
  .conclude ((KeepsLink.tryChannel s n).trans (.finishApply s _))

theorem execPointGroupApply_link (m : Index) : AnswersLink s (execPointGroupApply m s) := by
  have hat : KeepsLink s (if s.unguarded then s else s.toCurrentInstant) :=
    .ite (.refl s) (.ite (.refl s) (.advanceTo s _))
  exact .conclude (.ite ((hat.trans (.takePoint _ m)).trans (.finishApply s _)) (.refl s))

theorem execTopologyGroupApply_link : AnswersLink s (execTopologyGroupApply s) :=
  .conclude ((KeepsLink.tryTopology s).trans (.finishApply s _))

theorem execLinkGroupApply_link : AnswersLink s (execLinkGroupApply s) :=
  .conclude ((KeepsLink.tryLink s).trans (.finishApply s _))

theorem execStoreWriteBegin_link : AnswersLink s (execStoreWriteBegin s) :=
  .conclude (.ite (.refl s) (.chooseWrite s))

theorem execStoreWriteEnd_link (o : WriteOutcome) : AnswersLink s (execStoreWriteEnd o s) := by
  refine .conclude ?_
  split
  · exact .refl s
  · exact (KeepsLink.advanceTo s _).trans (.endWrite _ _ o)

/-! ### Station port -/

theorem execFrameGapTimeout_link (read : List Byte) : AnswersLink s (execFrameGapTimeout s read) :=
  .conclude (.ite (.of_view rfl) (.refl s))

theorem execFramingDiscard_link (cause : FramingCause) (read : List Byte) :
    AnswersLink s (execFramingDiscard cause s read) := .conclude (.ite (.of_view rfl) (.refl s))

theorem execFrameCheckFailure_link : AnswersLink s (execFrameCheckFailure s) :=
  .conclude (.ite (.refl s) (.of_view rfl))

theorem execForeignFrame_link (address kind : Byte) : AnswersLink s (execForeignFrame address kind s) :=
  .conclude (.ite (.refl s) (.ite (.of_view rfl) (.ite (.of_view rfl) (.ite (.of_view rfl) (.refl s)))))

theorem execOverrunDiscard_link : AnswersLink s (execOverrunDiscard s) := .conclude (.ite (.of_view rfl) (.refl s))

theorem execIgnoredBroadcast_link (kind : Byte) : AnswersLink s (execIgnoredBroadcast kind s) :=
  .conclude (.ite (.refl s) (.ite (.of_view rfl) (.ite (.of_view rfl) (.refl s))))

theorem execUnknownKind_link (kind : Byte) : AnswersLink s (execUnknownKind kind s) :=
  .conclude (.ite (.refl s) (.request fun t => .refl t))

theorem execReplyStart_link : AnswersLink s (execReplyStart s) :=
  .conclude (.ite ((KeepsLink.advanceTo s _).trans (.of_view rfl)) (.refl s))

theorem execReplySent_link : AnswersLink s (execReplySent s) :=
  .conclude (.ite ((KeepsLink.endReply s).trans (.afterReply _ _)) (.refl s))

theorem execTimeSet_link (broadcast : Bool) (body : List Byte) : AnswersLink s (execTimeSet broadcast body s) :=
  .conclude (.ite (.ite (.refl s) (.ite (.of_view rfl) (.broadcastTime s body))) (.request fun t => .setPartTime t _))

/-! ### What the requests do (R157, R166, R167) -/

namespace KeepsLink

variable {s} in
/-- An accepted request keeps what its effect keeps. -/
theorem accept {t : State} (h : KeepsLink s t) (body : List Byte) : KeepsLink s (Machine.accept t body).state := h

theorem commit : KeepsLink s s.commit.state := by
  unfold State.commit
  refine handled_ite (refl s) (handled_ite (refl s) (handled_ite (refl s) (handled_ite (refl s) ?_)))
  split
  · exact refl s
  · exact accept (acceptCommit s) _

theorem discardPending : KeepsLink s s.discardPending.state :=
  handled_ite (refl s) ((of_view (by rfl)).trans (forgetCaptured _ _))

theorem readRecord (body : List Byte) : KeepsLink s (s.readRecord body).state := by
  unfold State.readRecord
  split <;> exact refl s

theorem readSetting (body : List Byte) : KeepsLink s (s.readSetting body).state := by
  unfold State.readSetting
  dsimp only
  split <;> exact refl s

theorem ackRecord (number : Nat) : KeepsLink s (s.ackRecord number).state := by
  unfold State.ackRecord
  split
  · exact refl s
  · split
    · exact refl s
    · exact ite (of_view rfl) (of_view rfl)
    · exact refl s

theorem writeSetting (body : List Byte) : KeepsLink s (s.writeSetting body).state := by
  unfold State.writeSetting
  dsimp only
  split
  · exact refl s
  · split
    · exact refl s
    · exact of_view rfl

theorem setProtection (target : Nat) : KeepsLink s (s.setProtection target).state := by
  unfold State.setProtection
  split
  · exact changeState s _
  · exact handled_ite (changeState s _) (refl s)
  · exact changeState s _
  · exact changeState s _
  · exact refl s

/-- A channel's record replaced, and the channel handed over. -/
theorem channelChanged (n : Index) (c : Channel) : KeepsLink s (s.handChannel (s.setChannel n c) n) :=
  (of_view (by rfl)).trans (handChannel s _ n)

theorem channelOut (n : Index) : KeepsLink s (s.channelOut n).state := by
  unfold State.channelOut
  split
  case h_1 | h_2 | h_3 => exact refl s
  all_goals exact channelChanged s n _

theorem channelIn (n : Index) : KeepsLink s (s.channelIn n).state := by
  unfold State.channelIn
  split
  case h_3 => exact channelChanged s n _
  all_goals exact refl s

theorem captureReference (n : Index) : KeepsLink s (s.captureReference n).state := by
  unfold State.captureReference
  dsimp only
  split
  case h_8 => exact handled_ite (refl s) (of_view rfl)
  all_goals exact refl s

theorem simulateLight (n : Index) (on : Bool) : KeepsLink s (s.simulateLight n on).state := by
  refine handled_ite (refl s) ?_
  split
  case h_1 | h_2 | h_3 => exact refl s
  all_goals exact channelChanged s n _

theorem simulateCurrent (m : Index) (on : Bool) : KeepsLink s (s.simulateCurrent m on).state :=
  handled_ite (refl s) (ite (of_view rfl) ((of_view (by rfl)).trans (of_apart (State.evaluatePoint_apart _ m))))

theorem testTrip (set : List Index) : KeepsLink s (s.testTrip set).state := by
  refine handled_ite (refl s) ?_
  split
  · exact handled_ite (refl s) (handled_ite (refl s) (of_apart (s.requestOrder_apart _ _ _)))
  · exact refl s

theorem cancelOrder (p : Index) : KeepsLink s (s.cancelOrder p).state := by
  unfold State.cancelOrder
  split
  · exact refl s
  · exact handled_ite (of_apart (s.release_apart p)) (refl s)

end KeepsLink

theorem execFetchNotices_link (body : List Byte) : AnswersLink s (execFetchNotices body s) :=
  .request (act := fun _ => State.fetchNotices) fun _ => .of_view rfl

theorem execRestart_link (body : List Byte) : AnswersLink s (execRestart body s) :=
  .request (act := fun _ t => accept (t.mapPort fun p => { p with restartAfter := true }) []) fun _ => .of_view rfl

/-! ### Every command, every step -/

/-- Every command keeps the rule on the cross link. -/
theorem exec_link (c : Instr) : AnswersLink s (exec c s) := by
  cases c with
  | powerOn => exact execPowerOn_link s
  | powerLoss => exact execPowerLoss_link s
  | restartTerminalChange b => exact .wired rfl rfl
  | restartTerminalPress => exact execRestartTerminalPress_link s
  | restartTerminalRelease => exact execRestartTerminalRelease_link s
  | startingEnd => exact execStartingEnd_link s
  | testTimeout => exact execTestTimeout_link s
  | lightSample raw => exact execLightSample_link s raw
  | backgroundUpdate => exact execBackgroundUpdate_link s
  | supervisionSlot n => exact execSupervisionSlot_link s n
  | burstEnd n => exact execBurstEnd_link s n
  | captureBurstStart n => exact execCaptureBurstStart_link s n
  | captureEnd n => exact execCaptureEnd_link s n
  | currentSample samples => exact execCurrentSample_link s samples
  | ocHoldExpiry m => exact execOcHoldExpiry_link s m
  | cpClear m => exact execCpClear_link s m
  | contactRawChange p c on => exact .wired rfl rfl
  | debounceExpiry p c => exact execDebounceExpiry_link s p c
  | discrepancyExpiry p => exact execDiscrepancyExpiry_link s p
  | minPulseExpiry p => exact execMinPulseExpiry_link s p
  | bfDeadline p => exact execBfDeadline_link s p
  | driveTimeout p => exact execDriveTimeout_link s p
  | lockoutButtonChange b => exact .wired rfl rfl
  | lockoutResetPress => exact execLockoutResetPress_link s
  | lockoutButtonRelease => exact execLockoutButtonRelease_link s
  | heartbeatDue => exact execHeartbeatDue_link s
  | sendDecide => exact execSendDecide_link s
  | telegramStart => exact execTelegramStart_link s
  | attemptVoided => exact execAttemptVoided_link s
  | startBitSeen => exact execStartBitSeen_link s
  | arbitrationLost => exact execArbitrationLost_link s
  | bitError b => exact execBitError_link s b
  | telegramCompleted => exact execTelegramCompleted_link s
  | telegramReceived bits => exact execTelegramReceived_link s bits
  | lineDisturbance bits => exact execLineDisturbance_link s bits
  | peerSilenceExpiry n => exact execPeerSilenceExpiry_link s n
  | suspensionEnd => exact execSuspensionEnd_link s
  | duplicateAlarmExpiry => exact execDuplicateAlarmExpiry_link s
  | channelGroupApply n => exact execChannelGroupApply_link s n
  | pointGroupApply m => exact execPointGroupApply_link s m
  | topologyGroupApply => exact execTopologyGroupApply_link s
  | linkGroupApply => exact execLinkGroupApply_link s
  | storeWriteBegin => exact execStoreWriteBegin_link s
  | storeWriteEnd o => exact execStoreWriteEnd_link s o
  | frameGapTimeout read => exact execFrameGapTimeout_link s read
  | framingDiscard cause read => exact execFramingDiscard_link s cause read
  | frameCheckFailure => exact execFrameCheckFailure_link s
  | foreignFrame address kind => exact execForeignFrame_link s address kind
  | overrunDiscard => exact execOverrunDiscard_link s
  | ignoredBroadcast kind => exact execIgnoredBroadcast_link s kind
  | unknownKind kind => exact execUnknownKind_link s kind
  | replyStart => exact execReplyStart_link s
  | replySent => exact execReplySent_link s
  | identify body => exact (.read : AnswersLink s (execIdentify body s))
  | status body => exact (.read : AnswersLink s (execStatus body s))
  | readChannel body => exact (.read : AnswersLink s (execReadChannel body s))
  | readPoint body => exact (.read : AnswersLink s (execReadPoint body s))
  | readPosition body => exact (.read : AnswersLink s (execReadPosition body s))
  | readZone body => exact (.read : AnswersLink s (execReadZone body s))
  | readOrders body => exact (.read : AnswersLink s (execReadOrders body s))
  | readPeers body => exact (.read : AnswersLink s (execReadPeers body s))
  | readRecord body => exact (.request fun t => .readRecord t body : AnswersLink s (execReadRecord body s))
  | ackRecord body => exact (.request fun t => .ackRecord t _ : AnswersLink s (execAckRecord body s))
  | fetchNotices body => exact execFetchNotices_link s body
  | readSetting body => exact (.request fun t => .readSetting t body : AnswersLink s (execReadSetting body s))
  | writeSetting body => exact (.request fun t => .writeSetting t body : AnswersLink s (execWriteSetting body s))
  | discard body => exact (.request .discardPending : AnswersLink s (execDiscard body s))
  | commit body => exact (.request .commit : AnswersLink s (execCommit body s))
  | setState body => exact (.request fun t => .setProtection t _ : AnswersLink s (execSetState body s))
  | channelOut body => exact (.request fun t => .channelOut t _ : AnswersLink s (execChannelOut body s))
  | channelIn body => exact (.request fun t => .channelIn t _ : AnswersLink s (execChannelIn body s))
  | captureReference body => exact (.request fun t => .captureReference t _ : AnswersLink s (execCaptureReference body s))
  | simulateLight body => exact (.request fun t => .simulateLight t _ _ : AnswersLink s (execSimulateLight body s))
  | simulateCurrent body => exact (.request fun t => .simulateCurrent t _ _ : AnswersLink s (execSimulateCurrent body s))
  | testTrip body => exact (.request fun t => .testTrip t _ : AnswersLink s (execTestTrip body s))
  | cancelOrder body => exact (.request fun t => .cancelOrder t _ : AnswersLink s (execCancelOrder body s))
  | resetLockout body => exact (.request fun t => .clearLockouts t _ : AnswersLink s (execResetLockout body s))
  | timeSet broadcast body => exact execTimeSet_link s broadcast body
  | restart body => exact execRestart_link s body

/-- Every step keeps the rule on the cross link. -/
theorem step_link : AnswersLink s (step s) := by
  unfold step
  split
  · exact .next (.ite (.advanceTo s _) (.refl s))
  · next c rest _ =>
    intro t ht
    exact (KeepsLink.of_view (by rfl)).trans (exec_link { s with pending := rest } c t ht)

/-- Settles O8: only the link's own commands, an application of the link group, loss of supply and a restart change what the
rule reads, and each of them leaves a controller and peer records that fit. -/
theorem linkAlwaysAgrees : Obligations.LinkAlwaysAgrees := fun s hs t ht => step_link s t ht hs

end Sys2Proof.Machine
end

section
/-! The telegram of a content (R125, R184): what its bits spell, read back. -/

namespace Sys2Proof.Machine

open Wire

/-! ### Numbers and sets as bits -/

@[simp] theorem bitsOf_length (w n : Nat) : (bitsOf w n).length = w := by
  induction w with
  | zero => rfl
  | succ w ih => exact congrArg Nat.succ ih

/-- Reading on from a number already read. -/
theorem foldl_bitsOf (w n a : Nat) :
    (bitsOf w n).foldl (fun m b => 2 * m + b.toNat) a = a * 2 ^ w + n % 2 ^ w := by
  induction w generalizing a with
  | zero => simp [bitsOf, Nat.mod_one]
  | succ w ih =>
    rw [bitsOf, List.foldl_cons, ih, Nat.toNat_testBit, Nat.mod_pow_succ, pow_succ]
    ring

/-- A number of `w` bits is read back from them (R125). -/
theorem natOf_bitsOf {w n : Nat} (h : n < 2 ^ w) : natOf (bitsOf w n) = n := by
  rw [natOf, foldl_bitsOf, Nat.zero_mul, Nat.zero_add, Nat.mod_eq_of_lt h]

/-- The members that the bits of a test pick, whatever bits follow. -/
theorem picked_map_append {α : Type} (l : List α) (f : α → Bool) (rest : List Bit) :
    picked l (l.map f ++ rest) = l.filter f := by
  induction l with
  | nil => rfl
  | cons x l ih =>
    rw [List.filter_cons, ← ih]
    cases hx : f x <;> simp [picked, hx]

theorem Reported.ofCode_code (r : Reported) : Reported.ofCode r.code = r := by cases r <;> rfl

theorem Reported.code_lt (r : Reported) : r.code < 2 ^ 2 := by cases r <;> decide

/-! ### The covered bits -/

theorem upTo_length (n : Nat) : (upTo n).length = n := List.length_range'

theorem requestFlags_length : requestFlags.length = 32 := rfl

theorem Content.bits_length (c : Content) : c.bits.length = 53 := by
  simp [Content.bits, upTo_length, requestFlags_length]

/-- The covered bits of a canonical content spell it. -/
theorem Content.ofBits_bits {c : Content} (h : c.canonical) : Content.ofBits c.bits = c := by
  obtain ⟨hunit, hzones, hcurrents, hrequests⟩ := h
  have hz (rest : List Bit) := picked_map_append (upTo 8) c.zones.contains rest
  have hc (rest : List Bit) := picked_map_append (upTo 8) c.currents.contains rest
  have hr := picked_map_append requestFlags c.requests.contains []
  have htake : c.bits.take 3 = bitsOf 3 c.unit := by simp [Content.bits]
  have hstate : (c.bits.drop 3).take 2 = bitsOf 2 c.state.code := by simp [Content.bits]
  have h5 : c.bits.drop 5 = (upTo 8).map c.zones.contains ++ ((upTo 8).map c.currents.contains ++
      requestFlags.map c.requests.contains) := by simp [Content.bits, List.drop_append]
  have h13 : c.bits.drop 13 = (upTo 8).map c.currents.contains ++ requestFlags.map c.requests.contains := by
    rw [show c.bits.drop 13 = (c.bits.drop 5).drop 8 by rw [List.drop_drop], h5]
    exact List.drop_left' (by simp [upTo_length])
  have h21 : c.bits.drop 21 = requestFlags.map c.requests.contains ++ [] := by
    rw [show c.bits.drop 21 = (c.bits.drop 13).drop 8 by rw [List.drop_drop], h13, List.append_nil]
    exact List.drop_left' (by simp [upTo_length])
  unfold Content.ofBits
  rw [htake, hstate, h5, h13, h21, hz, hc, hr, ← hzones, ← hcurrents, ← hrequests, natOf_bitsOf hunit,
    natOf_bitsOf c.state.code_lt, Reported.ofCode_code]

/-! ### The 73 bits after the start bit -/

theorem Content.afterStart_take (c : Content) : c.afterStart.take 53 = c.bits := by
  simp [Content.afterStart, c.bits_length]

theorem Content.afterStart_drop (c : Content) :
    c.afterStart.drop 53 = bitsOf 16 (check c.bits).toNat ++ [true, true, true, true] := by
  simp [Content.afterStart, c.bits_length]

theorem Content.afterStart_check (c : Content) : (c.afterStart.drop 53).take 16 = bitsOf 16 (check c.bits).toNat := by
  rw [c.afterStart_drop, List.take_left' (bitsOf_length 16 _)]

theorem Content.afterStart_end (c : Content) : c.afterStart.drop 69 = [true, true, true, true] := by
  rw [show c.afterStart.drop 69 = (c.afterStart.drop 53).drop 16 by rw [List.drop_drop], c.afterStart_drop,
    List.drop_left' (bitsOf_length 16 _)]

/-- Settles O40: each field's bits stand at their place and spell it. -/
theorem telegramReadsBack : Obligations.TelegramReadsBack := by
  intro c hc
  refine ⟨?_, ?_, ?_, ?_⟩
  · simp [Content.afterStart, c.bits_length]
  · rw [endBitsGood, c.afterStart_end]
    rfl
  · rw [telegramCheckGood, c.afterStart_check, c.afterStart_take, natOf_bitsOf (check c.bits).isLt]
    exact beq_self_eq_true _
  · rw [c.afterStart_take]
    exact Content.ofBits_bits hc

end Sys2Proof.Machine
end

section
/-! The outgoing content (R126): when a unit sends flags, and whose each of them is. -/

namespace Sys2Proof.Machine

open Wire

variable {s : State}

/-- Flags are sent in IN_SERVICE and TEST alone (R126). -/
theorem Protection.reported_usable (p : Protection) : p.reported.usable = true ↔ p = .inService ∨ p = .test := by
  cases p <;> decide

theorem mem_presentEntries {e : RemoteEntry} {l : List (Option RemoteEntry)} : e ∈ presentEntries l ↔ some e ∈ l := by
  simp [presentEntries]

theorem mem_requestFlags {e : RemoteEntry} : e ∈ requestFlags ↔ e.unit ∈ upTo 4 ∧ e.position ∈ upTo 8 := by
  constructor
  · intro h
    obtain ⟨n, hn, he⟩ := List.mem_flatMap.mp h
    obtain ⟨p, hp, rfl⟩ := List.mem_map.mp he
    exact ⟨hn, hp⟩
  · exact fun ⟨hn, hp⟩ => List.mem_flatMap.mpr ⟨e.unit, hn, List.mem_map.mpr ⟨e.position, hp, rfl⟩⟩

/-- A zone's exported light is the light of a member (R96). -/
theorem State.exportedLight_iff {z : Index} : s.exportedLight z = true ↔
    ∃ n ∈ (s.zoneSet z).members, (s.channel n).detection = .lit ∨ (s.channel n).detection = .steady := by
  simp [State.exportedLight, State.lightFlag, Detection.lightFlag_iff]

/-- A request flag is held by a zone or by an order (R77, R112). -/
theorem State.requestHeld_iff {e : RemoteEntry} : s.requestHeld e = true ↔
    (∃ z ∈ upTo 8, (s.zone z).remoteHeld = true ∧ some e ∈ (s.zoneSet z).remoteList) ∨
      ∃ o ∈ s.orders, o.remoteHeld = true ∧ some e ∈ (s.positionSet o.position).remoteBackups := by
  simp [State.requestHeld, mem_presentEntries]

/-- Settles O41: each set of the content is a filter, whose test is the rule's own. -/
theorem outgoingContentIsComposed : Obligations.OutgoingContentIsComposed := by
  intro s
  have hsends := s.control.state.reported_usable
  refine ⟨rfl, ?_, fun i => ?_, fun i => ?_, fun e => ?_⟩
  · show s.control.state.reported = _
    cases s.control.state <;> rfl
  · simp only [State.content, List.mem_filter, Bool.and_eq_true, hsends, List.any_eq_true, beq_iff_eq,
      State.exportedLight_iff]
  · simp only [State.content, List.mem_filter, Bool.and_eq_true, hsends, List.any_eq_true, beq_iff_eq]
  · simp only [State.content, List.mem_filter, Bool.and_eq_true, hsends, mem_requestFlags, State.requestHeld_iff,
      and_assoc]

end Sys2Proof.Machine
end

section
/-! The sending of telegrams (R127, R128, R131) and of attempts given up (R129, R130, R132): each command by the transmitter's
state. -/

namespace Sys2Proof.Machine

open Wire

variable {s : State} {c : Content} {start d : Instant}

/-- Time passes, and then the controller changes. -/
theorem State.mapLink_advanceTo_eq (s : State) (d : Instant) (f : Link → Link) :
    (s.advanceTo d).mapLink f = { s.advanceTo d with link := f s.link } := by
  rw [State.mapLink, State.advanceTo_link]

/-! ### The sending cycle -/

section
variable (hp : s.powered = true)
include hp

/-- HEARTBEAT_DUE (R127). -/
theorem exec_heartbeatDue : exec .heartbeatDue s = .next (settle s (if s.link.tx = .idle then
    { s.advanceTo (max s.link.started (s.link.lastStart.getD 0) + 5 * Config.ms) with
      link := { s.link with tx := .due } }
    else s)) := by
  refine (conclude_powered s _ hp).trans ?_
  simp only [State.mapLink_advanceTo_eq, beq_iff_eq]
  rfl

/-- SEND_DECIDE (R128). -/
theorem exec_sendDecide : exec .sendDecide s = .next (settle s
    (if s.link.tx = .due ∧ s.link.suspended = none ∧ s.link.telegram = none then
      { s.advanceTo s.link.decideFrom with
        link := { s.link with
          tx := .armed, snapshot := some s.content, decided := some (s.advanceTo s.link.decideFrom).clock
          holdOff := none } }
    else s)) := by
  refine (conclude_powered s _ hp).trans ?_
  simp only [State.mapLink_advanceTo_eq, Bool.and_eq_true, beq_iff_eq, Option.isNone_iff_eq_none, and_assoc]

/-- TELEGRAM_START at an ARMED unit with no telegram in progress (R128). -/
theorem exec_telegramStart (ha : s.link.tx = .armed) (hc : s.link.snapshot = some c) (ht : s.link.telegram = none) :
    exec .telegramStart s = .next (settle s { s.advanceTo (s.link.startFrom s.clock) with
      link := s.link.startSending c (s.link.startFrom s.clock) }) := by
  show execTelegramStart s = _
  rw [execTelegramStart, conclude_powered s _ hp]
  simp only [ha, hc, ht, State.mapLink_advanceTo_eq]

/-- Any other unit has no telegram to start. -/
theorem exec_telegramStart_void (h : s.link.tx ≠ .armed ∨ s.link.telegram.isSome) :
    exec .telegramStart s = .next (settle s s) := by
  show execTelegramStart s = _
  rw [execTelegramStart, conclude_powered s _ hp]
  dsimp only
  split
  · next ha _ ht =>
    rcases h with h | h
    · exact absurd ha h
    · rw [ht] at h
      cases h
  · rfl

/-- TELEGRAM_COMPLETED at a SENDING unit (R131). -/
theorem exec_telegramCompleted (hs : s.link.tx = .sending) (hc : s.link.snapshot = some c)
    (hstart : s.link.sendStart = some start) :
    exec .telegramCompleted s = .next (settle s { s.advanceTo (start + Config.telegramTime) with
      link := { s.link.idleFrom (s.advanceTo (start + Config.telegramTime)).clock with
        tx := if s.content = c then .idle else .due
        snapshot := none, decided := none, driving := none, sendStart := none, lastSent := some c
        lastStart := some start } }) := by
  show execTelegramCompleted s = _
  rw [execTelegramCompleted, conclude_powered s _ hp]
  simp only [hs, hc, hstart, State.mapLink_advanceTo_eq, State.advanceTo_content, beq_iff_eq]

theorem exec_telegramCompleted_void (h : s.link.tx ≠ .sending) : exec .telegramCompleted s = .next (settle s s) := by
  show execTelegramCompleted s = _
  rw [execTelegramCompleted, conclude_powered s _ hp]
  dsimp only
  split
  · next hs _ _ => exact absurd hs h
  · rfl

end

/-- Settles O42: each command of the cycle where its transmitter's state is its own, and where it is another. -/
theorem sendingCycleRuns : Obligations.SendingCycleRuns := by
  intro s hp
  refine ⟨fun h => ?_, fun h => ?_, fun hdue hsuspended htelegram => ?_, fun h => ?_, fun ha ht c hc => ?_,
    exec_telegramStart_void hp, fun hs c hc start hstart => ?_, exec_telegramCompleted_void hp⟩
  · rw [exec_heartbeatDue hp, if_pos h]
  · rw [exec_heartbeatDue hp, if_neg h]
  · rw [exec_sendDecide hp, if_pos ⟨hdue, hsuspended, htelegram⟩]
    rfl
  · rw [exec_sendDecide hp, if_neg]
    rintro ⟨hdue, hsuspended, htelegram⟩
    simp [hdue, hsuspended, htelegram] at h
  · exact exec_telegramStart hp ha hc ht
  · exact exec_telegramCompleted hp hs hc hstart

end Sys2Proof.Machine
end

section
/-! Attempts given up (R129, R130, R132): a start bit of another unit, arbitration lost, a bit error. -/

namespace Sys2Proof.Machine

open Wire

variable {s : State} {c : Content} {start d : Instant}

/-! ### A start bit seen -/

theorem State.toStartBit_link (s : State) : s.toStartBit.link = s.link := s.advanceTo_link _

theorem State.startBitTaken_iff : s.startBitTaken = true ↔
    (s.link.telegram = none ∧ s.settings.active.link.unit ≠ 0) ∧ s.link.tx ≠ .sending := by
  simp only [State.startBitTaken, State.linkActive, Bool.and_eq_true, bne_iff_ne, Option.isNone_iff_eq_none]
  tauto

/-- An ARMED unit's own start bit falls in the present bit time, or it does not (R128, R129). -/
theorem State.ownStart_armed (ha : s.link.tx = .armed) (hd : s.link.decided = some d) (hc : s.link.snapshot = some c) :
    s.ownStart = if s.link.startFrom d ≤ s.clock ∧ s.clock < s.link.startFrom d + 12 then some (s.link.startFrom d, c)
      else none := by
  simp only [State.ownStart, ha, hd, hc, Bool.and_eq_true, decide_eq_true_eq]
  rfl

theorem State.ownStart_of_not_armed (h : s.link.tx ≠ .armed) : s.ownStart = none := by
  cases hown : s.ownStart with
  | none => rfl
  | some x => exact absurd (State.ownStart_some hown).1 h

/-- In the bit time of its own start bit the unit starts together with the other (R129). -/
theorem State.startBit_own (h : s.toStartBit.ownStart = some (start, c)) :
    s.startBit = { s.toStartBit with link := s.link.startSending c start } := by
  simp only [State.startBit, h, State.mapLink, State.toStartBit_link]

/-- Otherwise the attempt of an ARMED unit is voided, and counted (R129). -/
theorem State.startBit_voids (h : s.toStartBit.ownStart = none) (ha : s.link.tx = .armed) :
    s.startBit = { s.toStartBit with link := { s.link with
      tx := .due, snapshot := none, decided := none, driving := none, sendStart := none
      telegram := some s.toStartBit.clock, holdOff := none
      counters := { s.link.counters with voidedStarts := bump s.link.counters.voidedStarts } } } := by
  simp only [State.startBit, h, State.toStartBit_link, ha, State.mapLink, State.countLink, Link.backToDue,
    beq_self_eq_true, if_true]

/-- Any other unit takes the telegram that begins (R132). -/
theorem State.startBit_taken (h : s.link.tx ≠ .armed) :
    s.startBit = { s.toStartBit with link := { s.link with telegram := some s.toStartBit.clock, holdOff := none } } := by
  have hown : s.toStartBit.ownStart = none := State.ownStart_of_not_armed (by rwa [State.toStartBit_link])
  simp only [State.startBit, hown, State.toStartBit_link, State.mapLink, beq_iff_eq, if_neg h]

/-! ### The commands -/

section
variable (hp : s.powered = true)
include hp

/-- START_BIT_SEEN (R132). -/
theorem exec_startBitSeen : exec .startBitSeen s = .next (settle s (if s.startBitTaken then s.startBit else s)) :=
  conclude_powered s _ hp

/-- ATTEMPT_VOIDED (R129). -/
theorem exec_attemptVoided : exec .attemptVoided s = .next (settle s
    (if s.startBitTaken = true ∧ s.link.tx = .armed ∧ s.toStartBit.ownStart = none then s.startBit else s)) := by
  refine (conclude_powered s _ hp).trans ?_
  simp only [Bool.and_eq_true, beq_iff_eq, Option.isNone_iff_eq_none, and_assoc]

/-- ARBITRATION_LOST (R130). -/
theorem exec_arbitrationLost : exec .arbitrationLost s = .next (settle s (if s.link.tx = .sending then
    { s with link := { s.link.backToDue with
      counters := { s.link.counters with arbitrationLosses := bump s.link.counters.arbitrationLosses } } }
    else s)) := by
  refine (conclude_powered s _ hp).trans ?_
  simp only [beq_iff_eq]
  rfl

/-- BIT_ERROR, on the start bit and after it (R130). -/
theorem exec_bitError (b : Bool) : exec (.bitError b) s = .next (settle s (if s.link.tx = .sending then
    { s with link := { s.link.backToDue with
      counters := { s.link.counters with framingErrors := bump s.link.counters.framingErrors }
      telegram := if b then none else s.link.telegram
      holdOff := if b then some s.clock else s.link.holdOff } }
    else s)) := by
  refine (conclude_powered s _ hp).trans ?_
  simp only [beq_iff_eq]
  cases b <;> rfl

end

/-- Settles O43: a start bit by the transmitter's state and by the bit time of the unit's own; the other two at a SENDING
unit. -/
theorem attemptsAreGivenUp : Obligations.AttemptsAreGivenUp := by
  intro s hp
  refine ⟨fun ha hfree d hd c hc => ?_, fun harmed hsending hfree => ?_, fun h => ?_, fun h => ?_, fun hs => ⟨?_, ?_, ?_⟩,
    fun hs => ⟨?_, fun b => ?_⟩⟩
  · have htaken : s.startBitTaken = true := State.startBitTaken_iff.mpr ⟨hfree, by rw [ha]; decide⟩
    have hlink := s.toStartBit_link
    have hown := State.ownStart_armed (s := s.toStartBit) (hlink ▸ ha) (hlink ▸ hd) (hlink ▸ hc)
    rw [hlink] at hown
    rw [exec_attemptVoided hp, exec_startBitSeen hp, if_pos htaken]
    refine ⟨fun h => ?_, fun h => ?_⟩
    · rw [hown.trans (if_pos h), if_neg (by simp), State.startBit_own (hown.trans (if_pos h))]
      exact ⟨rfl, rfl⟩
    · have hnone := hown.trans (if_neg h)
      rw [if_pos ⟨htaken, ha, hnone⟩, State.startBit_voids hnone ha]
      exact ⟨rfl, rfl⟩
  · rw [exec_startBitSeen hp, if_pos (State.startBitTaken_iff.mpr ⟨hfree, hsending⟩), State.startBit_taken harmed]
    rfl
  · rw [exec_attemptVoided hp, if_neg]
    rintro ⟨htaken, harmed, -⟩
    exact h.elim (fun hn => hn harmed) fun hn => hn (State.startBitTaken_iff.mp htaken).1
  · rw [exec_startBitSeen hp, if_neg]
    intro htaken
    obtain ⟨hfree, hsending⟩ := State.startBitTaken_iff.mp htaken
    exact h.elim hsending fun hn => hn hfree
  · rw [exec_arbitrationLost hp, if_pos hs]
    rfl
  · rw [exec_bitError hp, if_pos hs]
    rfl
  · rw [exec_bitError hp, if_pos hs]
    rfl
  · rw [exec_arbitrationLost hp, if_neg hs]
  · rw [exec_bitError hp, if_neg hs]

end Sys2Proof.Machine
end

section
/-! A telegram read to its end (R132, R133): what it is judged by, and a duplicate seen. -/

namespace Sys2Proof.Machine

open Wire

variable {s : State} {bits : List Bit} {start : Instant} {p : Peer}

/-! ### The judgement (R132) -/

theorem State.judgeTelegram_of_end (he : endBitsGood bits = false) :
    s.judgeTelegram bits = s.countLink fun k => { k with framingErrors := bump k.framingErrors } := by
  simp [State.judgeTelegram, he]

theorem State.judgeTelegram_of_check (he : endBitsGood bits = true) (hc : telegramCheckGood bits = false) :
    s.judgeTelegram bits = s.countLink fun k => { k with checkFailures := bump k.checkFailures } := by
  simp [State.judgeTelegram, he, hc]

section
variable (he : endBitsGood bits = true) (hc : telegramCheckGood bits = true)
include he hc

theorem State.judgeTelegram_of_own (ho : (Content.ofBits (bits.take 53)).unit = s.settings.active.link.unit) :
    s.judgeTelegram bits = s.takeDuplicate := by
  simp [State.judgeTelegram, he, hc, ho]

theorem State.judgeTelegram_of_peer (ho : (Content.ofBits (bits.take 53)).unit ≠ s.settings.active.link.unit)
    (hp : s.peer (Content.ofBits (bits.take 53)).unit = some p) :
    s.judgeTelegram bits = s.takePeer p (Content.ofBits (bits.take 53)) := by
  simp [State.judgeTelegram, he, hc, ho, hp]

theorem State.judgeTelegram_of_stranger (ho : (Content.ofBits (bits.take 53)).unit ≠ s.settings.active.link.unit)
    (hp : s.peer (Content.ofBits (bits.take 53)).unit = none) :
    s.judgeTelegram bits = s.countLink fun k => { k with strangers := bump k.strangers } := by
  simp [State.judgeTelegram, he, hc, ho, hp]

end

/-! ### A duplicate (R133) -/

/-- The last DUPLICATE_UNIT notice was posted less than 1000 ms ago. -/
def State.duplicateRecent (s : State) : Bool := s.link.duplicateNotice.any fun v => s.clock < v + Config.duplicateSpan

/-- The duplicate counted. -/
def State.countDuplicate (s : State) : State := s.countLink fun k => { k with duplicates := bump k.duplicates }

/-- DUPLICATE_UNIT posted. -/
def State.announceDuplicate (s : State) : State :=
  (s.post .duplicateUnit s.settings.active.link.unit s.link.counters.duplicates).mapLink
    fun l => { l with duplicateNotice := some s.clock }

/-- Sending suspended, and an ARMED attempt given up. -/
def State.suspendSending (s : State) : State :=
  s.mapLink fun l => { (if l.tx == .armed then l.backToDue else l) with
    suspended := some (s.clock + Config.duplicateSpan), lastDuplicate := some s.clock, duplicateAlarm := true }

theorem State.duplicateRecent_eq (s : State) : s.duplicateRecent =
    match s.link.duplicateNotice with
    | none => false
    | some t => decide (s.clock < t + Config.duplicateSpan) := by
  unfold State.duplicateRecent
  cases s.link.duplicateNotice with
  | none => rfl
  | some t => exact Option.any_some

/-- Only the clock and the last notice bear on it. -/
theorem State.duplicateRecent_congr {t : State} (hc : t.clock = s.clock)
    (hn : t.link.duplicateNotice = s.link.duplicateNotice) : t.duplicateRecent = s.duplicateRecent := by
  rw [State.duplicateRecent, State.duplicateRecent, hc, hn]

theorem State.takeDuplicate_stages (s : State) : s.takeDuplicate =
    (if s.duplicateRecent then s.countDuplicate else s.countDuplicate.announceDuplicate).suspendSending := by
  rw [← State.duplicateRecent_congr (s := s) (t := s.countDuplicate) rfl rfl, State.duplicateRecent_eq]
  rfl

/-- A duplicate seen: counted, announced once in 1000 ms, sending suspended and an ARMED attempt given up. -/
theorem State.takeDuplicate_eq (s : State) : s.takeDuplicate = { s with
    notices :=
      if s.duplicateRecent then s.notices
      else enqueue s.notices
        { kind := .duplicateUnit, subject := s.settings.active.link.unit, value := bump s.link.counters.duplicates
          time := s.partTime }
    link := { (if s.link.tx = .armed then s.link.backToDue else s.link) with
      counters := { s.link.counters with duplicates := bump s.link.counters.duplicates }
      duplicateNotice := if s.duplicateRecent then s.link.duplicateNotice else some s.clock
      suspended := some (s.clock + Config.duplicateSpan), lastDuplicate := some s.clock, duplicateAlarm := true } } := by
  rw [State.takeDuplicate_stages]
  cases s.duplicateRecent with
  | true =>
    by_cases ha : s.link.tx = .armed <;>
      simp [State.suspendSending, State.countDuplicate, State.countLink, State.mapLink, Link.backToDue, ha]
  | false =>
    by_cases ha : s.link.tx = .armed <;>
      simp [State.suspendSending, State.announceDuplicate, State.countDuplicate, State.countLink, State.mapLink,
        State.post, Link.backToDue, ha]

/-! ### The command -/

/-- The state in which a telegram begun at `start` is judged: its last bit has passed, and the line is idle (R132). -/
def State.heard (s : State) (start : Instant) : State :=
  { s.advanceTo (start + Config.telegramTime) with
    link := { s.link with telegram := none, recessive := (s.advanceTo (start + Config.telegramTime)).clock } }

theorem State.heard_settings (s : State) (start : Instant) : (s.heard start).settings = s.settings := s.advanceTo_settings _

theorem State.heard_unit (s : State) (start : Instant) :
    (s.heard start).settings.active.link.unit = s.settings.active.link.unit := by rw [s.heard_settings]

theorem State.heard_notices (s : State) (start : Instant) : (s.heard start).notices = s.notices := s.advanceTo_notices _

theorem exec_telegramReceived (hp : s.powered = true) (ht : s.link.telegram = some start) (hs : s.link.tx ≠ .sending) :
    exec (.telegramReceived bits) s = .next (settle s ((s.heard start).judgeTelegram bits)) := by
  show execTelegramReceived bits s = _
  rw [execTelegramReceived, conclude_powered s _ hp]
  simp only [ht, beq_iff_eq, if_neg hs, State.mapLink_advanceTo_eq]
  rfl

theorem exec_telegramReceived_void (hp : s.powered = true) (h : s.link.telegram = none ∨ s.link.tx = .sending) :
    exec (.telegramReceived bits) s = .next (settle s s) := by
  show execTelegramReceived bits s = _
  rw [execTelegramReceived, conclude_powered s _ hp]
  dsimp only
  split
  · rfl
  · next ht => rw [if_pos (beq_iff_eq.mpr (h.resolve_left (by simp [ht])))]

/-- Settles O44: the judgement's branches, in their order. -/
theorem telegramIsJudged : Obligations.TelegramIsJudged := by
  intro s bits hp
  refine ⟨exec_telegramReceived_void hp, fun start ht hs => ?_⟩
  intro u l c k valid own
  refine ⟨fun he => ?_, fun he hc => ?_, fun hv ho => ?_, fun hv ho hn => ?_⟩
  · rw [exec_telegramReceived hp ht hs, State.judgeTelegram_of_end he]
    rfl
  · rw [exec_telegramReceived hp ht hs, State.judgeTelegram_of_check he hc]
    rfl
  · obtain ⟨he, hc⟩ := Bool.and_eq_true_iff.mp hv
    intro recent
    have hrecent : (s.heard start).duplicateRecent = recent := by
      have hclock : (s.heard start).clock = u.clock := rfl
      have hnotice : (s.heard start).link.duplicateNotice = l.duplicateNotice := rfl
      have hspan : Config.duplicateSpan = 1000 * Config.ms := rfl
      rw [State.duplicateRecent, hclock, hnotice, hspan]
    have hown : c.unit = (s.heard start).settings.active.link.unit := by rwa [s.heard_unit]
    rw [exec_telegramReceived hp ht hs, State.judgeTelegram_of_own he hc hown, State.takeDuplicate_eq, hrecent,
      s.heard_notices, s.heard_unit]
    rfl
  · obtain ⟨he, hc⟩ := Bool.and_eq_true_iff.mp hv
    have hnone : (s.heard start).peer c.unit = none := List.find?_eq_none.mpr fun p hp => by simpa using hn p hp
    have hother : c.unit ≠ (s.heard start).settings.active.link.unit := by rwa [s.heard_unit]
    rw [exec_telegramReceived hp ht hs, State.judgeTelegram_of_stranger he hc hother hnone]
    rfl

end Sys2Proof.Machine
end

section
/-! The link's timers and a disturbed line (R132, R133, R135, R163). -/

namespace Sys2Proof.Machine

open Wire

variable {s : State} {p : Peer} {d : Instant} {n : Index}

theorem State.mapPeer_eq (s : State) (n : Index) (f : Peer → Peer) : s.mapPeer n f =
    { s with link := { s.link with peers := s.link.peers.map fun q => if q.unit = n then f q else q } } := by
  simp only [State.mapPeer, beq_iff_eq]

/-- A peer given up at the instant its silence timer runs out, with its notice (R135). -/
def State.peerLost (s : State) (n : Index) (due : Instant) : State :=
  ((s.advanceTo due).mapPeer n Peer.lose).post .peerState n PeerState.lost.code

section
variable (hp : s.powered = true)
include hp

/-- LINE_DISTURBANCE (R132). -/
theorem exec_lineDisturbance (bits : Nat) : exec (.lineDisturbance bits) s = .next (settle s
    (if s.settings.active.link.unit ≠ 0 ∧ s.link.telegram = none ∧
        (s.advanceTo s.link.disturbFrom).clock < s.link.recessive + 96 then
      { s.advanceTo s.link.disturbFrom with
        link := { s.link with
          recessive := (s.advanceTo s.link.disturbFrom).clock + bits * 12
          disturbed := some ((s.advanceTo s.link.disturbFrom).clock + bits * 12)
          counters := { s.link.counters with framingErrors := bump s.link.counters.framingErrors } } }
    else s)) := by
  refine (conclude_powered s _ hp).trans ?_
  simp only [State.linkActive, Bool.and_eq_true, bne_iff_ne, Option.isNone_iff_eq_none, decide_eq_true_eq, and_assoc,
    State.countLink, State.mapLink_advanceTo_eq]
  rfl

/-- PEER_SILENCE_EXPIRY of a LIVE peer (R135, R136). -/
theorem exec_peerSilenceExpiry (hn : s.peer n = some p) (hl : p.state = .live) (hd : p.silence = some d) :
    exec (.peerSilenceExpiry n) s = .next (settle s (s.handLinkInputs (s.peerLost n d))) := by
  show execPeerSilenceExpiry n s = _
  rw [execPeerSilenceExpiry, conclude_powered s _ hp]
  simp only [hn, Option.bind_some, hl, beq_self_eq_true, if_true, hd]
  rfl

/-- A unit that is no LIVE peer has no silence timer. -/
theorem exec_peerSilenceExpiry_void (h : ∀ p ∈ s.peer n, p.state ≠ .live) :
    exec (.peerSilenceExpiry n) s = .next (settle s s) := by
  have hnone : ((s.peer n).bind fun p => if p.state == .live then p.silence else none) = none :=
    Option.bind_eq_none_iff.mpr fun p hmem => if_neg fun hl => h p hmem (eq_of_beq hl)
  show execPeerSilenceExpiry n s = _
  rw [execPeerSilenceExpiry, conclude_powered s _ hp]
  simp only [hnone]

/-- SUSPENSION_END (R133). -/
theorem exec_suspensionEnd (hd : s.link.suspended = some d) : exec .suspensionEnd s = .next (settle s
    { s.advanceTo d with link := { s.link with suspended := none } }) := by
  show execSuspensionEnd s = _
  rw [execSuspensionEnd, conclude_powered s _ hp]
  simp only [hd, State.mapLink_advanceTo_eq]

theorem exec_suspensionEnd_void (hd : s.link.suspended = none) : exec .suspensionEnd s = .next (settle s s) := by
  show execSuspensionEnd s = _
  rw [execSuspensionEnd, conclude_powered s _ hp]
  simp only [hd]

/-- DUPLICATE_ALARM_EXPIRY (R163). -/
theorem exec_duplicateAlarmExpiry (ha : s.link.duplicateAlarm = true) (hd : s.link.lastDuplicate = some d) :
    exec .duplicateAlarmExpiry s = .next (settle s { s.advanceTo (d + Config.duplicateSpan) with
      link := { s.link with duplicateAlarm := false } }) := by
  show execDuplicateAlarmExpiry s = _
  rw [execDuplicateAlarmExpiry, conclude_powered s _ hp]
  simp only [ha, hd, State.mapLink_advanceTo_eq]

theorem exec_duplicateAlarmExpiry_void (ha : s.link.duplicateAlarm = false) :
    exec .duplicateAlarmExpiry s = .next (settle s s) := by
  show execDuplicateAlarmExpiry s = _
  rw [execDuplicateAlarmExpiry, conclude_powered s _ hp]
  simp only [ha]

end

/-- The notice of a peer given up comes before all that its lost link values bring about (R135, R136). -/
theorem State.peerLost_posted (s : State) (n : Index) (d : Instant) :
    Posted s [{ kind := .peerState, subject := n, value := 2, time := (s.advanceTo d).partTime }]
      (settle s (s.handLinkInputs (s.peerLost n d))) :=
  posted_settle (u := (s.advanceTo d).mapPeer n Peer.lose) (s.advanceTo_notices d) (by decide)
    fun _ h => h.handLinkInputs s

/-- Settles O46: each timer's command where it runs and where it does not. -/
theorem linkTimersRun : Obligations.LinkTimersRun := by
  intro s n bits hp
  refine ⟨fun hu ht hr => ?_, fun h => ?_, fun p hn hl d hd => ?_, exec_peerSilenceExpiry_void hp,
    fun d hd => exec_suspensionEnd hp hd, exec_suspensionEnd_void hp, fun ha d hd => exec_duplicateAlarmExpiry hp ha hd,
    exec_duplicateAlarmExpiry_void hp⟩
  · rw [exec_lineDisturbance hp, if_pos]
    · rfl
    · exact ⟨hu, ht, hr⟩
  · rw [exec_lineDisturbance hp, if_neg]
    exact h
  · refine ⟨_, exec_peerSilenceExpiry hp hn hl hd, ?_, s.peerLost_posted n d⟩
    rw [settle_apart, State.handLinkInputs_apart, State.peerLost, State.post_apart, State.mapPeer_eq, s.advanceTo_link]
    rfl

end Sys2Proof.Machine
end

section
/-! A cause that an order carries stays with it: requests for any position, evaluations and postings take neither the order nor
the cause away while its position has a minimum pulse (R104, R105, R108). -/

namespace Sys2Proof.Machine

open Wire

variable {s t u : State} {b p : Index} {c d : Cause} {a : Attribute}

/-- From `s` to `t` the decision path alone has changed, and the LIVE order of `b` that carries the cause stands. -/
structure KeepsAsked (b : Index) (c : Cause) (s t : State) : Prop where
  apart : t.apart = s.apart
  asked : 0 < (s.positionSet b).minPulse → s.askedAt b c .live → t.askedAt b c .live

/-- A cause that an order carries is carried still when another joins (R104). -/
theorem Order.addCause_keeps {o : Order} (h : c ∈ o.causes ∨ (4 ≤ o.causes.length ∧ 0 < o.further)) (d : Cause) :
    c ∈ (o.addCause d).causes ∨ (4 ≤ (o.addCause d).causes.length ∧ 0 < (o.addCause d).further) := by
  unfold Order.addCause
  by_cases hroom : o.causes.length < 4
  · simp only [if_pos hroom]
    exact .inl (List.mem_append_left _ (h.resolve_right fun hfull => absurd hroom (Nat.not_lt.mpr hfull.1)))
  · simp only [if_neg hroom]
    exact h.imp_right fun hfull => ⟨hfull.1, by simp [bump]⟩

namespace KeepsAsked

theorem refl (s : State) : KeepsAsked b c s s := ⟨rfl, fun _ => id⟩

theorem trans (h : KeepsAsked b c s t) (h' : KeepsAsked b c t u) : KeepsAsked b c s u :=
  ⟨h'.apart.trans h.apart, fun hm hs => h'.asked (by rwa [State.positionSet_of_apart h.apart]) (h.asked hm hs)⟩

theorem ite {k : Prop} [Decidable k] (ht : KeepsAsked b c s t) (hu : KeepsAsked b c s u) :
    KeepsAsked b c s (if k then t else u) := by
  split
  · exact ht
  · exact hu

theorem foldl {α : Type} {f : State → α → State} (h : ∀ t x, KeepsAsked b c t (f t x)) (l : List α) (s : State) :
    KeepsAsked b c s (l.foldl f s) :=
  List.foldlRecOn (motive := KeepsAsked b c s) l f (refl s) fun t ht x _ => ht.trans (h t x)

/-- The orders are the same. -/
theorem same (ha : t.apart = s.apart) (ho : t.orders = s.orders) : KeepsAsked b c s t := by
  refine ⟨ha, fun _ h => ?_⟩
  rwa [State.askedAt, ho]

theorem post (k : NoticeKind) (m n : Nat) : KeepsAsked b c s (s.post k m n) := same rfl rfl

theorem setZone (z : Index) (q : Zone) : KeepsAsked b c s (s.setZone z q) := same rfl rfl

/-- A request for the position joins the order, or upgrades every order of it; one for another leaves it alone (R104, R105). -/
theorem requestOrder (p : Index) (d : Cause) (a : Attribute) : KeepsAsked b c s (s.requestOrder p d a) := by
  refine ⟨s.requestOrder_apart p d a, fun hm ⟨o, ho, hpos, hcarries, hlive⟩ => ?_⟩
  by_cases hp : b = p
  · subst hp
    have hjoined : o.addCause d ∈ (s.mapOrder b fun q => q.addCause d).orders :=
      List.mem_map.mpr ⟨o, ho, if_pos (beq_of_eq hpos)⟩
    have hkept := Order.addCause_keeps hcarries d
    cases hat : s.orderAt b with
    | none => exact absurd hpos (State.orderAt_eq_none.mp hat o ho)
    | some r =>
      rw [State.requestOrder_of_some hat]
      split
      · rw [State.upgradeOrder_written (State.orderAt_joined hat d) hm]
        exact ⟨_, List.mem_map.mpr ⟨_, hjoined, if_pos hpos⟩, hpos, hkept, fun _ => rfl⟩
      · exact ⟨_, hjoined, hpos, hkept, hlive⟩
  · have hother := LeavesOthers.requestOrder (s := s) (c := d) (a := a) b hp
    exact ⟨o, (State.mem_ordersOf.mp (hother ▸ State.mem_ordersOf.mpr ⟨ho, hpos⟩)).1, hpos, hcarries, hlive⟩

theorem requestAll (ps : List Index) (d : Cause) (a : Attribute) : KeepsAsked b c s (s.requestAll ps d a) :=
  foldl (fun _ p => requestOrder p d a) ps s

theorem requestEdge (n p : Index) : KeepsAsked b c s (s.requestEdge n p) := ite (requestOrder p _ _) (post _ _ _)

/-! ### Evaluations (R91 to R94) -/

theorem growZone (z : Index) (e : List Index) : KeepsAsked b c s (s.growZone z e) := by
  unfold State.growZone
  split
  · exact ite (requestAll _ _ _) (refl s)
  · exact refl s

/-- A zone replaced, its trip announced and its clearing set requested (R93, R94). -/
theorem trip (z : Index) (q : Zone) (a : Attribute) (k : Nat) :
    KeepsAsked b c s (((s.setZone z q).post .zoneTrip z k).requestClearing z a) :=
  ((setZone z q).trans (post .zoneTrip z k)).trans (ite (post _ _ _) (requestAll _ _ _))

theorem evaluate (z : Index) (e : List Index) : KeepsAsked b c s (s.evaluate z e) := by
  unfold State.evaluate
  refine ite (refl s) ?_
  dsimp only
  split
  case h_1 | h_2 | h_3 | h_4 => exact setZone _ _
  case h_5 | h_6 => exact ite (setZone _ _) ((setZone _ _).trans (post _ _ _))
  case h_7 | h_8 => exact trip _ _ _ _
  case h_9 =>
    refine KeepsAsked.trans (ite (setZone _ _) ?_) (growZone z e)
    split
    · exact trip _ _ _ _
    · exact setZone _ _

theorem evaluateWhere (w : Index → Bool) : KeepsAsked b c s (s.evaluateWhere w) :=
  foldl (fun t z => (evaluate z []).trans (same (t.noteContent_apart _) (t.noteContent_orders _))) _ s

end KeepsAsked

end Sys2Proof.Machine
end

section
/-! A configured peer's telegram (R117, R135 to R137): what its record takes, the flags that rose handed to the order unit, and
the changed link values handed to the zones. -/

namespace Sys2Proof.Machine

open Wire

variable {s t : State} {p : Peer} {c : Content} {n q : Index} {qs : List Index}

/-! ### What is taken (R135, R136) -/

theorem Reported.usable_eq (r : Reported) : r.usable = (r == .inService || r == .test) := by cases r <;> rfl

/-- Flags are taken as read from a peer in IN_SERVICE or TEST, and as clear from any other (R136). -/
theorem Content.taken_fields (c : Content) (own : Nat) :
    c.taken.zones = (if c.state.usable then c.zones else []) ∧
      c.taken.currents = (if c.state.usable then c.currents else []) ∧
      c.taken.requestsTo own = if c.state.usable then (upTo 8).filter fun q => c.requests.contains ⟨own, q⟩ else [] := by
  unfold Content.taken
  split
  · exact ⟨rfl, rfl, rfl⟩
  · exact ⟨rfl, rfl, by simp [Content.requestsTo]⟩

/-- The request flags that have risen since the peer's last telegram (R117). -/
def Peer.risen (p : Peer) (c : Content) (own : Nat) : List Index :=
  (c.taken.requestsTo own).filter fun q => !p.requests.contains q

theorem Peer.risen_upTo (h : q ∈ p.risen c n) : q ∈ upTo 8 := (List.mem_filter.mp (List.mem_filter.mp h).1).1

/-- The peer's record with the telegram taken, PEER_STATE posted first if it was not LIVE (R135). -/
def State.peerHeard (s : State) (p : Peer) (c : Content) : State :=
  (if p.state == .live then s else s.post .peerState p.unit PeerState.live.code).mapPeer p.unit
    fun q => q.take c s.settings.active.link.unit s.clock

theorem State.peerHeard_eq (s : State) (p : Peer) (c : Content) : s.peerHeard p c = { s with
    notices :=
      if p.state = .live then s.notices
      else enqueue s.notices { kind := .peerState, subject := p.unit, value := 1, time := s.partTime }
    link := { s.link with
      peers := s.link.peers.map fun q =>
        if q.unit = p.unit then q.take c s.settings.active.link.unit s.clock else q } } := by
  rw [State.peerHeard, State.mapPeer_eq]
  by_cases hl : p.state = .live
  · simp only [hl, beq_self_eq_true, if_true]
  · simp only [beq_iff_eq, if_neg hl]
    rfl

theorem State.peerHeard_kept (s : State) (p : Peer) (c : Content) :
    (s.peerHeard p c).settings = s.settings ∧ (s.peerHeard p c).control = s.control := by
  rw [State.peerHeard_eq]
  exact ⟨rfl, rfl⟩

/-! ### The flags that rose (R117) -/

/-- A request from peer `n` for position `q` is accepted. -/
def State.accepts (s : State) (n q : Index) : Bool :=
  (s.control.state == .inService || s.control.state == .test) && s.usedPosition q && (s.positionSet q).accept.contains n

theorem State.accepts_congr (hs : t.settings = s.settings) (hc : t.control = s.control) (n q : Index) :
    t.accepts n q = s.accepts n q := by
  simp only [State.accepts, State.usedPosition, State.positionSet, hs, hc]

/-- Several flags handed over, one after the other. -/
def State.handEdges (s : State) (n : Index) (qs : List Index) : State := qs.foldl (fun v q => v.requestEdge n q) s

theorem State.handEdges_apart (s : State) (n : Index) (qs : List Index) : (s.handEdges n qs).apart = s.apart :=
  foldl_apart s _ (fun t q => t.requestEdge_apart n q) qs

/-- No hand-over changes what the next one is accepted by. -/
theorem State.handEdges_eq (hs : t.settings = s.settings) (hc : t.control = s.control) (n : Index) (qs : List Index) :
    t.handEdges n qs = qs.foldl
      (fun w q => if s.accepts n q then w.requestOrder q ⟨.remote, n⟩ .live else w.post .remoteRefused q n) t := by
  induction qs generalizing t with
  | nil => rfl
  | cons q qs ih =>
    have hedge : t.requestEdge n q =
        if s.accepts n q then t.requestOrder q ⟨.remote, n⟩ .live else t.post .remoteRefused q n := by
      rw [← State.accepts_congr hs hc]
      rfl
    have hapart := t.requestEdge_apart n q
    rw [List.foldl_cons, ← hedge]
    exact ih ((State.settings_of_apart hapart).trans hs) ((State.control_of_apart hapart).trans hc)

/-- Refused, each flag is announced and nothing more. -/
theorem State.handEdges_refused (h : ∀ q ∈ qs, s.accepts n q = false) :
    (s.handEdges n qs).orders = s.orders ∧
      (s.handEdges n qs).notices = (qs.map fun q =>
        ({ kind := .remoteRefused, subject := q, value := n, time := s.partTime } : Notice)).foldl enqueue s.notices := by
  induction qs generalizing s with
  | nil => exact ⟨rfl, rfl⟩
  | cons q qs ih =>
    have hedge : s.requestEdge n q = s.post .remoteRefused q n := if_neg (by
      rw [Bool.not_eq_true]
      exact h q List.mem_cons_self)
    show ((s.requestEdge n q).handEdges n qs).orders = _ ∧ ((s.requestEdge n q).handEdges n qs).notices = _
    rw [hedge]
    exact ih (s := s.post .remoteRefused q n) fun r hr => h r (List.mem_cons_of_mem q hr)

/-- An accepted flag leaves a LIVE order with the cause REMOTE, which the later ones leave standing. -/
theorem State.handEdges_askedAt (hq : q ∈ qs) (ha : s.accepts n q = true) (hm : 0 < (s.positionSet q).minPulse) :
    (s.handEdges n qs).askedAt q ⟨.remote, n⟩ .live := by
  induction qs generalizing s with
  | nil => exact absurd hq List.not_mem_nil
  | cons r qs ih =>
    have hapart := s.requestEdge_apart n r
    have hm' : 0 < ((s.requestEdge n r).positionSet q).minPulse := by rwa [State.positionSet_of_apart hapart]
    rcases List.mem_cons.mp hq with rfl | hin
    · have hnow : (s.requestEdge n q).askedAt q ⟨.remote, n⟩ .live := by
        rw [show s.requestEdge n q = s.requestOrder q ⟨.remote, n⟩ .live from if_pos ha]
        exact State.requestOrder_askedAt hm _ _
      exact (KeepsAsked.foldl (fun _ x => .requestEdge n x) qs _).asked hm' hnow
    · exact ih hin ((State.accepts_congr (State.settings_of_apart hapart) (State.control_of_apart hapart) n q).trans ha) hm'

/-! ### The link values (R136) -/

/-- Only the peers and the settings bear on whether the link values differ for a zone. -/
theorem State.linkInputsDiffer_congr {s' t' : State} (hs : s'.settings = s.settings) (hsl : s'.link.peers = s.link.peers)
    (ht : t'.settings = t.settings) (htl : t'.link.peers = t.link.peers) (z : Index) :
    s'.linkInputsDiffer t' z = s.linkInputsDiffer t z := by
  simp only [State.linkInputsDiffer, State.presentedZone, State.presentedCurrent, State.ownerUsable, State.zoneSet, hs,
    hsl, ht, htl]

/-- Where no zone is concerned none is evaluated. -/
theorem State.evaluateWhere_none {w : Index → Bool} (h : ∀ z ∈ upTo 8, w z = false) : s.evaluateWhere w = s := by
  have hnone : (inOrder s.sched.zones 8).filter w = [] :=
    List.filter_eq_nil_iff.mpr fun z hz => by simp [h z (mem_inOrder_iff.mp hz)]
  rw [State.evaluateWhere, hnone]
  rfl

/-! ### The two hand-overs, in either order (R137) -/

theorem State.takePeer_eq (s : State) (p : Peer) (c : Content) : s.takePeer p c =
    if s.sched.ordersFirst then
      s.handLinkInputs ((s.peerHeard p c).handEdges p.unit (p.risen c s.settings.active.link.unit))
    else (s.handLinkInputs (s.peerHeard p c)).handEdges p.unit (p.risen c s.settings.active.link.unit) := rfl

theorem State.takePeer_apart (s : State) (p : Peer) (c : Content) : (s.takePeer p c).apart = (s.peerHeard p c).apart := by
  rw [State.takePeer_eq]
  split <;> simp only [State.handLinkInputs_apart, State.handEdges_apart]

/-- What was posted before the hand-overs stands before all that they post. -/
theorem State.holds.takePeer {ns : List Notice} (h : (s.peerHeard p c).holds ns) : (s.takePeer p c).holds ns := by
  have handed {v : State} (hv : v.holds ns) (qs : List Index) : (v.handEdges p.unit qs).holds ns :=
    hv.foldl (fun _ q hw => hw.requestEdge p.unit q) qs
  rw [State.takePeer_eq]
  split
  · exact (handed h _).handLinkInputs s
  · exact handed (h.handLinkInputs s) _

/-- An accepted flag that rose leaves a LIVE order with the cause REMOTE. -/
theorem State.takePeer_askedAt (hq : q ∈ p.risen c s.settings.active.link.unit) (ha : s.accepts p.unit q = true)
    (hm : 0 < (s.positionSet q).minPulse) : (s.takePeer p c).askedAt q ⟨.remote, p.unit⟩ .live := by
  obtain ⟨hsettings, hcontrol⟩ := s.peerHeard_kept p c
  have hand {v : State} (hv : v.apart = (s.peerHeard p c).apart) :
      v.accepts p.unit q = true ∧ 0 < (v.positionSet q).minPulse := by
    have hs := (State.settings_of_apart hv).trans hsettings
    rw [State.accepts_congr hs ((State.control_of_apart hv).trans hcontrol), State.positionSet, hs]
    exact ⟨ha, hm⟩
  have asked {v : State} (hv : v.apart = (s.peerHeard p c).apart) := State.handEdges_askedAt hq (hand hv).1 (hand hv).2
  rw [State.takePeer_eq]
  split
  · exact (KeepsAsked.evaluateWhere _).asked (hand (State.handEdges_apart _ _ _)).2 (asked rfl)
  · exact asked (s.handLinkInputs_apart _)

/-- Where no zone's link values change, the hand-over of the flags is all there is. -/
theorem State.takePeer_of_same_inputs (h : ∀ z ∈ upTo 8, s.linkInputsDiffer (s.peerHeard p c) z = false) :
    s.takePeer p c = (s.peerHeard p c).handEdges p.unit (p.risen c s.settings.active.link.unit) := by
  have handed {v : State} (hv : v.apart = (s.peerHeard p c).apart) : s.handLinkInputs v = v :=
    State.evaluateWhere_none fun z hz => by
      rw [State.linkInputsDiffer_congr (t := s.peerHeard p c) rfl rfl (State.settings_of_apart hv)
        (congrArg (fun u : State => u.link.peers) hv :)]
      exact h z hz
  rw [State.takePeer_eq, handed rfl, handed (State.handEdges_apart _ _ _), ite_self]

/-! ### The command -/

theorem State.heard_control (s : State) (start : Instant) : (s.heard start).control = s.control := s.advanceTo_control _

/-- The whole record as the telegram leaves it (R135, R136). -/
theorem Peer.take_eq (q : Peer) (c : Content) (own : Nat) (now : Instant) : q.take c own now = { q with
    state := .live, reported := some c.state, light := if c.state.usable then c.zones else []
    current := if c.state.usable then c.currents else []
    requests := if c.state.usable then (upTo 8).filter fun b => c.requests.contains ⟨own, b⟩ else []
    lastHeard := some now, silence := some (now + 15 * Config.ms) } := by
  obtain ⟨hzones, hcurrents, hrequests⟩ := c.taken_fields own
  rw [Peer.take, hzones, hcurrents, hrequests]
  rfl

/-- PEER_STATE comes before what the hand-overs post. -/
theorem State.takePeer_posted (hn : t.notices = s.notices) (hl : p.state ≠ .live) :
    Posted s [{ kind := .peerState, subject := p.unit, value := 1, time := t.partTime }]
      (settle s (t.takePeer p c)) := by
  refine posted_settle hn (by decide) fun q hq => State.holds.takePeer (hq.same ?_)
  rw [State.peerHeard_eq, if_neg hl]
  rfl

/-- Settles O45: the peer's record, and then the two hand-overs in either order. -/
theorem peerTelegramIsTaken : Obligations.PeerTelegramIsTaken := by
  intro s bits hp hs he hk start ht c own hother p hpeer u usable asked edges accepts
  have husable : c.state.usable = usable := c.state.usable_eq
  have hown : c.unit ≠ (s.heard start).settings.active.link.unit := by rwa [s.heard_unit]
  have hexec : exec (.telegramReceived bits) s = .next (settle s ((s.heard start).takePeer p c)) := by
    rw [exec_telegramReceived hp ht hs, State.judgeTelegram_of_peer he hk hown hpeer]
  have hedges : p.risen c (s.heard start).settings.active.link.unit = edges := by
    rw [s.heard_unit, Peer.risen, (c.taken_fields own).2.2, husable]
  have haccepts (q : Index) : (s.heard start).accepts p.unit q = accepts q :=
    State.accepts_congr (s.heard_settings start) (s.heard_control start) p.unit q
  have htime : (s.heard start).partTime = u.partTime := rfl
  obtain ⟨hsettings, hcontrol⟩ := (s.heard start).peerHeard_kept p c
  have hheard := State.peerHeard_eq (s.heard start) p c
  simp only [Peer.take_eq, husable, s.heard_notices, s.heard_unit] at hheard
  have hapart : (settle s ((s.heard start).takePeer p c)).apart = ((s.heard start).peerHeard p c).apart :=
    (settle_apart s _).trans (State.takePeer_apart _ p c)
  refine ⟨_, hexec, ?clock, ?record, ?posted, ?asked, ?orders, ?quiet⟩
  case clock =>
    rw [State.clock_of_apart hapart, hheard]
    rfl
  case record =>
    rw [hapart, hheard]
    rfl
  case posted =>
    intro hl
    rw [← htime]
    exact State.takePeer_posted (s.heard_notices start) hl
  case asked =>
    intro q hq hacc hm
    rw [← hedges] at hq
    have hpulse : 0 < ((s.heard start).positionSet q).minPulse := by
      rw [State.positionSet, s.heard_settings]
      exact hm q (Peer.risen_upTo hq)
    obtain ⟨o, ho, hpos, hcause, hlive⟩ := State.takePeer_askedAt hq ((haccepts q).trans hacc) hpulse
    rw [settle_orders]
    exact ⟨o, ho, hpos, hlive rfl, hcause⟩
  case orders =>
    intro heard taken hand
    have hline : s.heard start = heard := rfl
    have htaken : (s.heard start).peerHeard p c = taken := hheard
    have hhanded {v : State} (hv : v.apart = taken.apart) : v.handEdges p.unit edges = hand v := by
      rw [← htaken] at hv
      rw [State.handEdges_eq ((State.settings_of_apart hv).trans hsettings) ((State.control_of_apart hv).trans hcontrol)]
      simp only [haccepts, hand]
    rw [State.takePeer_eq, hedges, htaken, hhanded rfl, hhanded (State.handLinkInputs_apart _ _), hline]
    split
    · exact .inl rfl
    · exact .inr rfl
  case quiet =>
    intro hl hrefused hsame
    have hquiet := State.takePeer_of_same_inputs (s := s.heard start) (p := p) (c := c) fun z hz => by
      rw [← hsame z hz]
      exact State.linkInputsDiffer_congr (s.heard_settings start) rfl (State.settings_of_apart hapart).symm
        (congrArg (fun v : State => v.link.peers) hapart.symm :) z
    have hnone : ∀ q ∈ edges, ((s.heard start).peerHeard p c).accepts p.unit q = false := fun q hq => by
      rw [State.accepts_congr hsettings hcontrol, haccepts, hrefused q hq]
    obtain ⟨horders, hnotices⟩ := State.handEdges_refused hnone
    rw [settle_orders, settle_notices, hquiet, hedges, horders, hnotices, hheard, if_pos hl]
    exact ⟨s.advanceTo_orders _, rfl⟩

end Sys2Proof.Machine
end

section
/-! The notice queue by itself (R150, R151): what a posting makes of it, and what keeps its shape. -/

namespace Sys2Proof.Machine

variable {q held : List Notice} {m : Notice}

/-! ### Postings (R150) -/

/-- The posting that finds 31 entries and no LOST marker leaves a marker in its stead. -/
theorem enqueue_full (n : Notice) (h : ∀ k ∈ q, k.kind ≠ .lost) (l : 31 ≤ q.length) :
    enqueue q n = q ++ [{ kind := .lost, subject := 0, value := 1, time := n.time }] := by
  have hnone : (q.any fun k => k.kind == .lost) = false := by simpa using h
  rw [enqueue, hnone, if_neg Bool.false_ne_true, if_neg (Nat.not_lt.mpr l)]

/-- A posting behind a LOST marker is counted in it. -/
theorem enqueue_marked (n : Notice) (h : ∀ k ∈ held, k.kind ≠ .lost) (hm : m.kind = .lost) :
    enqueue (held ++ [m]) n = held ++ [{ m with value := bump m.value }] := by
  have hany : ((held ++ [m]).any fun k => k.kind == .lost) = true := by simp [hm]
  have hheld : (held.map fun k => if k.kind == .lost then { k with value := bump k.value } else k) = held :=
    (List.map_congr_left fun k hk => if_neg (by simpa using h k hk)).trans held.map_id
  rw [enqueue, if_pos hany, List.map_append, hheld, List.map_singleton, if_pos (beq_of_eq hm)]

/-- A queue that ends in its only LOST marker counts one more posting in it (R150). -/
theorem State.post_marked {s : State} (kind : NoticeKind) (subject value : Nat)
    (hq : s.notices = held ++ [m]) (h : ∀ k ∈ held, k.kind ≠ .lost) (hm : m.kind = .lost) :
    (s.post kind subject value).notices = held ++ [{ m with value := bump m.value }] := by
  rw [State.post, hq]
  exact enqueue_marked _ h hm

/-! ### The shape (R150) -/

theorem queueOk_nil : queueOk [] := by simp [queueOk]

/-- No marker stands before the newest entry, and a newest entry that is the 32nd is one. -/
theorem queueOk_concat : queueOk (held ++ [m]) ↔
    (∀ k ∈ held, k.kind ≠ .lost) ∧ (held.length < 31 ∨ held.length = 31 ∧ m.kind = .lost) := by
  simp [queueOk]

/-- A posting keeps the shape, by the three rows of R150's table. -/
theorem queueOk_enqueue (n : Notice) (h : queueOk q) : queueOk (enqueue q n) := by
  rcases q.eq_nil_or_concat' with rfl | ⟨held, m, rfl⟩
  · exact queueOk_concat (held := []).mpr (by simp)
  · obtain ⟨hheld, hlength⟩ := queueOk_concat.mp h
    by_cases hm : m.kind = .lost
    · rw [enqueue_marked n hheld hm]
      exact queueOk_concat.mpr ⟨hheld, hlength.imp_right fun hfull => ⟨hfull.1, hm⟩⟩
    · have hnone : ∀ k ∈ held ++ [m], k.kind ≠ .lost := by simpa [or_imp, forall_and] using ⟨hheld, hm⟩
      have hroom : (held ++ [m]).length ≤ 31 := by
        have := hlength.resolve_right fun hfull => hm hfull.2
        simpa using this
      by_cases hlt : (held ++ [m]).length < 31
      · rw [enqueue_room _ n hnone hlt]
        exact queueOk_concat.mpr ⟨hnone, .inl hlt⟩
      · rw [enqueue_full n hnone (Nat.not_lt.mp hlt)]
        exact queueOk_concat.mpr ⟨hnone, .inr ⟨Nat.le_antisymm hroom (Nat.not_lt.mp hlt), rfl⟩⟩

/-- The oldest entries leave (R151). -/
theorem queueOk_drop (k : Nat) (h : queueOk q) : queueOk (q.drop k) := by
  rcases q.eq_nil_or_concat' with rfl | ⟨held, m, rfl⟩
  · rwa [List.drop_nil]
  · obtain ⟨hheld, hlength⟩ := queueOk_concat.mp h
    by_cases hk : k ≤ held.length
    · rw [List.drop_append_of_le_length hk, queueOk_concat, List.length_drop]
      refine ⟨fun n hn => hheld n (List.mem_of_mem_drop hn), ?_⟩
      rcases hlength with hlt | ⟨hfull, hm⟩
      · exact .inl (by omega)
      · exact (Nat.lt_or_eq_of_le (by omega)).imp_right fun h => ⟨h, hm⟩
    · have hall : (held ++ [m]).drop k = [] := by
        rw [List.drop_eq_nil_iff, List.length_append]
        exact Nat.not_le.mp hk
      rw [hall]
      exact queueOk_nil

/-- A reset leaves one notice or two (R152). -/
theorem queueOk_resetNotices (cause : ResetCause) (unread : Nat) : queueOk (resetNotices cause unread) := by
  unfold resetNotices
  split <;> simp [queueOk]

end Sys2Proof.Machine
end

section
/-! The decision path changes the notice queue by postings alone, and so keeps its shape (R150): the record unit, the order
unit, the zone logic and the topology unit. -/

namespace Sys2Proof.Machine

open Wire

variable {s t u : State}

/-- What is proved of every operation: a queue in shape before it is in shape after it. -/
def KeepsQueue (s t : State) : Prop := queueOk s.notices → queueOk t.notices

namespace KeepsQueue

theorem refl (s : State) : KeepsQueue s s := id

theorem trans (h : KeepsQueue s t) (h' : KeepsQueue t u) : KeepsQueue s u := h' ∘ h

theorem ite {c : Prop} [Decidable c] (ht : KeepsQueue s t) (hu : KeepsQueue s u) :
    KeepsQueue s (if c then t else u) := by
  split
  · exact ht
  · exact hu

theorem foldl {α : Type} {f : State → α → State} (h : ∀ t x, KeepsQueue t (f t x)) (l : List α) (s : State) :
    KeepsQueue s (l.foldl f s) :=
  List.foldlRecOn (motive := KeepsQueue s) l f (refl s) fun t ht x _ => ht.trans (h t x)

/-- Nothing is posted. -/
theorem same (h : t.notices = s.notices) : KeepsQueue s t := fun hs => h ▸ hs

theorem post (k : NoticeKind) (a b : Nat) : KeepsQueue s (s.post k a b) := queueOk_enqueue _

theorem advanceTo (s : State) (d : Instant) : KeepsQueue s (s.advanceTo d) := same (s.advanceTo_notices d)

theorem mapLink (s : State) (f : Link → Link) : KeepsQueue s (s.mapLink f) := same (s.mapLink_notices f)

theorem countLink (s : State) (f : LinkCounters → LinkCounters) : KeepsQueue s (s.countLink f) := mapLink s _

theorem mapPort (s : State) (f : Port → Port) : KeepsQueue s (s.mapPort f) := same (s.mapPort_notices f)

theorem noteContent (s t : State) : KeepsQueue t (s.noteContent t) := same (s.noteContent_notices t)

/-! ### Record unit -/

theorem recordCreation (b : Bool) (o : Order) (c : Cause) : KeepsQueue s (s.recordCreation b o c) := by
  have room : s.makeRoom.notices = s.notices := by
    unfold State.makeRoom
    split <;> rfl
  exact ite (same room) (same rfl)

theorem recordUpgrade (p : Index) : KeepsQueue s (s.recordUpgrade p) := same rfl

/-- RECORD_CLOSED, and behind it RECORDS_NEARLY_FULL (R145). -/
theorem closeRecord (s : State) : KeepsQueue s s.closeRecord := by
  unfold State.closeRecord
  split
  · exact refl s
  · dsimp only
    exact ite (((same (by rfl)).trans (post _ _ _)).trans (ite ((same (by rfl)).trans (post _ _ _)) (same rfl)))
      ((same (by rfl)).trans (post _ _ _))

/-! ### Order unit -/

theorem mapOrder (p : Index) (f : Order → Order) : KeepsQueue s (s.mapOrder p f) := same rfl

theorem setLockout (p : Index) : KeepsQueue s (s.setLockout p) := ite (refl s) (same rfl)

theorem clearLockouts (s : State) (ps : List Index) : KeepsQueue s (s.clearLockouts ps) := ite (same rfl) (refl s)

/-- A departure posts nothing but the close of the record (R108, R145). -/
theorem depart (p : Index) {f : State → State} (hf : ∀ t, (f t).notices = t.notices) : KeepsQueue s (s.depart p f) := by
  have hleft : KeepsQueue s (f (({ s with orders := s.orders.filter fun o => o.position != p } : State).deenergise p)) :=
    same (hf _)
  exact (ite (hleft.trans (closeRecord _)) hleft).trans (noteContent s _)

theorem release (s : State) (p : Index) : KeepsQueue s (s.release p) := depart p fun _ => rfl

theorem confirm (s : State) (o : Order) : KeepsQueue s (s.confirm o) := by
  have hconfirmed : KeepsQueue s ((s.mapOrder o.position fun q => { q with stage := .confirmed }).recordConfirmation
      o.position) := same rfl
  exact ite (hconfirmed.trans (release _ _)) hconfirmed

theorem judgeOrder (s : State) (p : Index) : KeepsQueue s (s.judgeOrder p) := by
  unfold State.judgeOrder
  split
  · exact refl s
  · next o _ =>
    have hjudged : KeepsQueue s (s.mapOrder p fun q => { q with supervised := !s.unsupervised p }) := same rfl
    have hconfirmed := hjudged.trans (confirm _ o)
    exact ite hjudged (ite (ite hconfirmed hjudged) (ite hconfirmed hjudged))

theorem judgeAttached (s : State) (o : Option Index) : KeepsQueue s (s.judgeAttached o) := by
  cases o with
  | none => exact refl s
  | some p => exact judgeOrder s p

theorem createOrder (p : Index) (c : Cause) (a : Attribute) : KeepsQueue s (s.createOrder p c a) := by
  have driven (v : State) : KeepsQueue v (if a == .live then (v.energise p).setLockout p else v) :=
    ite ((same (by rfl)).trans (setLockout p)) (refl v)
  exact (((same (by rfl)).trans (driven _)).trans (recordCreation _ _ c)).trans (judgeOrder _ p)

theorem upgradeOrder (p : Index) : KeepsQueue s (s.upgradeOrder p) :=
  (((same (by rfl)).trans (setLockout p)).trans (recordUpgrade p)).trans (judgeOrder _ p)

theorem requestOrder (p : Index) (c : Cause) (a : Attribute) : KeepsQueue s (s.requestOrder p c a) := by
  unfold State.requestOrder
  split
  · exact createOrder p c a
  · exact ite ((same (by rfl)).trans (upgradeOrder p)) (same rfl)

theorem requestAll (ps : List Index) (c : Cause) (a : Attribute) : KeepsQueue s (s.requestAll ps c a) :=
  foldl (fun _ p => requestOrder p c a) ps s

theorem requestEdge (s : State) (n p : Index) : KeepsQueue s (s.requestEdge n p) :=
  ite (requestOrder p _ _) (post _ _ _)

/-- ORDER_FAILED, and what the requests for the backups post (R110). -/
theorem failOrder (s : State) (o : Order) : KeepsQueue s (s.failOrder o) := by
  refine KeepsQueue.trans ?_ (noteContent s _)
  unfold State.escalate
  refine ((same (by rfl)).trans (post _ _ _)).trans (ite (refl _) (ite ?_ (requestAll _ _ _)))
  exact (requestAll _ _ _).trans (mapOrder _ _)

theorem stallOrder (s : State) (o : Order) : KeepsQueue s (s.stallOrder o) := (same (by rfl)).trans (post _ _ _)

theorem withdrawDry (s : State) : KeepsQueue s s.withdrawDry := 
  foldl (fun _ p => depart p (f := fun u => u.recordWithdrawal p) fun _ => rfl) _ s

/-! ### Zone logic and topology unit -/

theorem setZone (z : Index) (q : Zone) : KeepsQueue s (s.setZone z q) := same rfl

theorem enterAlert (z : Index) (q : Zone) (r : AlertReason) : KeepsQueue s (s.enterAlert z q r) :=
  ite (setZone _ _) ((setZone _ _).trans (post _ _ _))

/-- A zone replaced, its trip announced and its clearing set requested (R93, R94). -/
theorem trip (z : Index) (q : Zone) (a : Attribute) (k : Nat) :
    KeepsQueue s (((s.setZone z q).post .zoneTrip z k).requestClearing z a) :=
  ((setZone z q).trans (post .zoneTrip z k)).trans (ite (post _ _ _) (requestAll _ _ _))

theorem growZone (z : Index) (entered : List Index) : KeepsQueue s (s.growZone z entered) := by
  unfold State.growZone
  split
  · exact ite (requestAll _ _ _) (refl s)
  · exact refl s

theorem evaluate (z : Index) (entered : List Index) : KeepsQueue s (s.evaluate z entered) := by
  unfold State.evaluate
  refine ite (refl s) ?_
  dsimp only
  split
  case h_1 | h_2 | h_3 | h_4 => exact setZone _ _
  case h_5 | h_6 => exact enterAlert _ _ _
  case h_7 | h_8 => exact trip _ _ _ _
  case h_9 =>
    refine KeepsQueue.trans (ite (setZone _ _) ?_) (growZone z entered)
    split
    · exact trip _ _ _ _
    · exact setZone _ _

theorem evaluateNoted (z : Index) (entered : List Index) : KeepsQueue s (s.evaluateNoted z entered) :=
  (evaluate z entered).trans (noteContent s _)

theorem evaluateWhere (s : State) (w : Index → Bool) : KeepsQueue s (s.evaluateWhere w) :=
  foldl (fun _ z => evaluateNoted z []) _ s

theorem handOver (s t : State) : KeepsQueue t (s.handOver t) :=
  foldl (f := fun v z => v.evaluateNoted z (s.enteredSince t z)) (fun _ z => evaluateNoted z _) _ t

theorem recompute (s : State) : KeepsQueue s s.recompute := (same (by rfl)).trans (handOver s s.replaceSets)

theorem reconfirm (s : State) : KeepsQueue s s.reconfirm := (same (by rfl)).trans (handOver s _)

theorem handLinkInputs (s t : State) : KeepsQueue t (s.handLinkInputs t) := evaluateWhere t _

theorem handChannel (s t : State) (n : Index) : KeepsQueue t (s.handChannel t n) :=
  ite ((noteContent s t).trans (evaluateWhere _ _)) (refl t)

theorem handPoint (s t : State) (m : Index) : KeepsQueue t (s.handPoint t m) := by
  have hjudged : KeepsQueue t (if (s.point m).cp != (t.point m).cp then t.judgeAttached (s.pointSet m).attached else t) :=
    ite (judgeAttached t _) (refl t)
  exact ite (hjudged.trans (evaluateWhere _ _)) hjudged

end KeepsQueue

end Sys2Proof.Machine
end

section
/-! The operations that several commands share keep the queue's shape: positions, protection states, the cross link, the
staged application, the store, a restart and the station port. -/

namespace Sys2Proof.Machine

open Wire

variable {s : State}

namespace KeepsQueue

/-! ### Channels, positions and the protection state -/

/-- A channel's record replaced, and the channel handed over (R12). -/
theorem channelChanged (s : State) (n : Index) (c : Channel) : KeepsQueue s (s.handChannel (s.setChannel n c) n) :=
  (same (by rfl)).trans (handChannel s _ n)

/-- One channel's sample (R4): STEADY_LIGHT at the entry into STEADY, and what the zones post (R11, R12). -/
theorem sampleChannel (s : State) (n : Index) (raw : Nat) : KeepsQueue s (s.sampleChannel n raw) := by
  have steady (v : State) (l : Nat) : KeepsQueue v (s.noteSteady v n l) := ite (post _ _ _) (refl v)
  have hopen : KeepsQueue s (s.sampleOpen n raw) :=
    ite (same rfl) (((same (by rfl)).trans (steady _ _)).trans (handChannel s _ n))
  unfold State.sampleChannel
  refine ite (refl s) ?_
  dsimp only
  split
  · exact same rfl
  · exact same rfl
  · exact hopen

theorem derive (s : State) (p : Index) : KeepsQueue s (s.derive p) := ite (same rfl) ((same (by rfl)).trans (post _ _ _))

/-- POSITION_CHANGE, and what the topology unit and the order unit post (R59). -/
theorem derivePosition (s : State) (p : Index) : KeepsQueue s (s.derivePosition p) :=
  (derive s p).trans (ite (refl _) (ite ((judgeOrder _ p).trans (recompute _)) ((recompute _).trans (judgeOrder _ p))))

/-- A position's record replaced at some instant, and derived anew (R56 to R58). -/
theorem setPosition_derivePosition (s : State) (d : Instant) (p : Index) (q : Position) :
    KeepsQueue s (((s.advanceTo d).setPosition p q).derivePosition p) :=
  (same (t := (s.advanceTo d).setPosition p q) (s.advanceTo_notices d)).trans (derivePosition _ p)

/-- A change of protection state (R153, R159). -/
theorem changeState (s : State) (new : Protection) : KeepsQueue s (s.changeState new) := by
  have cleared (v : State) : KeepsQueue v (if s.control.state = .test then v.clearSimulations.withdrawDry else v) :=
    ite ((same (by rfl)).trans (withdrawDry _)) (refl v)
  exact (((same (by rfl)).trans (post _ _ _)).trans (cleared _)).trans (evaluateWhere _ _)

/-! ### The cross link (R129 to R137) -/

/-- PEER_STATE, REMOTE_REFUSED for each edge refused, and what the zones post (R117, R135, R137). -/
theorem takePeer (s : State) (p : Peer) (c : Content) : KeepsQueue s (s.takePeer p c) := by
  have edges (ps : List Index) (v : State) : KeepsQueue v (ps.foldl (fun v q => v.requestEdge p.unit q) v) :=
    foldl (fun v q => requestEdge v p.unit q) ps v
  have heard : KeepsQueue s (if p.state == .live then s else s.post .peerState p.unit PeerState.live.code) :=
    ite (refl s) (post _ _ _)
  exact (heard.trans (same (by rfl))).trans
    (ite ((edges _ _).trans (handLinkInputs s _)) ((handLinkInputs s _).trans (edges _ _)))

/-- DUPLICATE_UNIT, unless one was posted not long ago (R133). -/
theorem takeDuplicate (s : State) : KeepsQueue s s.takeDuplicate := by
  unfold State.takeDuplicate
  exact ((countLink _ _).trans (ite (refl _) ((post _ _ _).trans (mapLink _ _)))).trans (mapLink _ _)

theorem judgeTelegram (s : State) (bits : List Bit) : KeepsQueue s (s.judgeTelegram bits) := by
  unfold State.judgeTelegram
  refine ite (countLink _ _) (ite (countLink _ _) (ite (takeDuplicate s) ?_))
  split
  · exact takePeer s _ _
  · exact countLink _ _

theorem startBit (s : State) : KeepsQueue s s.startBit := by
  refine (advanceTo s _).trans (t := s.toStartBit) ?_
  unfold State.startBit
  dsimp only
  split
  · exact mapLink _ _
  · exact ite (((mapLink _ _).trans (mapLink _ _)).trans (countLink _ _)) (mapLink _ _)

/-! ### The staged application (R138, R167 to R169) -/

theorem tryChannel (s : State) (n : Index) : KeepsQueue s (s.tryChannel n) :=
  ite ((same (by rfl)).trans (handChannel _ _ n)) (refl s)

theorem takePoint (s : State) (m : Index) : KeepsQueue s (s.takePoint m) := by
  have applied (v : State) (new : PointSettings) : KeepsQueue v (v.applyPoint m new) := by
    refine KeepsQueue.trans (same (by rfl)) (ite (refl _) (ite ?_ ?_))
    · exact ((judgeAttached _ _).trans (judgeAttached _ _)).trans (reconfirm _)
    · exact ((reconfirm _).trans (judgeAttached _ _)).trans (judgeAttached _ _)
  exact (same (by rfl)).trans (applied _ _)

theorem tryPoint (s : State) (m : Index) : KeepsQueue s (s.tryPoint m) := ite (takePoint s m) (refl s)

theorem tryTopology (s : State) : KeepsQueue s s.tryTopology := by
  have rederived (old : TopologySettings) (v : State) (p : Index) : KeepsQueue v (State.rederive old v p) :=
    (same (by rfl)).trans (derive (v.setPosition p _) p)
  have positions (old : TopologySettings) (v : State) : KeepsQueue v ((upTo 8).foldl (State.rederive old) v) :=
    foldl (rederived old) (upTo 8) v
  have replaced (v : State) : KeepsQueue v v.replaceSets := same rfl
  have applied (v : State) (new : TopologySettings) : KeepsQueue v (v.applyTopology new) := by
    unfold State.applyTopology
    exact (((same (by rfl)).trans (positions _ _)).trans (replaced _)).trans (evaluateWhere _ _)
  exact ite ((same (by rfl)).trans (applied _ _)) (refl s)

/-- PEER_STATE for each peer back at WAITING, and what the zones post (R138). -/
theorem tryLink (s : State) : KeepsQueue s s.tryLink := by
  have applied (v : State) (new : LinkSettings) : KeepsQueue v (v.applyLink new) :=
    ((same (by rfl)).trans (foldl (f := fun u n => State.post u .peerState n PeerState.waiting.code)
      (fun _ _ => post _ _ _) _ _)).trans (handLinkInputs v _)
  exact ite ((same (by rfl)).trans (applied _ _)) (refl s)

theorem tryStation (s : State) : KeepsQueue s s.tryStation := ite (same rfl) (refl s)

theorem dropImage (s : State) : KeepsQueue s s.dropImage := ite (refl s) (same rfl)

/-- APPLY_DONE, and what leaving SETUP_FAULT posts (R161, R169). -/
theorem applyDone (s : State) : KeepsQueue s s.applyDone := by
  have hdone : KeepsQueue s (({ s with settings := { s.settings with doneOwed := false } } : State).post
      .applyDone 0 s.settings.serial).dropImage := ((same (by rfl)).trans (post _ _ _)).trans (dropImage _)
  exact ite (hdone.trans (changeState _ _)) hdone

theorem finishApply (before s : State) : KeepsQueue s (before.finishApply s) := ite (applyDone s) (refl s)

theorem forgetCaptured (s : State) (which : Index → Bool) : KeepsQueue s (s.forgetCaptured which) :=
  foldl (f := fun t n => State.setChannel t n { t.channel n with captured := none }) (fun _ _ => same (by rfl)) _ s

theorem acceptCommit (s : State) : KeepsQueue s s.acceptCommit := by
  -- The parts at their safe points, then APPLY_DONE if none waits.
  have parts (v : State) : KeepsQueue v
      ((upTo 4).foldl State.tryPoint ((upTo 16).foldl State.tryChannel v)).tryTopology.tryLink :=
    ((foldl tryChannel _ v).trans (foldl tryPoint _ _)).trans ((tryTopology _).trans (tryLink _))
  have done (v : State) : KeepsQueue v (if v.applying then v
      else if v.sched.doneAfterReply then { v with settings := { v.settings with doneOwed := true } }
      else v.applyDone) := ite (refl v) (ite (same (by rfl)) (applyDone v))
  unfold State.acceptCommit
  exact (((same (by rfl)).trans (forgetCaptured _ _)).trans (parts _)).trans (done _)

/-! ### The store and the restart (R154, R170 to R172) -/

/-- STORE_FAULT where the verify has failed (R171). -/
theorem endWrite (s : State) (c : WriteContent) (o : WriteOutcome) : KeepsQueue s (s.endWrite c o) := by
  have good : KeepsQueue s (s.freeStore.storeGood c) := by cases c <;> exact same (by rfl)
  have bad : KeepsQueue s (s.freeStore.storeBad c) := by cases c <;> exact same (by rfl)
  have failed (v : State) : KeepsQueue v (v.verifyFailed c) := (post _ _ _).trans (same (by rfl))
  cases o with
  | verified => exact good
  | corrupted => exact bad.trans (failed _)
  | unchanged => exact (same (by rfl)).trans (failed s.freeStore)

theorem chooseWrite (s : State) : KeepsQueue s s.chooseWrite := by
  unfold State.chooseWrite
  refine ite (same (by rfl)) ?_
  split
  · exact same (by rfl)
  · exact ite ((same (by rfl)).trans (dropImage _)) (refl s)

/-- Without supply the queue stands (R172). -/
theorem losePower (s : State) : KeepsQueue s s.losePower := by
  have cut (v : State) (c : WriteContent) : (v.cutOff c).notices = v.notices := by
    cases c with
    | record r n => exact (apply_ite (fun u : State => u.notices) _ _ _).trans (ite_self _)
    | settings i => rfl
    | lockout l => rfl
  refine same (t := s.losePower) (show s.cutWrites.notices = s.notices from ?_)
  unfold State.cutWrites
  dsimp only
  split
  · rfl
  · exact cut s.freeStore _

/-- A restart begins the queue anew (R152). -/
theorem restart (s t : State) (cause : ResetCause) : KeepsQueue s (t.restart cause) :=
  fun _ => queueOk_resetNotices cause _

theorem resetPart (s : State) (cause : ResetCause) : KeepsQueue s (s.resetPart cause) := restart s s.completeWrites cause

/-! ### The station port (R174, R178, R179) -/

/-- What follows a reply's last byte (R168, R169, R179). -/
theorem afterReply (s : State) (restart : Bool) : KeepsQueue s (s.afterReply restart) := by
  have hstation : KeepsQueue s (s.finishApply s.tryStation) := (tryStation s).trans (finishApply s _)
  exact ite (resetPart s _) (ite (hstation.trans (applyDone _)) hstation)

theorem beginReply (s : State) : KeepsQueue s s.beginReply := (advanceTo s _).trans (mapPort _ _)

theorem endReply (s : State) : KeepsQueue s s.endReply :=
  ((ite (refl s) (beginReply s)).trans (advanceTo _ _)).trans (mapPort _ _)

theorem setPartTime (s : State) (v : Nat) : KeepsQueue s (s.setPartTime v) := same rfl

theorem broadcastTime (s : State) (body : List Byte) : KeepsQueue s (s.broadcastTime body) :=
  ite (mapPort _ _) (ite (ite ((same (by rfl)).trans (mapPort _ _)) (same rfl)) (setPartTime s _))

/-- An addressed request keeps what the owning block's act keeps. -/
theorem request {kind : Nat} {body : List Byte} {act : State → Handled} (h : ∀ t, KeepsQueue t (act t).state) :
    KeepsQueue s (s.request kind body act) := by
  have hbegin : KeepsQueue s s.beginHandling := same s.beginHandling_notices
  have hjudged : KeepsQueue s (s.beginHandling.judgeRequest kind body act).state := by
    unfold State.judgeRequest
    split
    · exact hbegin
    · exact hbegin.trans (h _)
  exact ite (refl s) (ite (same rfl) (hjudged.trans (same rfl)))

/-- Both of an act's answers keep the shape. -/
theorem handled_ite {c : Prop} [Decidable c] {a b : Handled} (ha : KeepsQueue s a.state) (hb : KeepsQueue s b.state) :
    KeepsQueue s (if c then a else b).state := by
  split
  · exact ha
  · exact hb

end KeepsQueue

end Sys2Proof.Machine
end

section
/-! Every command keeps the queue's shape, and so does every step. Most commands only post; FETCH_NOTICES takes the oldest
entries out, and a restart begins the queue anew. -/

namespace Sys2Proof.Machine

open Wire

variable {s : State}

/-- Whatever next state is answered, the queue is in shape in it if it was before. -/
def AnswersQueue (s : State) (o : Host.Outcome State Fault Refusal) : Prop := ∀ t, o = .next t → KeepsQueue s t

namespace AnswersQueue

theorem next {t : State} (h : KeepsQueue s t) : AnswersQueue s (.next t) := by
  intro u hu
  cases hu
  exact h

/-- A command keeps what its effect keeps. -/
theorem conclude {f : State → State} (h : KeepsQueue s (f s)) : AnswersQueue s (conclude s f) := by
  unfold Machine.conclude
  split
  · exact next (h.trans (.same (settle_notices s _)))
  · exact next (.refl s)

/-- A change of the wiring, with the supply present or without it. -/
theorem wired {f : State → State} {t : State} (hf : (f s).notices = s.notices) (ht : t.notices = s.notices) :
    AnswersQueue s (if s.powered then Machine.conclude s f else .next t) := by
  split
  · exact conclude (.same hf)
  · exact next (.same ht)

/-- A request's command keeps what the act keeps. -/
theorem request {kind : Nat} {body : List Byte} {act : State → State → Handled}
    (h : ∀ t, KeepsQueue t (act s t).state) :
    AnswersQueue s (Machine.conclude s fun s => s.request kind body (act s)) :=
  conclude (.request h)

/-- A request that only reads keeps everything. -/
theorem read {kind : Nat} {body : List Byte} {answer : State → State → List Byte} :
    AnswersQueue s (Machine.conclude s fun s => s.request kind body fun t => accept t (answer s t)) :=
  .request (act := fun s t => accept t (answer s t)) fun t => .refl t

end AnswersQueue

variable (s)

/-! ### Power, reset and state control -/

theorem execPowerOn_queue : AnswersQueue s (execPowerOn s) := by
  unfold execPowerOn
  split
  · exact .conclude (.refl s)
  · exact .next (.restart s _ _)

theorem execPowerLoss_queue : AnswersQueue s (execPowerLoss s) := by
  unfold execPowerLoss
  split
  · exact .next (.losePower s)
  · exact .next (.refl s)

theorem execRestartTerminalPress_queue : AnswersQueue s (execRestartTerminalPress s) := by
  refine .conclude ?_
  split
  · exact .refl s
  · exact (KeepsQueue.advanceTo s _).trans (.resetPart _ _)

theorem execRestartTerminalRelease_queue : AnswersQueue s (execRestartTerminalRelease s) := by
  refine .conclude ?_
  split
  · exact .refl s
  · exact .same (by simp)

theorem execStartingEnd_queue : AnswersQueue s (execStartingEnd s) :=
  .conclude (.ite (.refl s) (((KeepsQueue.advanceTo s _).trans (.recompute _)).trans (.changeState _ _)))

theorem execTestTimeout_queue : AnswersQueue s (execTestTimeout s) := by
  refine .conclude ?_
  split
  · exact ((KeepsQueue.advanceTo s _).trans (.post _ _ _)).trans (.changeState _ _)
  · exact .refl s

/-! ### Light front end and supervision -/

theorem execLightSample_queue (raw : List Nat) : AnswersQueue s (execLightSample raw s) :=
  .conclude (.ite (.refl s) (((KeepsQueue.advanceTo s _).trans (.same (by rfl))).trans
    (.foldl (fun t n => .sampleChannel t n _) _ _)))

theorem execBackgroundUpdate_queue : AnswersQueue s (execBackgroundUpdate s) := .conclude (.ite (.refl s) (.same rfl))

theorem execSupervisionSlot_queue (n : Index) : AnswersQueue s (execSupervisionSlot n s) := by
  have hslot : KeepsQueue s (s.toSlot n) := .ite (.advanceTo s _) ((KeepsQueue.advanceTo s _).trans (.advanceTo _ _))
  exact .conclude (.ite (.refl s) (.ite (hslot.trans (.same rfl)) (.refl s)))

theorem execBurstEnd_queue (n : Index) : AnswersQueue s (execBurstEnd n s) := by
  have judged (t : State) : KeepsQueue t (t.judgeHealth n) :=
    .ite (.refl t) (((KeepsQueue.same (by rfl)).trans (.post _ _ _)).trans (.handChannel t _ n))
  refine .conclude ?_
  split
  · exact .refl s
  · exact .ite (.refl s) ((KeepsQueue.same (by rfl)).trans (judged _))

theorem execCaptureBurstStart_queue (n : Index) : AnswersQueue s (execCaptureBurstStart n s) := by
  refine .conclude ?_
  split
  · exact .refl s
  · exact .ite (.same (by simp)) (.refl s)

theorem execCaptureEnd_queue (n : Index) : AnswersQueue s (execCaptureEnd n s) := by
  have judged (t : State) (candidate : Nat) : KeepsQueue t (t.judgeCandidate n candidate) :=
    .ite ((KeepsQueue.same (by rfl)).trans (.post _ _ _)) (.post _ _ _)
  refine .conclude ?_
  split
  · exact .refl s
  · exact .ite (.refl s) (((KeepsQueue.advanceTo s _).trans (judged _ _)).trans (.same rfl))

/-! ### Current front end and position inputs -/

theorem execCurrentSample_queue (samples : List Int) : AnswersQueue s (execCurrentSample samples s) :=
  .conclude (.ite (.refl s) (((KeepsQueue.advanceTo s _).trans (.same (by rfl))).trans
    (.foldl (fun t m => .handPoint _ t m) _ _)))

theorem execOcHoldExpiry_queue (m : Index) : AnswersQueue s (execOcHoldExpiry m s) :=
  .conclude (.ite ((KeepsQueue.same (by rfl)).trans (.handPoint s _ m)) (.refl s))

theorem execCpClear_queue (m : Index) : AnswersQueue s (execCpClear m s) :=
  .conclude (.ite ((KeepsQueue.same (by rfl)).trans (.handPoint s _ m)) (.refl s))

theorem execDebounceExpiry_queue (p : Index) (c : Contact) : AnswersQueue s (execDebounceExpiry p c s) := by
  refine .conclude ?_
  split
  · exact .refl s
  · exact .setPosition_derivePosition s _ p _

theorem execDiscrepancyExpiry_queue (p : Index) : AnswersQueue s (execDiscrepancyExpiry p s) := by
  refine .conclude ?_
  split
  · exact .refl s
  · exact .setPosition_derivePosition s _ p _

/-! ### Order unit -/

theorem execMinPulseExpiry_queue (p : Index) : AnswersQueue s (execMinPulseExpiry p s) := by
  refine .conclude ?_
  split
  · exact .refl s
  · exact .ite ((KeepsQueue.advanceTo s _).trans (.release _ p))
      (.ite ((KeepsQueue.advanceTo s _).trans (.confirm _ _)) (.refl s))

theorem execBfDeadline_queue (p : Index) : AnswersQueue s (execBfDeadline p s) := by
  refine .conclude ?_
  split
  · exact .refl s
  · exact .ite (((KeepsQueue.advanceTo s _).trans (.failOrder _ _)).trans (.judgeOrder _ p)) (.refl s)

theorem execDriveTimeout_queue (p : Index) : AnswersQueue s (execDriveTimeout p s) := by
  refine .conclude ?_
  split
  · exact .refl s
  · exact .ite ((KeepsQueue.advanceTo s _).trans (.stallOrder _ _)) (.refl s)

theorem execLockoutResetPress_queue : AnswersQueue s (execLockoutResetPress s) := by
  refine .conclude ?_
  split
  · exact .refl s
  · exact ((KeepsQueue.advanceTo s _).trans (.same (by rfl))).trans (.ite (.refl _) (.clearLockouts _ _))

theorem execLockoutButtonRelease_queue : AnswersQueue s (execLockoutButtonRelease s) := by
  refine .conclude ?_
  split
  · exact .refl s
  · exact .same (by simp)

/-! ### Cross link -/

theorem execHeartbeatDue_queue : AnswersQueue s (execHeartbeatDue s) :=
  .conclude (.ite (((KeepsQueue.advanceTo s _).trans (.mapLink _ _))) (.refl s))

theorem execSendDecide_queue : AnswersQueue s (execSendDecide s) :=
  .conclude (.ite (((KeepsQueue.advanceTo s _).trans (.mapLink _ _))) (.refl s))

theorem execTelegramStart_queue : AnswersQueue s (execTelegramStart s) := by
  refine .conclude ?_
  split
  · exact (KeepsQueue.advanceTo s _).trans (.mapLink _ _)
  · exact .refl s

theorem execAttemptVoided_queue : AnswersQueue s (execAttemptVoided s) := .conclude (.ite (.startBit s) (.refl s))

theorem execStartBitSeen_queue : AnswersQueue s (execStartBitSeen s) := .conclude (.ite (.startBit s) (.refl s))

theorem execArbitrationLost_queue : AnswersQueue s (execArbitrationLost s) :=
  .conclude (.ite ((KeepsQueue.mapLink s _).trans (.countLink _ _)) (.refl s))

theorem execBitError_queue (b : Bool) : AnswersQueue s (execBitError b s) :=
  .conclude (.ite (((KeepsQueue.mapLink s _).trans (.countLink _ _)).trans (.ite (.mapLink _ _) (.refl _))) (.refl s))

theorem execTelegramCompleted_queue : AnswersQueue s (execTelegramCompleted s) := by
  refine .conclude ?_
  split
  · exact (KeepsQueue.advanceTo s _).trans (.mapLink _ _)
  · exact .refl s

theorem execTelegramReceived_queue (bits : List Bit) : AnswersQueue s (execTelegramReceived bits s) := by
  refine .conclude ?_
  split
  · exact .refl s
  · exact .ite (.refl s) (((KeepsQueue.advanceTo s _).trans (.mapLink _ _)).trans (.judgeTelegram _ bits))

theorem execLineDisturbance_queue (bits : Nat) : AnswersQueue s (execLineDisturbance s bits) :=
  .conclude (.ite ((((KeepsQueue.advanceTo s _).trans (.mapLink _ _)).trans (.countLink _ _))) (.refl s))

theorem execPeerSilenceExpiry_queue (n : Index) : AnswersQueue s (execPeerSilenceExpiry n s) := by
  refine .conclude ?_
  split
  · exact .refl s
  · exact (((KeepsQueue.advanceTo s _).trans (.same (by rfl))).trans (.post _ _ _)).trans (.handLinkInputs s _)

theorem execSuspensionEnd_queue : AnswersQueue s (execSuspensionEnd s) := by
  refine .conclude ?_
  split
  · exact .refl s
  · exact (KeepsQueue.advanceTo s _).trans (.mapLink _ _)

theorem execDuplicateAlarmExpiry_queue : AnswersQueue s (execDuplicateAlarmExpiry s) := by
  unfold execDuplicateAlarmExpiry
  refine .conclude ?_
  split
  · exact (KeepsQueue.advanceTo s _).trans (.mapLink _ _)
  · exact .refl s

/-! ### Staged application and store -/

theorem execChannelGroupApply_queue (n : Index) : AnswersQueue s (execChannelGroupApply n s) :=
  .conclude ((KeepsQueue.tryChannel s n).trans (.finishApply s _))

theorem execPointGroupApply_queue (m : Index) : AnswersQueue s (execPointGroupApply m s) := by
  have hat : KeepsQueue s (if s.unguarded then s else s.toCurrentInstant) :=
    .ite (.refl s) (.ite (.refl s) (.advanceTo s _))
  exact .conclude (.ite ((hat.trans (.takePoint _ m)).trans (.finishApply s _)) (.refl s))

theorem execTopologyGroupApply_queue : AnswersQueue s (execTopologyGroupApply s) :=
  .conclude ((KeepsQueue.tryTopology s).trans (.finishApply s _))

theorem execLinkGroupApply_queue : AnswersQueue s (execLinkGroupApply s) :=
  .conclude ((KeepsQueue.tryLink s).trans (.finishApply s _))

theorem execStoreWriteBegin_queue : AnswersQueue s (execStoreWriteBegin s) :=
  .conclude (.ite (.refl s) (.chooseWrite s))

theorem execStoreWriteEnd_queue (o : WriteOutcome) : AnswersQueue s (execStoreWriteEnd o s) := by
  refine .conclude ?_
  split
  · exact .refl s
  · exact (KeepsQueue.advanceTo s _).trans (.endWrite _ _ o)

/-! ### Station port -/

theorem execFrameGapTimeout_queue (read : List Byte) : AnswersQueue s (execFrameGapTimeout s read) :=
  .conclude (.ite (.same rfl) (.refl s))

theorem execFramingDiscard_queue (cause : FramingCause) (read : List Byte) :
    AnswersQueue s (execFramingDiscard cause s read) := .conclude (.ite (.same rfl) (.refl s))

theorem execFrameCheckFailure_queue : AnswersQueue s (execFrameCheckFailure s) :=
  .conclude (.ite (.refl s) (.same rfl))

theorem execForeignFrame_queue (address kind : Byte) : AnswersQueue s (execForeignFrame address kind s) :=
  .conclude (.ite (.refl s) (.ite (.same rfl) (.ite (.same rfl) (.ite (.same rfl) (.refl s)))))

theorem execOverrunDiscard_queue : AnswersQueue s (execOverrunDiscard s) := .conclude (.ite (.same rfl) (.refl s))

theorem execIgnoredBroadcast_queue (kind : Byte) : AnswersQueue s (execIgnoredBroadcast kind s) :=
  .conclude (.ite (.refl s) (.ite (.same rfl) (.ite (.same rfl) (.refl s))))

theorem execUnknownKind_queue (kind : Byte) : AnswersQueue s (execUnknownKind kind s) :=
  .conclude (.ite (.refl s) (.request fun t => .refl t))

theorem execReplyStart_queue : AnswersQueue s (execReplyStart s) :=
  .conclude (.ite (.beginReply s) (.refl s))

theorem execReplySent_queue : AnswersQueue s (execReplySent s) :=
  .conclude (.ite ((KeepsQueue.endReply s).trans (.afterReply _ _)) (.refl s))

theorem execTimeSet_queue (broadcast : Bool) (body : List Byte) : AnswersQueue s (execTimeSet broadcast body s) :=
  .conclude (.ite (.ite (.refl s) (.ite (.same rfl) (.broadcastTime s body))) (.request fun t => .setPartTime t _))

/-! ### What the requests do (R151, R157, R166, R167) -/

namespace KeepsQueue

variable {s} in
/-- An accepted request keeps what its effect keeps. -/
theorem accept {t : State} (h : KeepsQueue s t) (body : List Byte) : KeepsQueue s (Machine.accept t body).state := h

/-- Up to eight of the oldest entries leave (R151). -/
theorem fetchNotices : KeepsQueue s s.fetchNotices.state := queueOk_drop 8

theorem commit : KeepsQueue s s.commit.state := by
  unfold State.commit
  refine handled_ite (refl s) (handled_ite (refl s) (handled_ite (refl s) (handled_ite (refl s) ?_)))
  split
  · exact refl s
  · exact accept (acceptCommit s) _

theorem discardPending : KeepsQueue s s.discardPending.state :=
  handled_ite (refl s) ((same (by rfl)).trans (forgetCaptured _ _))

theorem readRecord (body : List Byte) : KeepsQueue s (s.readRecord body).state := by
  unfold State.readRecord
  split <;> exact refl s

theorem readSetting (body : List Byte) : KeepsQueue s (s.readSetting body).state := by
  unfold State.readSetting
  dsimp only
  split <;> exact refl s

theorem ackRecord (number : Nat) : KeepsQueue s (s.ackRecord number).state := by
  unfold State.ackRecord
  split
  · exact refl s
  · split
    · exact refl s
    · exact ite (same rfl) (same rfl)
    · exact refl s

theorem writeSetting (body : List Byte) : KeepsQueue s (s.writeSetting body).state := by
  unfold State.writeSetting
  dsimp only
  split
  · exact refl s
  · split
    · exact refl s
    · exact same rfl

theorem setProtection (target : Nat) : KeepsQueue s (s.setProtection target).state := by
  unfold State.setProtection
  split
  · exact changeState s _
  · exact handled_ite (changeState s _) (refl s)
  · exact changeState s _
  · exact changeState s _
  · exact refl s

theorem channelOut (n : Index) : KeepsQueue s (s.channelOut n).state := by
  unfold State.channelOut
  split
  case h_1 | h_2 | h_3 => exact refl s
  all_goals exact channelChanged s n _

theorem channelIn (n : Index) : KeepsQueue s (s.channelIn n).state := by
  unfold State.channelIn
  split
  case h_3 => exact channelChanged s n _
  all_goals exact refl s

theorem captureReference (n : Index) : KeepsQueue s (s.captureReference n).state := by
  unfold State.captureReference
  dsimp only
  split
  case h_8 => exact handled_ite (refl s) (same rfl)
  all_goals exact refl s

theorem simulateLight (n : Index) (on : Bool) : KeepsQueue s (s.simulateLight n on).state := by
  refine handled_ite (refl s) ?_
  split
  case h_1 | h_2 | h_3 => exact refl s
  all_goals exact channelChanged s n _

theorem simulateCurrent (m : Index) (on : Bool) : KeepsQueue s (s.simulateCurrent m on).state :=
  handled_ite (refl s) (ite (same rfl) ((same (by rfl)).trans (evaluateWhere _ _)))

theorem testTrip (set : List Index) : KeepsQueue s (s.testTrip set).state := by
  refine handled_ite (refl s) ?_
  split
  · exact handled_ite (refl s) (handled_ite (refl s) (requestOrder _ _ _))
  · exact refl s

theorem cancelOrder (p : Index) : KeepsQueue s (s.cancelOrder p).state := by
  unfold State.cancelOrder
  split
  · exact refl s
  · exact handled_ite (release s p) (refl s)

end KeepsQueue

theorem execRestart_queue (body : List Byte) : AnswersQueue s (execRestart body s) :=
  .request (act := fun _ t => accept (t.mapPort fun p => { p with restartAfter := true }) []) fun _ => .same rfl

/-! ### Every command, every step -/

/-- Every command keeps the queue's shape. -/
theorem exec_queue (c : Instr) : AnswersQueue s (exec c s) := by
  cases c with
  | powerOn => exact execPowerOn_queue s
  | powerLoss => exact execPowerLoss_queue s
  | restartTerminalChange b => exact .wired rfl rfl
  | restartTerminalPress => exact execRestartTerminalPress_queue s
  | restartTerminalRelease => exact execRestartTerminalRelease_queue s
  | startingEnd => exact execStartingEnd_queue s
  | testTimeout => exact execTestTimeout_queue s
  | lightSample raw => exact execLightSample_queue s raw
  | backgroundUpdate => exact execBackgroundUpdate_queue s
  | supervisionSlot n => exact execSupervisionSlot_queue s n
  | burstEnd n => exact execBurstEnd_queue s n
  | captureBurstStart n => exact execCaptureBurstStart_queue s n
  | captureEnd n => exact execCaptureEnd_queue s n
  | currentSample samples => exact execCurrentSample_queue s samples
  | ocHoldExpiry m => exact execOcHoldExpiry_queue s m
  | cpClear m => exact execCpClear_queue s m
  | contactRawChange p c on => exact .wired rfl rfl
  | debounceExpiry p c => exact execDebounceExpiry_queue s p c
  | discrepancyExpiry p => exact execDiscrepancyExpiry_queue s p
  | minPulseExpiry p => exact execMinPulseExpiry_queue s p
  | bfDeadline p => exact execBfDeadline_queue s p
  | driveTimeout p => exact execDriveTimeout_queue s p
  | lockoutButtonChange b => exact .wired rfl rfl
  | lockoutResetPress => exact execLockoutResetPress_queue s
  | lockoutButtonRelease => exact execLockoutButtonRelease_queue s
  | heartbeatDue => exact execHeartbeatDue_queue s
  | sendDecide => exact execSendDecide_queue s
  | telegramStart => exact execTelegramStart_queue s
  | attemptVoided => exact execAttemptVoided_queue s
  | startBitSeen => exact execStartBitSeen_queue s
  | arbitrationLost => exact execArbitrationLost_queue s
  | bitError b => exact execBitError_queue s b
  | telegramCompleted => exact execTelegramCompleted_queue s
  | telegramReceived bits => exact execTelegramReceived_queue s bits
  | lineDisturbance bits => exact execLineDisturbance_queue s bits
  | peerSilenceExpiry n => exact execPeerSilenceExpiry_queue s n
  | suspensionEnd => exact execSuspensionEnd_queue s
  | duplicateAlarmExpiry => exact execDuplicateAlarmExpiry_queue s
  | channelGroupApply n => exact execChannelGroupApply_queue s n
  | pointGroupApply m => exact execPointGroupApply_queue s m
  | topologyGroupApply => exact execTopologyGroupApply_queue s
  | linkGroupApply => exact execLinkGroupApply_queue s
  | storeWriteBegin => exact execStoreWriteBegin_queue s
  | storeWriteEnd o => exact execStoreWriteEnd_queue s o
  | frameGapTimeout read => exact execFrameGapTimeout_queue s read
  | framingDiscard cause read => exact execFramingDiscard_queue s cause read
  | frameCheckFailure => exact execFrameCheckFailure_queue s
  | foreignFrame address kind => exact execForeignFrame_queue s address kind
  | overrunDiscard => exact execOverrunDiscard_queue s
  | ignoredBroadcast kind => exact execIgnoredBroadcast_queue s kind
  | unknownKind kind => exact execUnknownKind_queue s kind
  | replyStart => exact execReplyStart_queue s
  | replySent => exact execReplySent_queue s
  | identify body => exact (.read : AnswersQueue s (execIdentify body s))
  | status body => exact (.read : AnswersQueue s (execStatus body s))
  | readChannel body => exact (.read : AnswersQueue s (execReadChannel body s))
  | readPoint body => exact (.read : AnswersQueue s (execReadPoint body s))
  | readPosition body => exact (.read : AnswersQueue s (execReadPosition body s))
  | readZone body => exact (.read : AnswersQueue s (execReadZone body s))
  | readOrders body => exact (.read : AnswersQueue s (execReadOrders body s))
  | readPeers body => exact (.read : AnswersQueue s (execReadPeers body s))
  | readRecord body => exact (.request fun t => .readRecord t body : AnswersQueue s (execReadRecord body s))
  | ackRecord body => exact (.request fun t => .ackRecord t _ : AnswersQueue s (execAckRecord body s))
  | fetchNotices body => exact (.request KeepsQueue.fetchNotices : AnswersQueue s (execFetchNotices body s))
  | readSetting body => exact (.request fun t => .readSetting t body : AnswersQueue s (execReadSetting body s))
  | writeSetting body => exact (.request fun t => .writeSetting t body : AnswersQueue s (execWriteSetting body s))
  | discard body => exact (.request .discardPending : AnswersQueue s (execDiscard body s))
  | commit body => exact (.request .commit : AnswersQueue s (execCommit body s))
  | setState body => exact (.request fun t => .setProtection t _ : AnswersQueue s (execSetState body s))
  | channelOut body => exact (.request fun t => .channelOut t _ : AnswersQueue s (execChannelOut body s))
  | channelIn body => exact (.request fun t => .channelIn t _ : AnswersQueue s (execChannelIn body s))
  | captureReference body => exact (.request fun t => .captureReference t _ : AnswersQueue s (execCaptureReference body s))
  | simulateLight body => exact (.request fun t => .simulateLight t _ _ : AnswersQueue s (execSimulateLight body s))
  | simulateCurrent body => exact (.request fun t => .simulateCurrent t _ _ : AnswersQueue s (execSimulateCurrent body s))
  | testTrip body => exact (.request fun t => .testTrip t _ : AnswersQueue s (execTestTrip body s))
  | cancelOrder body => exact (.request fun t => .cancelOrder t _ : AnswersQueue s (execCancelOrder body s))
  | resetLockout body => exact (.request fun t => .clearLockouts t _ : AnswersQueue s (execResetLockout body s))
  | timeSet broadcast body => exact execTimeSet_queue s broadcast body
  | restart body => exact execRestart_queue s body

/-- Every step keeps the queue's shape. -/
theorem step_queue : AnswersQueue s (step s) := by
  unfold step
  split
  · exact .next (.ite (.advanceTo s _) (.refl s))
  · next c rest _ =>
    intro t ht
    exact (KeepsQueue.same (by rfl)).trans (exec_queue { s with pending := rest } c t ht)

/-- Settles O5: each command posts, takes the oldest entries out or begins the queue anew, and a posting is one of the three
rows of R150's table. -/
theorem noticeQueueKeepsItsShape : Obligations.NoticeQueueKeepsItsShape := by
  refine ⟨fun s hs t ht => step_queue s t ht hs, fun s kind subject value => ⟨rfl, ?room, ?full, ?marked⟩⟩
  case room => exact enqueue_room s.notices _
  case full => exact enqueue_full _
  case marked => exact fun held m hq hheld hm => State.post_marked kind subject value hq hheld hm

end Sys2Proof.Machine
end

section
/-! The contacts and the attention line (R121, R152, R162, R163): what settling makes of them, the seven alarm conditions
written out, and that every step leaves them judged. -/

namespace Sys2Proof.Machine

open Wire

variable {s t : State}

/-! ### The conditions written out (R162, R163) -/

theorem State.healthCondition_iff :
    s.healthCondition = true ↔ s.control.state = .inService ∨ s.control.state = .test := by
  simp [State.healthCondition]

theorem State.channelFault_iff :
    s.channelFault = true ↔ ∃ n ∈ upTo 16, s.usedChannel n = true ∧ (s.channel n).health ≠ .good := by
  simp [State.channelFault]

theorem State.peerMissing_iff :
    s.peerMissing = true ↔ s.control.state ≠ .starting ∧ ∃ p ∈ s.link.peers, p.state ≠ .live := by
  simp [State.peerMissing]

theorem State.positionInvalid_iff :
    s.positionInvalid = true ↔ ∃ p ∈ upTo 8, (s.position p).derived = .invalid := by
  simp [State.positionInvalid]

theorem Store.inFault_iff {st : Store} :
    st.inFault = true ↔ st.faultSettings = true ∨ st.faultLockout = true ∨ st.faultRecord = true := by
  simp [Store.inFault, or_assoc]

/-- The seven of R163, in its order. -/
theorem State.alarmCondition_iff : s.alarmCondition = true ↔
    (∃ n ∈ upTo 16, s.usedChannel n = true ∧ (s.channel n).health ≠ .good) ∨
    (∃ n ∈ upTo 16, s.usedChannel n = true ∧ ((s.channel n).detection = .out ∨ (s.channel n).detection = .steady)) ∨
    (s.control.state ≠ .starting ∧ ∃ p ∈ s.link.peers, p.state ≠ .live) ∨
    (∃ p ∈ upTo 8, (s.position p).derived = .invalid) ∨
    (s.store.faultSettings = true ∨ s.store.faultLockout = true ∨ s.store.faultRecord = true) ∨
    s.link.duplicateAlarm = true ∨
    (s.control.state = .test ∨ s.control.state = .outOfService ∨ s.control.state = .setupFault) := by
  have hout : ((upTo 16).any fun n =>
      s.usedChannel n && ((s.channel n).detection == .out || (s.channel n).detection == .steady)) = true ↔
      ∃ n ∈ upTo 16, s.usedChannel n = true ∧ ((s.channel n).detection = .out ∨ (s.channel n).detection = .steady) := by
    simp
  have hstate : (s.control.state == .test || s.control.state == .outOfService || s.control.state == .setupFault) = true ↔
      s.control.state = .test ∨ s.control.state = .outOfService ∨ s.control.state = .setupFault := by
    simp [or_assoc]
  simp only [State.alarmCondition, Bool.or_eq_true, ← State.channelFault_iff, ← State.peerMissing_iff,
    ← State.positionInvalid_iff, ← Store.inFault_iff, ← hout, ← hstate, or_assoc]

/-! ### Settling -/

/-- Settles O2: settling is `settle_eq`, its conditions are those of R162 and R163. -/
theorem settlingJudgesContacts : Obligations.SettlingJudgesContacts := by
  unfold Obligations.SettlingJudgesContacts
  intro s t
  rw [settle_eq]
  refine ⟨rfl, rfl, ?health, ?alarm, ?link, rfl⟩
  case health => exact Bool.and_eq_true_iff.trans (and_congr_right fun _ => State.healthCondition_iff)
  case alarm => exact Bool.and_eq_true_iff.trans (and_congr_right fun _ => State.alarmCondition_iff)
  case link => simp only [Bool.and_eq_true, beq_iff_eq, bne_iff_ne]

/-! ### Every command, every step -/

/-- Contacts just judged agree with the state, whatever it is. -/
theorem State.judgeContacts_agree (s : State) : s.judgeContacts.contactsAgree := ⟨rfl, rfl, rfl, rfl⟩

/-- Without supply the rule says that all four are released, and reads nothing else. -/
theorem State.contactsAgree.of_unpowered (hs : s.contactsAgree) (hp : s.powered = false) (ht : t.powered = false)
    (hc : (t.lockoutContact, t.attention, t.health, t.alarm) = (s.lockoutContact, s.attention, s.health, s.alarm)) :
    t.contactsAgree := by
  simp only [Prod.mk.injEq] at hc
  obtain ⟨hl, ha, hh, hm⟩ := hc
  simpa only [State.contactsAgree, hl, ha, hh, hm, hp, ht, Bool.false_and] using hs

/-- Whatever next state is answered, the contacts agree in it if they did before. -/
def AnswersContacts (s : State) (o : Host.Outcome State Fault Refusal) : Prop :=
  s.contactsAgree → ∀ t, o = .next t → t.contactsAgree

namespace AnswersContacts

theorem next (h : s.contactsAgree → t.contactsAgree) : AnswersContacts s (.next t) := by
  intro hs u hu
  cases hu
  exact h hs

/-- With the supply present the effect is settled; without it nothing happens. -/
theorem conclude (f : State → State) : AnswersContacts s (conclude s f) := by
  unfold Machine.conclude
  split
  · exact next fun _ => State.judgeContacts_agree _
  · exact next id

/-- A change of the wiring, with the supply present or without it. -/
theorem wired (f : State → State) (ht : t.powered = s.powered)
    (hc : (t.lockoutContact, t.attention, t.health, t.alarm) = (s.lockoutContact, s.attention, s.health, s.alarm)) :
    AnswersContacts s (if s.powered then Machine.conclude s f else .next t) := by
  split
  · exact conclude f
  · next hp =>
    rw [Bool.not_eq_true] at hp
    exact next fun hs => hs.of_unpowered hp (ht.trans hp) hc

end AnswersContacts

variable (s)

/-- Every command concludes but those of the supply and of the wiring. -/
theorem exec_contacts (c : Instr) : AnswersContacts s (exec c s) := by
  cases c with
  | powerOn =>
    show AnswersContacts s (execPowerOn s)
    unfold execPowerOn
    split
    · exact .conclude id
    · exact .next fun _ => State.judgeContacts_agree _
  | powerLoss =>
    show AnswersContacts s (execPowerLoss s)
    unfold execPowerLoss
    split
    · exact .next fun _ => State.judgeContacts_agree _
    · exact .next id
  | restartTerminalChange b => exact .wired _ rfl rfl
  | lockoutButtonChange b => exact .wired _ rfl rfl
  | contactRawChange p c b => exact .wired _ rfl rfl
  | _ =>
    dsimp only [exec]
    exact .conclude _

/-- Every step leaves the contacts judged: nothing that they are judged by changes as time passes or a command leaves the
queue. -/
theorem step_contacts : AnswersContacts s (step s) := by
  unfold step
  split
  · refine .next fun hs => ?_
    unfold State.idle
    split
    · rw [s.advanceTo_eq]
      exact hs
    · exact hs
  · next c rest _ => exact fun hs => exec_contacts { s with pending := rest } c hs

/-- Settles O4: every command ends with the contacts judged anew, or changes nothing that they are judged by. -/
theorem contactsAlwaysAgree : Obligations.ContactsAlwaysAgree := fun s hs t ht => step_contacts s hs t ht

/-! ### Reset -/

/-- Settles O3: the state after reset is one that a restart leaves, which meets every rule whatever it restarts from; with
no copy in the store none of those is OPEN. -/
theorem resetMeetsEveryRule : Obligations.ResetMeetsEveryRule := by
  unfold Obligations.ResetMeetsEveryRule
  rw [← reset_is_restart]
  refine ⟨State.judgeContacts_agree _, queueOk_resetNotices _ _, State.restart_ordersAgree ?blank _,
    State.restart_channelsWithin _ _, State.linkAgrees_iff.mpr (Link.fresh_fits _ _ id), ?zones,
    State.restart_zonesJudged _ _, State.topologyCurrent_iff.mpr ⟨?shaped, State.restart_topologyComputed _ _⟩,
    .of_noOrders rfl⟩
  case blank => exact ⟨fun _ hp => absurd hp List.not_mem_nil, fun _ hw => absurd hw (Option.not_mem_none _)⟩
  case zones =>
    rw [reset_is_restart]
    unfold State.zonesAgree
    decide
  case shaped => exact (State.restart_zonesJudged _ _).1

end Sys2Proof.Machine
end

section
/-! A restart and the state it leaves (R154, R155), the writes it waits for (R172), and the two buttons (R123, R154). -/

namespace Sys2Proof.Machine

open Wire

variable {s t : State} {cause : ResetCause}

/-! ### What a restart leaves (R154) -/

/-- A pending channel group after a restart: the active one, but for the T_ref of a channel in capture where the schedule
has it survive (R39, R164). -/
theorem State.restart_pendingChannel (s : State) (cause : ResetCause) {n : Index} (hn : n ∈ upTo 16) :
    item (s.restart cause).settings.pending.channels .factory n =
      if s.sched.referenceKept = true ∧ (s.channel n).detection = .referencing then
        { (s.restart cause).channelSet n with reference := (item s.settings.pending.channels .factory n).reference }
      else (s.restart cause).channelSet n := by
  show item (s.restartPending s.store.loadedSettings).channels .factory n = _
  unfold State.restartPending
  cases s.sched.referenceKept with
  | false =>
    simp only [Bool.false_eq_true, false_and, if_false]
    rfl
  | true =>
    simp only [if_true, item_map_upTo _ _ hn, true_and, beq_iff_eq]
    rfl

/-- Beside its channel groups the pending set is the active one (R164). -/
theorem State.restart_pending (s : State) (cause : ResetCause) :
    (s.restart cause).settings.pending =
      { (s.restart cause).settings.active with channels := (s.restart cause).settings.pending.channels } := by
  show s.restartPending s.store.loadedSettings =
    { s.store.loadedSettings with channels := (s.restartPending s.store.loadedSettings).channels }
  unfold State.restartPending
  split <;> rfl

/-- The image that loads is the active set, with its number; without one the factory's are, with 0 (R164, R172). -/
theorem Store.loadedSettings_cases (st : Store) :
    (∀ i ∈ st.goodImage, st.loadedSettings = i.settings ∧ (st.goodImage.elim 0 fun i => i.serial) = i.serial) ∧
      (st.goodImage = none → st.loadedSettings = .factory ∧ (st.goodImage.elim 0 fun i => i.serial) = 0) := by
  unfold Store.loadedSettings
  constructor
  · intro i hi
    rw [Option.mem_def.mp hi]
    exact ⟨rfl, rfl⟩
  · intro hnone
    rw [hnone]
    exact ⟨rfl, rfl⟩

/-- The lockouts that load are the stored ones, or all (R172). -/
theorem State.restart_lockout (s : State) (cause : ResetCause) :
    (∀ l ∈ s.store.goodLockout, (s.restart cause).lockout = l) ∧
      (s.store.goodLockout = none → (s.restart cause).lockout = upTo 8) := by
  show (∀ l ∈ s.store.goodLockout, s.store.goodLockout.getD (upTo 8) = l) ∧
    (s.store.goodLockout = none → s.store.goodLockout.getD (upTo 8) = upTo 8)
  constructor
  · intro l hl
    rw [Option.mem_def.mp hl]
    rfl
  · intro hnone
    rw [hnone]
    rfl

/-- A point record after a restart is a fresh one, whatever number reads it (R54). -/
theorem State.restart_point (s : State) (cause : ResetCause) {m : Index} (hm : m ∈ upTo 4) :
    (s.restart cause).point m = .fresh := by
  show item ((upTo 4).map fun _ => Point.fresh) .fresh m = .fresh
  exact item_map_upTo _ _ hm

/-- A restart takes every block's values of after a restart, field by field. -/
theorem State.restart_leaves (s : State) (cause : ResetCause) : s.resetLeaves cause (s.restart cause) := by
  obtain ⟨hgood, hfactory⟩ := s.store.loadedSettings_cases
  obtain ⟨hloaded, hall⟩ := s.restart_lockout cause
  refine ⟨⟨rfl, rfl, rfl, rfl, rfl, rfl⟩, rfl, ⟨hgood, hfactory, rfl, rfl, rfl⟩,
    ⟨s.restart_pending cause, fun hcopy n hn => ?copied, fun hkept n hn => ?kept⟩, fun n hn => ?channel,
    fun m hm => s.restart_point cause hm, ⟨fun p hp => ?position, fun z hz => ?zone⟩, ⟨rfl, rfl, hloaded, hall⟩,
    ⟨rfl, rfl, rfl⟩, ⟨rfl, rfl⟩, rfl, rfl, rfl, rfl, rfl, rfl⟩
  case copied =>
    rw [s.restart_pendingChannel cause hn, if_neg]
    rintro ⟨hkept, href⟩
    rcases hcopy with hno | hnone
    · rw [hkept] at hno
      exact Bool.noConfusion hno
    · exact hnone n hn href
  case kept =>
    rw [s.restart_pendingChannel cause hn]
    by_cases href : (s.channel n).detection = .referencing
    · rw [if_pos ⟨hkept, href⟩, if_pos href]
    · rw [if_neg fun h => href h.2, if_neg href]
  case channel =>
    exact item_map_upTo (fun n => Channel.fresh ((item s.store.loadedSettings.channels .factory n).kind != .unused)) _ hn
  case position =>
    exact item_map_upTo (fun p => (s.position p).restart (s.store.loadedSettings.topology.usedPosition p)
      (item s.store.loadedSettings.topology.positions .factory p).wired) _ hp
  case zone =>
    exact item_map_upTo (fun z => Zone.fresh ((s.restart cause).clearingSet z)
      ((s.restart cause).confirmationSet ((s.restart cause).clearingSet z))) _ hz

/-- A restart ends with its contacts judged and a transmitter that is not IDLE: the end of a command adds nothing. -/
theorem settle_restart (s u : State) (cause : ResetCause) : settle s (u.restart cause) = u.restart cause := by
  have hidle : ((u.restart cause).link.tx == .idle) = false := by
    show ((if u.store.loadedSettings.link.unit = 0 then Transmitter.off else .due) == .idle) = false
    split <;> rfl
  unfold settle State.noteContent
  rw [hidle]
  rfl

/-! ### The writes completed before a restart (R172) -/

/-- A write completed changes the store, and the mark of its record. -/
theorem State.completeWrites_eq (s : State) : s.completeWrites =
    { s with store := s.completeWrites.store, records := s.completeWrites.records } := by
  have good (u : State) (c : WriteContent) :
      u.storeGood c = { u with store := (u.storeGood c).store, records := (u.storeGood c).records } := by
    cases c <;> rfl
  have busy : s.completeBusy = { s with store := s.completeBusy.store, records := s.completeBusy.records } := by
    unfold State.completeBusy
    split
    · rfl
    · exact good s.freeStore _
  unfold State.completeWrites
  dsimp only
  split
  · rw [busy]
    rfl
  · exact busy

/-- What completes does not depend on the instant. -/
theorem State.advanceTo_completeWrites (s : State) (d : Instant) : (s.advanceTo d).completeWrites =
    { s.completeWrites with
      clock := (s.advanceTo d).clock, partTime := (s.advanceTo d).partTime, msPhase := (s.advanceTo d).msPhase } := by
  have busy : (s.advanceTo d).completeBusy = { s.completeBusy with
      clock := (s.advanceTo d).clock, partTime := (s.advanceTo d).partTime, msPhase := (s.advanceTo d).msPhase } := by
    unfold State.completeBusy
    rw [s.advanceTo_store, s.advanceTo_eq]
    split
    · rfl
    · next w _ => cases w.content <;> rfl
  unfold State.completeWrites
  rw [busy]
  dsimp only
  split <;> rfl

/-- A reset leaves the same at whatever instant it comes: the clock begins anew (R154). -/
theorem State.advanceTo_resetPart (s : State) (d : Instant) (cause : ResetCause) :
    (s.advanceTo d).resetPart cause = s.completeWrites.restart cause := by
  rw [State.resetPart, s.advanceTo_completeWrites]
  rfl

/-- The store after the writes: that of the write in progress, and the lockouts if their write waited. -/
theorem State.completeWrites_store (s : State) : s.completeWrites.store =
    if s.store.waitLockout then { s.completeBusy.store with lockout := .good s.lockout } else s.completeBusy.store := by
  have hbusy : s.completeBusy.store.waitLockout = s.store.waitLockout ∧ s.completeBusy.lockout = s.lockout := by
    unfold State.completeBusy
    split
    · exact ⟨rfl, rfl⟩
    · next w _ => cases w.content <;> exact ⟨rfl, rfl⟩
  obtain ⟨hwait, hlockout⟩ := hbusy
  rw [State.completeWrites, ← hwait, ← hlockout]
  split <;> rfl

theorem State.completeBusy_of_busy {w : Write} (h : s.store.busy = some w) :
    s.completeBusy = s.freeStore.storeGood w.content := by
  rw [State.completeBusy, h]

theorem State.completeBusy_of_free (h : s.store.busy = none) : s.completeBusy = s := by
  rw [State.completeBusy, h]

/-! ### The buttons (R123, R154) -/

/-- A debounce is due where the button stands as wired, was taken otherwise, and its timer runs. -/
theorem Button.due_eq_some {b : Button} {closed : Bool} {d : Instant} :
    b.due closed = some d ↔ b.raw = closed ∧ b.taken = !closed ∧ b.timer = some d := by
  have htest : (b.raw == closed && b.taken != closed) = true ↔ b.raw = closed ∧ b.taken = !closed := by
    rw [Bool.and_eq_true, beq_iff_eq, bne_iff_ne, Bool.eq_not]
  rw [Button.due]
  split
  · next h => simp [htest.mp h]
  · next h => simp [← and_assoc, mt htest.mpr h]

theorem Button.due_eq_none {b : Button} {closed : Bool} :
    b.due closed = none ↔ ¬(b.raw = closed ∧ b.taken = !closed ∧ b.timer.isSome) := by
  rw [Option.eq_none_iff_forall_ne_some]
  simp only [ne_eq, Button.due_eq_some, Option.isSome_iff_exists]
  exact ⟨fun h ⟨hr, ht, d, hd⟩ => h d ⟨hr, ht, hd⟩, fun h d ⟨hr, ht, hd⟩ => h ⟨hr, ht, d, hd⟩⟩

theorem Button.change_of_ne {b : Button} {closed : Bool} (now : Instant) (h : closed ≠ b.raw) :
    b.change now closed =
      { raw := closed, taken := b.taken, timer := if closed = b.taken then none else some (now + 48000) } := by
  rw [Button.change, if_neg (by simpa using h)]
  simp only [beq_iff_eq]
  rfl

theorem Button.change_same (b : Button) (now : Instant) : b.change now b.raw = b := by
  rw [Button.change, if_pos (beq_self_eq_true _)]

/-! ### The commands -/

theorem exec_restartTerminalChange (hp : s.powered = true) (closed : Bool) :
    exec (.restartTerminalChange closed) s =
      .next (settle s { s with terminal := s.terminal.change s.clock closed }) := by
  show execRestartTerminalChange closed s = _
  rw [execRestartTerminalChange, if_pos hp, conclude_powered s _ hp]

theorem exec_lockoutButtonChange (hp : s.powered = true) (closed : Bool) :
    exec (.lockoutButtonChange closed) s =
      .next (settle s { s with button := s.button.change s.clock closed }) := by
  show execLockoutButtonChange closed s = _
  rw [execLockoutButtonChange, if_pos hp, conclude_powered s _ hp]

/-- With no press due the command does nothing (R154). -/
theorem exec_restartTerminalPress_none (hp : s.powered = true) (h : s.terminal.due true = none) :
    exec .restartTerminalPress s = .next (settle s s) := by
  show execRestartTerminalPress s = _
  rw [execRestartTerminalPress, conclude_powered s _ hp]
  simp only [h]

/-- A press that is due resets the part (R154). -/
theorem exec_restartTerminalPress_some {d : Instant} (hp : s.powered = true) (h : s.terminal.due true = some d) :
    exec .restartTerminalPress s = .next (s.completeWrites.restart .restartTerminal) := by
  show execRestartTerminalPress s = _
  rw [execRestartTerminalPress, conclude_powered s _ hp]
  simp only [h]
  rw [State.advanceTo_resetPart, settle_restart]

theorem exec_restartTerminalRelease {d : Instant} (hp : s.powered = true) (h : s.terminal.due false = some d) :
    exec .restartTerminalRelease s = .next (settle s { s.advanceTo d with terminal := s.terminal.take }) := by
  show execRestartTerminalRelease s = _
  rw [execRestartTerminalRelease, conclude_powered s _ hp]
  simp only [h]

theorem exec_lockoutButtonRelease {d : Instant} (hp : s.powered = true) (h : s.button.due false = some d) :
    exec .lockoutButtonRelease s = .next (settle s { s.advanceTo d with button := s.button.take }) := by
  show execLockoutButtonRelease s = _
  rw [execLockoutButtonRelease, conclude_powered s _ hp]
  simp only [h]

/-- Settles O14: the press by whether it is due, the writes before its reset one by one, and the buttons by their records. -/
theorem buttonsAndTerminalDebounce : Obligations.ButtonsAndTerminalDebounce := by
  unfold Obligations.ButtonsAndTerminalDebounce
  refine ⟨fun s hp => ⟨?press, ?early, ?settings, ?lockout, ?record, ?waiting, ?nothing⟩,
    fun s hp => ⟨?terminal, ?terminalSame, ?button, ?buttonSame, ?terminalRelease, ?buttonRelease⟩⟩
  case press =>
    rintro ⟨hraw, htaken, htimer⟩
    obtain ⟨d, hd⟩ := Option.isSome_iff_exists.mp htimer
    have hdue : s.terminal.due true = some d := Button.due_eq_some.mpr ⟨hraw, htaken, hd⟩
    refine ⟨_, exec_restartTerminalPress_some hp hdue, ?_, State.restart_leaves _ _⟩
    rw [s.completeWrites_eq]
    exact hp
  case early => exact fun hno => exec_restartTerminalPress_none hp (Button.due_eq_none.mpr hno)
  case settings =>
    intro i e hbusy
    rw [s.completeWrites_store, State.completeBusy_of_busy hbusy]
    split <;> rfl
  case lockout =>
    intro l e hbusy hwait
    rw [s.completeWrites_store, State.completeBusy_of_busy hbusy, hwait]
    rfl
  case record =>
    intro r k e hbusy
    rw [s.completeWrites_store, State.completeBusy_of_busy hbusy]
    split <;> exact ⟨rfl, rfl⟩
  case waiting =>
    intro hwait
    rw [s.completeWrites_store, if_pos hwait]
  case nothing =>
    intro hbusy hwait
    rw [State.completeWrites, State.completeBusy_of_free hbusy, hwait]
    rfl
  case terminal =>
    intro b hb
    rw [exec_restartTerminalChange hp, Button.change_of_ne _ hb]
  case terminalSame => rw [exec_restartTerminalChange hp, Button.change_same]
  case button =>
    intro b hb
    rw [exec_lockoutButtonChange hp, Button.change_of_ne _ hb]
  case buttonSame => rw [exec_lockoutButtonChange hp, Button.change_same]
  case terminalRelease =>
    intro d hd hraw htaken
    rw [exec_restartTerminalRelease hp (Button.due_eq_some.mpr ⟨hraw, htaken, hd⟩), Button.take, hraw]
  case buttonRelease =>
    intro d hd hraw htaken
    rw [exec_lockoutButtonRelease hp (Button.due_eq_some.mpr ⟨hraw, htaken, hd⟩), Button.take, hraw]

end Sys2Proof.Machine
end

section
/-! The supply comes and goes (R154, R172): what a loss of supply leaves of the store, and that without supply only the wiring
changes. -/

namespace Sys2Proof.Machine

open Wire

variable {s : State}

/-! ### The write cut off (R148, R172) -/

/-- A write cut off changes the store, the mark of its record, and draws a free value. -/
theorem State.cutOff_eq (s : State) (c : WriteContent) : s.cutOff c =
    { s with store := (s.cutOff c).store, records := (s.cutOff c).records, freeIndex := (s.cutOff c).freeIndex } := by
  cases c with
  | settings | lockout => rfl
  | record r k =>
    unfold State.cutOff
    dsimp only
    split <;> rfl

theorem State.cutWrites_eq (s : State) : s.cutWrites =
    { s with store := s.cutWrites.store, records := s.cutWrites.records, freeIndex := s.cutWrites.freeIndex } := by
  unfold State.cutWrites
  dsimp only
  split
  · rfl
  · rw [s.freeStore.cutOff_eq]
    rfl

/-- Nothing is in progress and nothing waits (R172). -/
theorem State.cutWrites_idle (s : State) :
    s.cutWrites.store.busy = none ∧ s.cutWrites.store.waitSettings = false ∧ s.cutWrites.store.waitLockout = false ∧
      s.cutWrites.store.waitRecords = [] := by
  refine ⟨?_, rfl, rfl, rfl⟩
  unfold State.cutWrites
  dsimp only
  split
  · next h => exact h
  · next w _ =>
    cases w.content with
    | settings | lockout => rfl
    | record r k =>
      unfold State.cutOff
      dsimp only
      split <;> rfl

theorem State.cutWrites_of_busy {w : Write} (h : s.store.busy = some w) :
    s.cutWrites.store.image = (s.freeStore.cutOff w.content).store.image ∧
      s.cutWrites.store.lockout = (s.freeStore.cutOff w.content).store.lockout ∧
      s.cutWrites.store.records = (s.freeStore.cutOff w.content).store.records ∧
      s.cutWrites.store.nextNumber = (s.freeStore.cutOff w.content).store.nextNumber := by
  rw [State.cutWrites, h]
  exact ⟨rfl, rfl, rfl, rfl⟩

theorem State.cutWrites_of_free (h : s.store.busy = none) :
    s.cutWrites.store.image = s.store.image ∧ s.cutWrites.store.lockout = s.store.lockout ∧
      s.cutWrites.store.records = s.store.records ∧ s.cutWrites.store.nextNumber = s.store.nextNumber := by
  rw [State.cutWrites, h]
  exact ⟨rfl, rfl, rfl, rfl⟩

/-- A record's write has a place of its own where fewer than sixteen stand and none is of it or of the one it replaces. -/
theorem freePlace_iff {places : List StoredRecord} {r : TripRecord} : freePlace places r = true ↔
    places.length < 16 ∧ (r.written = true → ∀ q ∈ places, q.number ≠ r.number) ∧
      ∀ q ∈ places, r.replaces ≠ some q.number := by
  have hown : (!rewrites places r) = true ↔ (r.written = true → ∀ q ∈ places, q.number ≠ r.number) := by
    simp [rewrites, imp_iff_not_or]
  have hreplaced : (!places.any fun q => r.replaces == some q.number) = true ↔
      ∀ q ∈ places, r.replaces ≠ some q.number := by simp
  rw [freePlace, Bool.and_eq_true, Bool.and_eq_true, decide_eq_true_iff, hown, hreplaced, and_assoc]

/-- The number that a cut-off RECORD write leaves is one of 1 to 65535, be its content's place touched or not. -/
theorem State.cutOff_record_number (s : State) (r : TripRecord) (k : Nat) :
    ∃ n ∈ (s.cutOff (.record r k)).store.nextNumber, 1 ≤ n ∧ n ≤ 65535 := by
  refine ⟨Config.cutRecordNumber s.freeIndex % 65535 + 1, ?_, Nat.le_add_left _ _, Nat.mod_lt _ (by decide)⟩
  unfold State.cutOff
  dsimp only
  split <;> exact rfl

/-- What the loss of supply leaves: lockout, wiring, zones, front ends but for the incident peaks, settings, part time and
notices. -/
theorem State.losePower_leaves (s : State) :
    s.losePower.lockout = s.lockout ∧ s.losePower.positions = s.positions ∧ s.losePower.button = s.button ∧
      s.losePower.terminal = s.terminal ∧ s.losePower.zones = s.zones ∧ s.losePower.light = s.light ∧
      s.losePower.current =
        { s.current with points := s.current.points.map fun p : Point => { p with peak := none } } ∧
      s.losePower.settings = s.settings ∧ s.losePower.control = s.control ∧ s.losePower.clock = s.clock ∧
      s.losePower.partTime = s.partTime ∧ s.losePower.notices = s.notices ∧ s.losePower.pending = s.pending := by
  unfold State.losePower
  rw [s.cutWrites_eq]
  exact ⟨rfl, rfl, rfl, rfl, rfl, rfl, rfl, rfl, rfl, rfl, rfl, rfl, rfl⟩

/-! ### The commands -/

theorem exec_powerLoss (hp : s.powered = true) : exec .powerLoss s = .next s.losePower := by
  show execPowerLoss s = _
  rw [execPowerLoss, if_pos hp]

/-- Without supply a command does nothing, but for POWER_ON and the changes of the wiring. -/
theorem exec_unpowered (hp : s.powered = false) {c : Instr} (hon : c ≠ .powerOn)
    (hterminal : ∀ b, c ≠ .restartTerminalChange b) (hbutton : ∀ b, c ≠ .lockoutButtonChange b)
    (hcontact : ∀ p k b, c ≠ .contactRawChange p k b) : exec c s = .next s := by
  cases c with
  | powerOn => exact absurd rfl hon
  | restartTerminalChange b => exact absurd rfl (hterminal b)
  | lockoutButtonChange b => exact absurd rfl (hbutton b)
  | contactRawChange p k b => exact absurd rfl (hcontact p k b)
  | powerLoss =>
    show execPowerLoss s = _
    rw [execPowerLoss, hp]
    rfl
  | _ =>
    dsimp only [exec]
    exact conclude_unpowered s _ hp

/-- Settles O13: POWER_ON is a restart, POWER_LOSS is `State.losePower` by the write it cuts off, and without supply
nothing is concluded. -/
theorem supplyComesAndGoes : Obligations.SupplyComesAndGoes := by
  unfold Obligations.SupplyComesAndGoes
  refine ⟨fun s => ⟨fun hp => ?on, fun hp => ?stays⟩, fun s hp => ⟨_, exec_powerLoss hp, ?loss⟩,
    fun s hp => ⟨fun c => exec_unpowered hp, ?terminal, ?button, ?closing, ?opening⟩⟩
  case on =>
    refine ⟨({ s with powered := true } : State).restart .powerOn, ?_, rfl, State.restart_leaves { s with powered := true } _⟩
    show execPowerOn s = _
    rw [execPowerOn, hp]
    rfl
  case stays =>
    show execPowerOn s = _
    rw [execPowerOn, if_pos hp, conclude_powered s _ hp]
    rfl
  case loss =>
    refine ⟨⟨rfl, rfl, rfl, rfl, rfl, rfl, rfl, rfl, rfl⟩, s.cutWrites_idle, ?_⟩
    have hstands := s.losePower_leaves
    cases hbusy : s.store.busy with
    | none =>
      obtain ⟨himage, hlockout, hrecords, hnumber⟩ := State.cutWrites_of_free hbusy
      exact ⟨himage, hlockout, hrecords, fun _ => hnumber, fun hw => absurd rfl hw, hstands⟩
    | some w =>
      obtain ⟨c, e⟩ := w
      obtain ⟨himage, hlockout, hrecords, hnumber⟩ := State.cutWrites_of_busy hbusy
      cases c with
      | settings i => exact ⟨himage, hlockout, hrecords, fun _ => hnumber, fun hw => absurd rfl hw, hstands⟩
      | lockout l => exact ⟨himage, hlockout, hrecords, fun _ => hnumber, fun hw => absurd rfl hw, hstands⟩
      | record r k =>
        obtain ⟨hi, hl, hr⟩ := s.freeStore.cutOff_record r k
        simp only [freePlace_iff] at hr
        exact ⟨himage.trans hi, hlockout.trans hl, hrecords.trans hr, fun hw => absurd hw (Option.some_ne_none _),
          fun _ => hnumber.symm ▸ s.freeStore.cutOff_record_number r k, hstands⟩
  case terminal =>
    intro b
    show execRestartTerminalChange b s = _
    rw [execRestartTerminalChange, hp]
    rfl
  case button =>
    intro b
    show execLockoutButtonChange b s = _
    rw [execLockoutButtonChange, hp]
    rfl
  case closing =>
    intro p b
    show execContactRawChange p .cl b s = _
    rw [execContactRawChange, hp]
    rfl
  case opening =>
    intro p b
    show execContactRawChange p .op b s = _
    rw [execContactRawChange, hp]
    rfl

end Sys2Proof.Machine
end

section
/-! TEST left with room for the trip record pushed out (R143, R159). A state's settings may list more positions than the eight
of R1, and the claims on leaving TEST ask for the minimum pulses of those eight alone. An order for a ninth without a pulse
goes as it comes, and its trip record opens and closes with it: sixteen of them in one command push out the record of the
withdrawn orders. -/

namespace Sys2Proof.Machine

open Wire

/-- The record of a DRY order for position 1, OPEN. -/
def dryRecord : TripRecord :=
  { number := 100, kind := .dry, state := .opened, openedAt := 0, cause := ⟨.test, 0⟩, light := [], zones := []
    peaks := none, lost := 0, olderLost := false, written := false, replaces := none
    entries := [{ position := 1, cause := ⟨.test, 0⟩, live := false, stage := .driving, created := 0
                  confirmed := none, released := none }] }

/-- In TEST with a DRY order for position 1, and Z1 lit. Z1 trips by light alone, and its clearing set names sixteen times the
ninth position, which has no minimum pulse; positions 1 to 8 have the factory's 150 ms. -/
def crowdedTest : State :=
  { ninthPosition with
    zones := .fresh (List.replicate 16 9) [] :: List.replicate 7 (.fresh [] [])
    orders := [{
      position := 1, attr := .dry, stage := .driving, causes := [⟨.test, 0⟩], further := 0, testOnly := true
      startedAt := 0, deadline := 1440000, supervised := true, escalated := none, remoteHeld := false }]
    records := [dryRecord], notices := []
    control := { State.reset.control with state := .test, testDeadline := some 0 }
    settings := { ninthPosition.settings with
      active := { ninthPosition.settings.active with
        topology := { ninthPosition.settings.active.topology with
          zones := { ZoneSettings.factory with mode := .lightOnly, members := [1] } :: List.replicate 7 .factory } } } }

/-- One order a position, the OPEN record the newest, a minimum pulse for each of the eight positions. -/
theorem crowdedTest_fits : crowdedTest.oneOrderEach ∧ crowdedTest.openAgrees ∧
    ∀ q ∈ upTo 8, 0 < (crowdedTest.positionSet q).minPulse := by
  unfold State.oneOrderEach State.openAgrees
  decide

/-- Wherever the withdrawal is claimed for `crowdedTest`, the record of its order has to be held still. -/
theorem crowdedTest_keeps {first : List Notice} {t : State} (h : crowdedTest.dryWithdrawn first t) :
    ∃ q ∈ t.records, q.number = 100 := by
  obtain ⟨hone, hopen, hpulse⟩ := crowdedTest_fits
  obtain ⟨⟨q, hq, hnumber, -⟩, -⟩ := h.2 hone hopen hpulse dryRecord (List.mem_singleton_self _) rfl
  exact ⟨q, hq, hnumber⟩

set_option maxRecDepth 20000 in
/-- The timeout has Z1 trip anew, and sixteen records come after that of the withdrawn order. -/
theorem crowdedTest_timeout : ∃ t, exec .testTimeout crowdedTest = .next t ∧ ∀ q ∈ t.records, q.number ≠ 100 :=
  ⟨_, rfl, by decide⟩

set_option maxRecDepth 20000 in
/-- So does a SET_STATE for IN_SERVICE. -/
theorem crowdedTest_setState : ∃ t, exec (.setState [1]) crowdedTest = .next t ∧ ∀ q ∈ t.records, q.number ≠ 100 :=
  ⟨_, rfl, by decide⟩

/-- Refutes O15, at what TEST_TIMEOUT leaves of the trip record: in `crowdedTest` the record of the withdrawn order is held no
more when the command ends. -/
theorem not_startingAndTestEnd : ¬ Obligations.StartingAndTestEnd := by
  unfold Obligations.StartingAndTestEnd
  rintro ⟨-, -, -, htest⟩
  obtain ⟨u, hu, -, -, -, -, -, hdry, -⟩ := htest crowdedTest rfl rfl 0 rfl
  obtain ⟨t, ht, hgone⟩ := crowdedTest_timeout
  obtain rfl : t = u := by injection ht.symm.trans hu
  obtain ⟨q, hq, hnumber⟩ := crowdedTest_keeps hdry
  exact hgone q hq hnumber

/-- Refutes O16, at what leaving TEST for IN_SERVICE leaves of the trip record, by the same state. -/
theorem not_setStateFollowsItsTable : ¬ Obligations.SetStateFollowsItsTable := by
  unfold Obligations.SetStateFollowsItsTable
  intro h
  obtain ⟨-, -, -, -, -, hchanged⟩ := h crowdedTest 1 ⟨rfl, rfl, rfl⟩
  obtain ⟨u, hu, -, -, -, hdry, -⟩ := hchanged .inService (by decide) (.inr (.inr (.inl ⟨rfl, rfl, rfl⟩)))
  obtain ⟨t, ht, hgone⟩ := crowdedTest_setState
  obtain rfl : t = u := by injection ht.symm.trans hu
  obtain ⟨q, hq, hnumber⟩ := crowdedTest_keeps (hdry rfl)
  exact hgone q hq hnumber

end Sys2Proof.Machine
end
